-- ==== Sys2Proof/Word.lean ====
section
/-! DEFINITION. The plain number types of the UJEX-C8 (00_scope.md, Conventions): bytes of the links, and the index
types of its eight cranes, sixty-four cells and four site signal lines. -/

namespace Sys2Proof

/-- One byte on a link. -/
abbrev Byte := BitVec 8

/-- A crane of the cluster. Crane number n (1..8) is the index n − 1. -/
abbrev Crane := Fin 8

/-- A cell of the site map. Cell number n (1..64) is the index n − 1. -/
abbrev CellNo := Fin 64

/-- A site signal line. Line SIGn (1..4) is the index n − 1. -/
abbrev SigLine := Fin 4

end Sys2Proof
end

