-- ==== Sys2Proof/Syntax.lean ====
section
/-! DEFINITION. The commands of the UJEX-C8: one constructor of `Instr` for each row of spec/opcode_table.json, and the
requests that a port's frames carry (R158 to R161). A request's numbers are held as they stand in the frame, in or out
of range; the rule of the request judges them. -/

namespace Sys2Proof

/-- The two supervisor links. -/
inductive Sup where
  | s1 | s2
  deriving DecidableEq, Repr

/-- The ten serial links: C1..C8 and S1, S2. -/
inductive Port where
  | c (n : Crane)
  | s (x : Sup)
  deriving DecidableEq, Repr

/-- The two anemometer channels. -/
inductive Channel where
  | a | b
  deriving DecidableEq, Repr

/-- A set of motion lines (R160: bit 0 SLEW_L up to bit 4 HOIST_DN). -/
structure Lines where
  slewL : Bool
  slewR : Bool
  trolOut : Bool
  trolIn : Bool
  hoistDn : Bool
  deriving DecidableEq, Repr

/-- A set of notice classes (R160, R162). -/
structure Classes where
  zone : Bool
  wind : Bool
  booking : Bool
  crane : Bool
  site : Bool
  deriving DecidableEq, Repr

/-- The body of a REPORT as sent (R159): θ, r, h and the doubt byte unsigned, ω and v signed. -/
structure RawReport where
  theta : Nat
  omega : Int
  r : Nat
  v : Int
  h : Nat
  doubt : Nat
  deriving DecidableEq, Repr

/-- A crane declaration (R2), its fields in table order after the crane number. -/
structure Decl where
  jib : Nat
  hookMax : Nat
  park : Nat
  reaction : Nat
  slewDec : Nat
  trolDec : Nat
  slewMargin : Nat
  radMargin : Nat
  windFactor : Nat
  /-- 1 for yes, 0 for no; any other staged value is out of range (R8, R11). -/
  vanePermit : Nat
  deriving DecidableEq, Repr

/-- One member of a STAGE_CELL record as sent (R160): crane and role are four bits each. -/
structure RawMember where
  crane : Nat
  role : Nat
  start : Nat
  len : Nat
  rMin : Nat
  rMax : Nat
  clearance : Nat
  deriving DecidableEq, Repr

/-- One cell record of a STAGE_CELL as sent (R160). -/
structure RawRecord where
  guarded : Bool
  ruling : Bool
  members : List RawMember
  deriving DecidableEq, Repr

/-- The site parameters as sent by STAGE_SITE, in the order of R5. -/
structure RawParams where
  silence : Nat
  lost : Nat
  enterWait : Nat
  recallLimit : Nat
  parkTimeout : Nat
  commitWait : Nat
  endHold : Nat
  holdoff : Nat
  deriving DecidableEq, Repr

/-- A threshold set (R109): four pairs of levels and three calm periods. -/
structure Thresholds where
  alertSet : Nat
  alertRel : Nat
  holdSet : Nat
  holdRel : Nat
  stopSet : Nat
  stopRel : Nat
  meanSet : Nat
  meanRel : Nat
  alertCalm : Nat
  holdCalm : Nat
  stopCalm : Nat
  deriving DecidableEq, Repr

/-- The body of a BOOK after the crane byte (R132, R160). -/
structure BookFields where
  start : Nat
  duration : Nat
  late : Nat
  cls : Nat
  inspect : Nat
  cells : List Nat
  deriving DecidableEq, Repr

/-- The body of a SETCAL (R108, R160). -/
structure RawCal where
  kA : Nat
  filterA : Nat
  kB : Nat
  filterB : Nat
  deriving DecidableEq, Repr

/-- The body of a SETSIGNAL after the line (R92, R160). -/
structure RawSignal where
  enable : Nat
  source : Nat
  sense : Nat
  mode : Nat
  deriving DecidableEq, Repr

/-- The request kinds of R160. -/
inductive ReqKind where
  | report | enter | leave | book | cancel | endLift | park | service | oos | status | noticeMask | take | handover
  | restart | forceRelease | inhibitSet | inhibitClear | setSignal | setInput | rule | abort | finish | setClock
  | siteStop | resume | setWind | setCal | stageClear | stageCopy | stageCrane | stageCell | stageRemoveCell
  | stageSite | commit | commitCancel
  deriving DecidableEq, Repr

/-- The thirty-five requests of R160. `who` is the crane number of a request marked "crane first": present on a
supervisor link, absent on a crane link. -/
inductive Request where
  | report (r : RawReport)
  | enter (who : Option Nat) (cell : Nat)
  | leave (who : Option Nat) (cell : Nat)
  | book (who : Option Nat) (f : BookFields)
  | cancel (number : Nat)
  | endLift
  | park (who : Option Nat)
  | service (who : Option Nat)
  | oos (who : Option Nat)
  | status (target number : Nat)
  | noticeMask (m : Classes)
  | take
  | handover
  | restart
  | forceRelease (cell : Nat)
  | inhibitSet (crane : Nat) (m : Lines)
  | inhibitClear (crane : Nat) (m : Lines)
  | setSignal (line : Nat) (cfg : RawSignal)
  | setInput (crane input sel : Nat)
  | rule (number ruling : Nat)
  | abort (number : Nat)
  | finish (number : Nat)
  | setClock (value : Nat)
  | siteStop
  | resume
  | setWind (t : Thresholds)
  | setCal (k : RawCal)
  | stageClear
  | stageCopy
  | stageCrane (crane : Nat) (d : Option Decl)
  | stageCell (first : Nat) (recs : List RawRecord)
  | stageRemoveCell (cell : Nat)
  | stageSite (p : RawParams)
  | commit
  | commitCancel
  deriving DecidableEq, Repr

/-- The kind of a request. -/
def Request.kind : Request → ReqKind
  | .report _ => .report
  | .enter _ _ => .enter
  | .leave _ _ => .leave
  | .book _ _ => .book
  | .cancel _ => .cancel
  | .endLift => .endLift
  | .park _ => .park
  | .service _ => .service
  | .oos _ => .oos
  | .status _ _ => .status
  | .noticeMask _ => .noticeMask
  | .take => .take
  | .handover => .handover
  | .restart => .restart
  | .forceRelease _ => .forceRelease
  | .inhibitSet _ _ => .inhibitSet
  | .inhibitClear _ _ => .inhibitClear
  | .setSignal _ _ => .setSignal
  | .setInput _ _ _ => .setInput
  | .rule _ _ => .rule
  | .abort _ => .abort
  | .finish _ => .finish
  | .setClock _ => .setClock
  | .siteStop => .siteStop
  | .resume => .resume
  | .setWind _ => .setWind
  | .setCal _ => .setCal
  | .stageClear => .stageClear
  | .stageCopy => .stageCopy
  | .stageCrane _ _ => .stageCrane
  | .stageCell _ _ => .stageCell
  | .stageRemoveCell _ => .stageRemoveCell
  | .stageSite _ => .stageSite
  | .commit => .commit
  | .commitCancel => .commitCancel

/-- A complete frame as its port judges it (R161): a request, a frame of a kind the port does not carry, a frame whose
body length does not suit its kind, or a REPORT of the wrong length (R159). -/
inductive Frame where
  | request (r : Request)
  | badKind (kind : Byte)
  | badLength (kind : Byte)
  | badReport
  deriving DecidableEq, Repr

/-- The rows of spec/opcode_table.json. The first thirty-five are the requests, each with the port at which its frame
completes; the rest are the events of the links, the resets, the inputs, the wind unit, the timers and the store. -/
inductive Instr where
  | report (p : Port) (r : RawReport)
  | enter (p : Port) (who : Option Nat) (cell : Nat)
  | leave (p : Port) (who : Option Nat) (cell : Nat)
  | book (p : Port) (who : Option Nat) (f : BookFields)
  | cancel (p : Port) (number : Nat)
  | endLift (p : Port)
  | park (p : Port) (who : Option Nat)
  | service (p : Port) (who : Option Nat)
  | oos (p : Port) (who : Option Nat)
  | status (p : Port) (target number : Nat)
  | noticeMask (p : Port) (m : Classes)
  | take (p : Port)
  | handover (p : Port)
  | restart (p : Port)
  | forceRelease (p : Port) (cell : Nat)
  | inhibitSet (p : Port) (crane : Nat) (m : Lines)
  | inhibitClear (p : Port) (crane : Nat) (m : Lines)
  | setSignal (p : Port) (line : Nat) (cfg : RawSignal)
  | setInput (p : Port) (crane input sel : Nat)
  | rule (p : Port) (number ruling : Nat)
  | abort (p : Port) (number : Nat)
  | finish (p : Port) (number : Nat)
  | setClock (p : Port) (value : Nat)
  | siteStop (p : Port)
  | resume (p : Port)
  | setWind (p : Port) (t : Thresholds)
  | setCal (p : Port) (k : RawCal)
  | stageClear (p : Port)
  | stageCopy (p : Port)
  | stageCrane (p : Port) (crane : Nat) (d : Option Decl)
  | stageCell (p : Port) (first : Nat) (recs : List RawRecord)
  | stageRemoveCell (p : Port) (cell : Nat)
  | stageSite (p : Port) (v : RawParams)
  | commit (p : Port)
  | commitCancel (p : Port)
  /-- A complete frame of a kind the port does not carry (R161). -/
  | badKind (p : Port) (kind : Byte) (body : List Byte)
  /-- Bytes that arrive on a link one after another, the last of them the last byte of a frame (R158). -/
  | frameReceived (p : Port) (bytes : List Byte)
  | frameIdleTimeout (p : Port)
  | responseSent (p : Port)
  | noticeSent (p : Port)
  | powerOnReset
  | panelReset
  | restartReset
  | startUp
  /-- The debounced level taken, true for asserted (R38, R39). -/
  | parkSwEdge (c : Crane) (level : Bool)
  | vaneFbEdge (c : Crane) (level : Bool)
  | takeKeyTaken (level : Bool)
  /-- A pulse whose high level lasted `micros` µs (R98). -/
  | anemPulse (ch : Channel) (micros : Nat)
  | sample
  | faultHigh (ch : Channel)
  | faultStuck (ch : Channel)
  | channelClearRunReached (ch : Channel)
  | blockComplete
  | alertCalmReached
  | holdCalmReached
  | stopCalmReached
  | resumeReady
  | parkTimeout
  | silenceLimitExpiry (c : Crane)
  | lostLimitExpiry (c : Crane)
  /-- The wait timer of the crane's ENTRY request in the cell's list runs out (R67). -/
  | waitExpired (x : CellNo) (c : Crane)
  | recallOverdue (x : CellNo)
  | clockSecond
  | commitExpired
  /-- The write in progress ends; `good` says whether the read-back matches (R165). -/
  | storeWriteDone (good : Bool)
  | vaneFault (c : Crane)
  | pulseEnd (l : SigLine)
  | flashPhase (l : SigLine)
  | startByte (p : Port)
  /-- The supply fails; `corrupt` says whether the section being written is left with a bad CRC (R165). -/
  | lossOfSupply (corrupt : Bool)
  deriving DecidableEq, Repr

end Sys2Proof
end

