-- ==== Sys2Proof/Decode.lean ====
section
/-! DEFINITION. Frames on the links (R158 to R160): the CRC-16, the request a frame's kind and body spell at a port, and
the body that spells a request. No row of spec/opcode_table.json gives bits, so `decodeTableWord` answers none. -/

namespace Sys2Proof

/-! ### Bytes and CRC-16 -/

/-- A number from its bytes, high byte first (R158). -/
def beNat (bs : List Byte) : Nat := bs.foldl (fun acc b => acc * 256 + b.toNat) 0

/-- The low byte of a number. -/
def lowByte (n : Nat) : Byte := BitVec.ofNat 8 n

def be16 (n : Nat) : List Byte := [lowByte (n / 256), lowByte n]

def be24 (n : Nat) : List Byte := [lowByte (n / 65536), lowByte (n / 256), lowByte n]

def be32 (n : Nat) : List Byte := [lowByte (n / 16777216), lowByte (n / 65536), lowByte (n / 256), lowByte n]

/-- A two's complement number of `width` bits (R159). -/
def signedOf (width n : Nat) : Int := if n < 2 ^ (width - 1) then n else (n : Int) - 2 ^ width

/-- The bits of a two's complement number (R159). -/
def signedBits (width : Nat) (v : Int) : Nat := (v % 2 ^ width).toNat

def crcShift (c : BitVec 16) : BitVec 16 := if c.msb then (c <<< 1) ^^^ 0x1021#16 else c <<< 1

def crcByte (c : BitVec 16) (b : Byte) : BitVec 16 :=
  crcShift (crcShift (crcShift (crcShift (crcShift (crcShift (crcShift (crcShift
    (c ^^^ (b.setWidth 16 <<< 8)))))))))

/-- The CRC-16 of R158: polynomial 1021H, initial value FFFFH, most significant bit first, not reflected. -/
def crc16 (bs : List Byte) : BitVec 16 := bs.foldl crcByte 0xFFFF#16

/-! ### Kinds (R160) -/

/-- The kind code of a request. -/
def ReqKind.code : ReqKind → Byte
  | .report => 0x01
  | .enter => 0x02
  | .leave => 0x03
  | .book => 0x04
  | .cancel => 0x05
  | .endLift => 0x06
  | .park => 0x07
  | .service => 0x08
  | .oos => 0x09
  | .status => 0x0A
  | .noticeMask => 0x0B
  | .take => 0x0C
  | .handover => 0x0D
  | .restart => 0x0E
  | .forceRelease => 0x0F
  | .inhibitSet => 0x10
  | .inhibitClear => 0x11
  | .setSignal => 0x12
  | .setInput => 0x13
  | .rule => 0x14
  | .abort => 0x15
  | .finish => 0x16
  | .setClock => 0x17
  | .siteStop => 0x18
  | .resume => 0x19
  | .setWind => 0x1A
  | .setCal => 0x1B
  | .stageClear => 0x1C
  | .stageCopy => 0x1D
  | .stageCrane => 0x1E
  | .stageCell => 0x1F
  | .stageRemoveCell => 0x20
  | .stageSite => 0x21
  | .commit => 0x22
  | .commitCancel => 0x23

/-- The request kind a kind byte names, if the part knows one (R160). -/
def ReqKind.ofCode (b : Byte) : Option ReqKind :=
  match b.toNat with
  | 0x01 => some .report
  | 0x02 => some .enter
  | 0x03 => some .leave
  | 0x04 => some .book
  | 0x05 => some .cancel
  | 0x06 => some .endLift
  | 0x07 => some .park
  | 0x08 => some .service
  | 0x09 => some .oos
  | 0x0A => some .status
  | 0x0B => some .noticeMask
  | 0x0C => some .take
  | 0x0D => some .handover
  | 0x0E => some .restart
  | 0x0F => some .forceRelease
  | 0x10 => some .inhibitSet
  | 0x11 => some .inhibitClear
  | 0x12 => some .setSignal
  | 0x13 => some .setInput
  | 0x14 => some .rule
  | 0x15 => some .abort
  | 0x16 => some .finish
  | 0x17 => some .setClock
  | 0x18 => some .siteStop
  | 0x19 => some .resume
  | 0x1A => some .setWind
  | 0x1B => some .setCal
  | 0x1C => some .stageClear
  | 0x1D => some .stageCopy
  | 0x1E => some .stageCrane
  | 0x1F => some .stageCell
  | 0x20 => some .stageRemoveCell
  | 0x21 => some .stageSite
  | 0x22 => some .commit
  | 0x23 => some .commitCancel
  | _ => none

/-- The request kinds each port carries (R160, R161). -/
def Port.carries : Port → ReqKind → Bool
  | .c _, k => k.code.toNat ≤ 0x0A
  | .s _, k => k != .report && k != .endLift

/-! ### Bodies (R159, R160) -/

/-- The crane byte of a request marked "crane first": on a supervisor link alone (R160). -/
def craneFirst (p : Port) (body : List Byte) : Option (Option Nat × List Byte) :=
  match p, body with
  | .c _, b => some (none, b)
  | .s _, n :: b => some (some n.toNat, b)
  | .s _, [] => none

/-- A set of motion lines (R160). -/
def linesOf (b : Byte) : Lines := ⟨b.getLsbD 0, b.getLsbD 1, b.getLsbD 2, b.getLsbD 3, b.getLsbD 4⟩

/-- A set of notice classes (R160). -/
def classesOf (b : Byte) : Classes := ⟨b.getLsbD 0, b.getLsbD 1, b.getLsbD 2, b.getLsbD 3, b.getLsbD 4⟩

/-- One member of a STAGE_CELL record (R160). -/
def memberOf (b0 b1 b2 b3 b4 b5 b6 b7 : Byte) : RawMember :=
  let span := beNat [b1, b2, b3]
  let band := beNat [b4, b5, b6, b7]
  { crane := b0.toNat % 16, role := b0.toNat / 16, start := span / 4096, len := span % 4096,
    rMin := band / 4194304, rMax := band / 4096 % 1024, clearance := band % 4096 }

/-- `n` members and the bytes after them. -/
def parseMembers : Nat → List Byte → Option (List RawMember × List Byte)
  | 0, bs => some ([], bs)
  | n + 1, b0 :: b1 :: b2 :: b3 :: b4 :: b5 :: b6 :: b7 :: bs =>
    (parseMembers n bs).map fun (ms, rest) => (memberOf b0 b1 b2 b3 b4 b5 b6 b7 :: ms, rest)
  | _ + 1, _ => none

/-- `n` cell records, each with its header byte, and the bytes after them. -/
def parseRecords : Nat → List Byte → Option (List RawRecord × List Byte)
  | 0, bs => some ([], bs)
  | _ + 1, [] => none
  | n + 1, h :: bs =>
    (parseMembers (h.toNat / 16) bs).bind fun (ms, rest) =>
      (parseRecords n rest).map fun (rs, tail) => (⟨h.getLsbD 0, h.getLsbD 1, ms⟩ :: rs, tail)

/-- The request a body spells, or none where its length does not suit the kind (R160). A STAGE_CRANE whose form byte is
neither 0 nor 1 has no length tabled: taken as a body of the wrong length (DESIGN CHOICE, log entry 25). -/
def parseBody (p : Port) (k : ReqKind) (body : List Byte) : Option Request :=
  match k with
  | .report =>
    match body with
    | [t1, t0, w1, w0, r1, r0, v, h1, h0, d] =>
      some (.report ⟨beNat [t1, t0], signedOf 16 (beNat [w1, w0]), beNat [r1, r0], signedOf 8 v.toNat, beNat [h1, h0],
        d.toNat⟩)
    | _ => none
  | .enter => (craneFirst p body).bind fun (w, b) => match b with
    | [x] => some (.enter w x.toNat)
    | _ => none
  | .leave => (craneFirst p body).bind fun (w, b) => match b with
    | [x] => some (.leave w x.toNat)
    | _ => none
  | .book => (craneFirst p body).bind fun (w, b) => match b with
    | s3 :: s2 :: s1 :: s0 :: d1 :: d0 :: l1 :: l0 :: cls :: ins :: n :: cells =>
      if cells.length = n.toNat then
        some (.book w ⟨beNat [s3, s2, s1, s0], beNat [d1, d0], beNat [l1, l0], cls.toNat, ins.toNat,
          cells.map BitVec.toNat⟩)
      else none
    | _ => none
  | .cancel => match body with
    | [n1, n0] => some (.cancel (beNat [n1, n0]))
    | _ => none
  | .endLift => if body = [] then some .endLift else none
  | .park => (craneFirst p body).bind fun (w, b) => if b = [] then some (.park w) else none
  | .service => (craneFirst p body).bind fun (w, b) => if b = [] then some (.service w) else none
  | .oos => (craneFirst p body).bind fun (w, b) => if b = [] then some (.oos w) else none
  | .status => match body with
    | [t, n1, n0] => some (.status t.toNat (beNat [n1, n0]))
    | _ => none
  | .noticeMask => match body with
    | [m] => some (.noticeMask (classesOf m))
    | _ => none
  | .take => if body = [] then some .take else none
  | .handover => if body = [] then some .handover else none
  | .restart => if body = [] then some .restart else none
  | .forceRelease => match body with
    | [x] => some (.forceRelease x.toNat)
    | _ => none
  | .inhibitSet => match body with
    | [c, m] => some (.inhibitSet c.toNat (linesOf m))
    | _ => none
  | .inhibitClear => match body with
    | [c, m] => some (.inhibitClear c.toNat (linesOf m))
    | _ => none
  | .setSignal => match body with
    | [l, e, s, n, m] => some (.setSignal l.toNat ⟨e.toNat, s.toNat, n.toNat, m.toNat⟩)
    | _ => none
  | .setInput => match body with
    | [c, i, e] => some (.setInput c.toNat i.toNat e.toNat)
    | _ => none
  | .rule => match body with
    | [n1, n0, r] => some (.rule (beNat [n1, n0]) r.toNat)
    | _ => none
  | .abort => match body with
    | [n1, n0] => some (.abort (beNat [n1, n0]))
    | _ => none
  | .finish => match body with
    | [n1, n0] => some (.finish (beNat [n1, n0]))
    | _ => none
  | .setClock => match body with
    | [b3, b2, b1, b0] => some (.setClock (beNat [b3, b2, b1, b0]))
    | _ => none
  | .siteStop => if body = [] then some .siteStop else none
  | .resume => if body = [] then some .resume else none
  | .setWind => match body with
    | [a1, a0, b1, b0, c1, c0, d1, d0, e1, e0, f1, f0, g1, g0, h1, h0, i1, i0, j1, j0, k1, k0] =>
      some (.setWind ⟨beNat [a1, a0], beNat [b1, b0], beNat [c1, c0], beNat [d1, d0], beNat [e1, e0], beNat [f1, f0],
        beNat [g1, g0], beNat [h1, h0], beNat [i1, i0], beNat [j1, j0], beNat [k1, k0]⟩)
    | _ => none
  | .setCal => match body with
    | [a1, a0, fa, b1, b0, fb] => some (.setCal ⟨beNat [a1, a0], fa.toNat, beNat [b1, b0], fb.toNat⟩)
    | _ => none
  | .stageClear => if body = [] then some .stageClear else none
  | .stageCopy => if body = [] then some .stageCopy else none
  | .stageCrane => match body with
    | [c, form] => if form = 1 then some (.stageCrane c.toNat none) else none
    | [c, form, j1, j0, h1, h0, p1, p0, t1, t0, as_, at_, mb, mr, k, v] =>
      if form = 0 then
        some (.stageCrane c.toNat (some ⟨beNat [j1, j0], beNat [h1, h0], beNat [p1, p0], beNat [t1, t0], as_.toNat,
          at_.toNat, mb.toNat, mr.toNat, k.toNat, v.toNat⟩))
      else none
    | _ => none
  | .stageCell => match body with
    | n :: count :: recs =>
      match parseRecords count.toNat recs with
      | some (rs, []) => some (.stageCell n.toNat rs)
      | _ => none
    | _ => none
  | .stageRemoveCell => match body with
    | [x] => some (.stageRemoveCell x.toNat)
    | _ => none
  | .stageSite => match body with
    | [s1, s0, l, e, r1, r0, p1, p0, w1, w0, h, o] =>
      some (.stageSite ⟨beNat [s1, s0], l.toNat, e.toNat, beNat [r1, r0], beNat [p1, p0], beNat [w1, w0], h.toNat,
        o.toNat⟩)
    | _ => none
  | .commit => if body = [] then some .commit else none
  | .commitCancel => if body = [] then some .commitCancel else none

/-- A complete frame as its port judges it (R158, R159, R161). -/
def decodeFrame (p : Port) (kind : Byte) (body : List Byte) : Frame :=
  match ReqKind.ofCode kind with
  | none => .badKind kind
  | some k =>
    if p.carries k then
      match parseBody p k body with
      | some r => .request r
      | none => if k = .report then .badReport else .badLength kind
    else .badKind kind

/-! ### The body that spells a request -/

def craneByte : Option Nat → List Byte
  | none => []
  | some n => [lowByte n]

def boolBit (b : Bool) (weight : Nat) : Nat := if b then weight else 0

def linesByte (m : Lines) : Byte :=
  lowByte (boolBit m.slewL 1 + boolBit m.slewR 2 + boolBit m.trolOut 4 + boolBit m.trolIn 8 + boolBit m.hoistDn 16)

def classesByte (m : Classes) : Byte :=
  lowByte (boolBit m.zone 1 + boolBit m.wind 2 + boolBit m.booking 4 + boolBit m.crane 8 + boolBit m.site 16)

def memberBytes (m : RawMember) : List Byte :=
  [lowByte (m.crane + 16 * m.role)] ++ be24 (m.start * 4096 + m.len)
    ++ be32 (m.rMin * 4194304 + m.rMax * 4096 + m.clearance)

def membersBytes : List RawMember → List Byte
  | [] => []
  | m :: ms => memberBytes m ++ membersBytes ms

def recordsBytes : List RawRecord → List Byte
  | [] => []
  | r :: rs =>
    lowByte (boolBit r.guarded 1 + boolBit r.ruling 2 + 16 * r.members.length) :: membersBytes r.members
      ++ recordsBytes rs

/-- The body of a request's frame, its fields in the order of R160. -/
def requestBody : Request → List Byte
  | .report r =>
    be16 r.theta ++ be16 (signedBits 16 r.omega) ++ be16 r.r ++ [lowByte (signedBits 8 r.v)] ++ be16 r.h
      ++ [lowByte r.doubt]
  | .enter w x => craneByte w ++ [lowByte x]
  | .leave w x => craneByte w ++ [lowByte x]
  | .book w f =>
    craneByte w ++ be32 f.start ++ be16 f.duration ++ be16 f.late
      ++ [lowByte f.cls, lowByte f.inspect, lowByte f.cells.length] ++ f.cells.map lowByte
  | .cancel n => be16 n
  | .endLift => []
  | .park w => craneByte w
  | .service w => craneByte w
  | .oos w => craneByte w
  | .status t n => lowByte t :: be16 n
  | .noticeMask m => [classesByte m]
  | .take => []
  | .handover => []
  | .restart => []
  | .forceRelease x => [lowByte x]
  | .inhibitSet c m => [lowByte c, linesByte m]
  | .inhibitClear c m => [lowByte c, linesByte m]
  | .setSignal l g => [lowByte l, lowByte g.enable, lowByte g.source, lowByte g.sense, lowByte g.mode]
  | .setInput c i e => [lowByte c, lowByte i, lowByte e]
  | .rule n r => be16 n ++ [lowByte r]
  | .abort n => be16 n
  | .finish n => be16 n
  | .setClock v => be32 v
  | .siteStop => []
  | .resume => []
  | .setWind t =>
    be16 t.alertSet ++ be16 t.alertRel ++ be16 t.holdSet ++ be16 t.holdRel ++ be16 t.stopSet ++ be16 t.stopRel
      ++ be16 t.meanSet ++ be16 t.meanRel ++ be16 t.alertCalm ++ be16 t.holdCalm ++ be16 t.stopCalm
  | .setCal k => be16 k.kA ++ [lowByte k.filterA] ++ be16 k.kB ++ [lowByte k.filterB]
  | .stageClear => []
  | .stageCopy => []
  | .stageCrane c none => [lowByte c, 1]
  | .stageCrane c (some d) =>
    [lowByte c, 0] ++ be16 d.jib ++ be16 d.hookMax ++ be16 d.park ++ be16 d.reaction
      ++ [lowByte d.slewDec, lowByte d.trolDec, lowByte d.slewMargin, lowByte d.radMargin, lowByte d.windFactor,
        lowByte d.vanePermit]
  | .stageCell n rs => lowByte n :: lowByte rs.length :: recordsBytes rs
  | .stageRemoveCell x => [lowByte x]
  | .stageSite v =>
    be16 v.silence ++ [lowByte v.lost, lowByte v.enterWait] ++ be16 v.recallLimit ++ be16 v.parkTimeout
      ++ be16 v.commitWait ++ [lowByte v.endHold, lowByte v.holdoff]
  | .commit => []
  | .commitCancel => []

/-- A whole frame: start byte, length, kind, body, CRC-16 over length, kind and body (R158). -/
def frameBytes (kind : Byte) (body : List Byte) : List Byte :=
  let inner := lowByte (body.length + 1) :: kind :: body
  0xA5 :: inner ++ be16 (crc16 inner).toNat

/-! ### The opcode table's words -/

/-- The command that a word of spec/opcode_table.json spells: the table gives its rows no bits, so none. -/
def decodeTableWord (_nbits _w : Nat) : Option Instr := none

end Sys2Proof
end

