-- ==== Sys2Proof/Config.lean ====
section
/-! DEFINITION. What the spec leaves open as a value (free values: constants with no body), and the fixed limits the
rules name. -/

namespace Sys2Proof.Config

/-- FREE VALUE (log entry 3). What STATUS shows for a count that is not a whole number of the unit the rules name (the
seconds left on the commit wait, recall and park timers R22, R80, R128, the tenths of R96, the quarter-second calm
count of R128): the rules give the unit and no rounding. The arguments are the exact count and the number of counts in
one unit. -/
opaque roundedQuotient : Nat → Nat → Nat

/-- Notices a port's queue holds (R162). -/
def noticeQueueMax : Nat := 16

/-- Complete frames a port's receive buffer holds (R161). -/
def rxBufferMax : Nat := 2

/-- Live bookings the lift book holds (R129). -/
def bookMax : Nat := 96

/-- The largest value of the site clock (R143). -/
def clockMax : Nat := 4294967295

/-- The booking horizon in seconds (R134). -/
def horizon : Nat := 604800

/-- The greatest number of cells of which a crane may be a member (R4, R11). -/
def memberMax : Nat := 24

/-- One tick of the model's idle step in milliseconds: the step in which R23 counts the time since last report. -/
def tickMs : Nat := 10

/-- The feedback wait of R90 in milliseconds. -/
def feedbackMs : Nat := 10000

/-- The pulse of R94 in milliseconds. -/
def pulseMs : Nat := 2000

/-- The flash phase of R94 in milliseconds. -/
def flashMs : Nat := 500

/-- The gate of R99 in milliseconds. -/
def gateMs : Nat := 250

/-- The end of the count of the time since last report (R23) in milliseconds. -/
def sinceMax : Nat := 3600000

end Sys2Proof.Config
end

