-- ==== Sys2Proof/Machine/State.lean ====
section
/-! DEFINITION. The state of the UJEX-C8, block by block (00_scope.md, Block overview), and the state after reset. Every
field is plain data. Durations are held in milliseconds left unless a field says otherwise. -/

namespace Sys2Proof.Machine

/-! ### Links (chapter 10) -/

/-- The reason codes of a REFUSED response (10.2). -/
inductive Reason where
  | badKind | badField | notAuthority | noMap | noClock | noCrane | noCell | notMember | wind | draining | link | duty
  | already | booked | notHeld | notParked | inProgress | brake | mapInvalid | commitPending | noCommit | tooLate
  | horizon | overlap | bookFull | notReferred | noBooking | noLift | notInspect | notReady | key
  deriving DecidableEq, Repr

/-- The classes of notices a supervisor's mask enables (R162). -/
inductive NoticeClass where
  | zone | wind | booking | crane | site
  deriving DecidableEq, Repr

/-- One field of a frame body in the form of R160, for the bodies that are lists of items (STATUS). -/
inductive Field where
  | u8 (n : Nat)
  | u16 (n : Nat)
  | u32 (n : Nat)
  | i8 (v : Int)
  | i16 (v : Int)
  deriving DecidableEq, Repr

/-- A port's transmitter (R161). -/
inductive Tx where
  | free | response | notice
  deriving DecidableEq, Repr

/-! ### Site map (chapter 1) -/

/-- A member's role in a cell (R3, R4); band and clearance belong to a LINE member alone. -/
inductive Role where
  | jib
  | line (rMin rMax clearance : Nat)
  deriving DecidableEq, Repr

/-- A member of a cell record (R3). `crane` is the crane number, checked at COMMIT. -/
structure Member where
  crane : Nat
  role : Role
  start : Nat
  len : Nat
  deriving DecidableEq, Repr

/-- A cell record of a map (R3). -/
structure CellDecl where
  guarded : Bool
  ruling : Bool
  members : List Member
  deriving DecidableEq, Repr

/-- The crane declarations and cell records of a map (R1). -/
structure MapBody where
  decls : Vector (Option Decl) 8
  cells : Vector (Option CellDecl) 64
  deriving DecidableEq, Repr

/-- The end-hold policy (R5). -/
inductive EndHold where
  | none | heavy | all
  deriving DecidableEq, Repr

/-- The site parameters (R5). `silence` is in milliseconds, the other limits in seconds. -/
structure SiteParams where
  silence : Nat
  lost : Nat
  enterWait : Nat
  recallLimit : Nat
  parkTimeout : Nat
  commitWait : Nat
  endHold : EndHold
  holdoff : Bool
  deriving DecidableEq, Repr

/-- The commit state with the commit wait timer (ch. 1 table): the timer runs exactly while PENDING. -/
inductive CommitState where
  | idle
  | pending (left : Nat)
  deriving DecidableEq, Repr

/-- The site map unit. `active = none` is the site condition NO_MAP. -/
structure MapUnit where
  active : Option MapBody
  params : SiteParams
  staged : MapBody
  stagedParams : SiteParams
  commit : CommitState
  draining : Vector Bool 64
  deriving DecidableEq, Repr

/-! ### Crane table (chapter 2) -/

/-- Stored report values and doubt flags (R23, R27). -/
structure Report where
  theta : Nat
  omega : Int
  r : Nat
  v : Int
  h : Nat
  doubtAngle : Bool
  doubtRadius : Bool
  doubtHook : Bool
  deriving DecidableEq, Repr

/-- The clamp flags of the last accepted report (R26). -/
structure ClampFlags where
  omega : Bool
  r : Bool
  v : Bool
  h : Bool
  deriving DecidableEq, Repr

inductive LinkState where
  | none | live | stale | lost
  deriving DecidableEq, Repr

inductive Duty where
  | undeclared | inService | parked | outOfService
  deriving DecidableEq, Repr

/-- A debounced input level (R23, R39, R163). -/
inductive Level where
  | unsettled | asserted | notAsserted
  deriving DecidableEq, Repr

/-- An edge notice selection (R40). -/
inductive EdgeSel where
  | none | rising | falling | both
  deriving DecidableEq, Repr

/-- The two feedback inputs of a crane (R40). -/
inductive Input where
  | parkSw | vaneFb
  deriving DecidableEq, Repr

/-- A crane runtime record (R23). `since` is the time since last report. -/
structure CraneRec where
  report : Option Report
  clamp : ClampFlags
  link : LinkState
  since : Option Nat
  duty : Duty
  parkSw : Level
  vaneFb : Level
  parkSel : EdgeSel
  vaneSel : EdgeSel
  vaneFault : Bool
  lift : Option Nat
  due : Option Nat
  deriving DecidableEq, Repr

/-! ### Envelope unit (chapter 3) -/

/-- The outcome of stages 1 to 5 of a full computation (R43 to R49). -/
structure Envelope where
  gust : Nat
  lead : Nat
  margin : Nat
  forward : Nat
  angStart : Nat
  angLen : Nat
  radLo : Nat
  radHi : Nat
  deriving DecidableEq, Repr

/-- An envelope record (R43). `touch` is the touch set in cell-number order, each cell with its closing motions. -/
structure EnvRec where
  env : Option Envelope
  sat : Bool
  reportSet : Option (List CellNo)
  touch : List (CellNo × Lines)
  deriving DecidableEq, Repr

/-! ### Cell table (chapter 4) -/

inductive GrantKind where
  | entry | auto | booked
  deriving DecidableEq, Repr

/-- A grant: the holder and the grant kind of a HELD cell (R58). -/
structure Grant where
  holder : Crane
  kind : GrantKind
  deriving DecidableEq, Repr

/-- A waiting-list entry (R61); the arrival of a request is its place in the list. `left` is the wait timer. -/
inductive Entry where
  | claim (booking : Nat) (crane : Crane) (start : Nat)
  | entry (crane : Crane) (left : Nat)
  | auto (crane : Crane)
  deriving DecidableEq, Repr

/-- The kind of a waiting-list entry (R61). -/
inductive EntryKind where
  | claim | entry | auto
  deriving DecidableEq, Repr

/-- Recall state with the recall timer (R58, R76, R77). -/
inductive Recall where
  | idle
  | running (left : Nat)
  | overdue
  deriving DecidableEq, Repr

/-- A cell runtime record (R58). `grant = none` is FREE. -/
structure CellRec where
  grant : Option Grant
  covered : Option Nat
  list : List Entry
  recallState : Recall
  deriving DecidableEq, Repr

/-- The cause a CELL notice carries (R79). -/
inductive CellCause where
  | enter | auto | admission | leave | autoRelease | park | bookingRelease | force
  deriving DecidableEq, Repr

/-! ### Output unit (chapter 5) -/

/-- A crane's feedback check with its timer (R90). -/
inductive Check where
  | idle
  | releaseWait (left : Nat)
  | applyWait (left : Nat)
  deriving DecidableEq, Repr

/-- The set of lines each inhibit source asserts (R81). -/
structure SourceSets where
  zone : Lines
  link : Lines
  duty : Lines
  wind : Lines
  map : Lines
  manual : Lines
  deriving DecidableEq, Repr

/-- The output unit's record of a crane. `lines` are the levels of the motion inhibit lines; `composed` says whether
VANE_RELEASE has been composed since the last reset (R89); `withheld` holds the cells that withhold it, with their
holders (R88). -/
structure OutRec where
  src : SourceSets
  lines : Lines
  vane : Bool
  composed : Bool
  withheld : List (CellNo × Crane)
  check : Check
  deriving DecidableEq, Repr

/-- The ten site signal sources, in the order of R93. -/
inductive SigSource where
  | windAlert | windHold | windStop | windVane | craneLost | zoneInhibit | recallOverdue | anemometerFault | noMap
  | vaneFault
  deriving DecidableEq, Repr

inductive Sense where
  | activeHigh | activeLow
  deriving DecidableEq, Repr

inductive SigMode where
  | level | pulse | flash
  deriving DecidableEq, Repr

/-- A site signal line's configuration (R92). -/
structure SigCfg where
  enabled : Bool
  source : SigSource
  sense : Sense
  mode : SigMode
  deriving DecidableEq, Repr

/-- How a line's pin is driven (R94, R96). -/
inductive Drive where
  | active | inactive | undriven
  deriving DecidableEq, Repr

/-- A site signal line: its configuration, its drive and the timer of a running pulse or flash phase (R94). -/
structure SigRec where
  cfg : SigCfg
  drive : Drive
  phase : Option Nat
  deriving DecidableEq, Repr

/-- The present value of each signal source (R93). -/
structure Sources where
  windAlert : Bool
  windHold : Bool
  windStop : Bool
  windVane : Bool
  craneLost : Bool
  zoneInhibit : Bool
  recallOverdue : Bool
  anemometerFault : Bool
  noMap : Bool
  vaneFault : Bool
  deriving DecidableEq, Repr

/-! ### Wind unit (chapters 6 and 7) -/

inductive ChanStatus where
  | disabled | valid | faultHigh | faultStuck
  deriving DecidableEq, Repr

/-- One channel's calibration K and pulse filter (R98). -/
structure CalSetting where
  k : Nat
  filter : Bool
  deriving DecidableEq, Repr

/-- A full calibration for both channels (R108). -/
structure Cal where
  a : CalSetting
  b : CalSetting
  deriving DecidableEq, Repr

/-- One anemometer channel (R97). `last` is the last completed gate count (R112). -/
structure ChanRec where
  cal : CalSetting
  count : Nat
  last : Option Nat
  speed : Option Nat
  status : ChanStatus
  highRun : Nat
  stuckRun : Nat
  clearRun : Nat
  deriving DecidableEq, Repr

/-- The measurement state (R97). `gateLeft` is the model's own: the time left in the gate in progress (R99). -/
structure Meas where
  a : ChanRec
  b : ChanRec
  waiting : Option Cal
  effective : Option Nat
  sensorCause : Bool
  ring : List Nat
  gust : Option Nat
  warmup : Bool
  accSum : Nat
  accCount : Nat
  meanRing : List Nat
  mean : Option Nat
  active : Thresholds
  pendingSet : Option Thresholds
  gateLeft : Nat
  deriving DecidableEq, Repr

inductive WindState where
  | calm | alert | hold | stop | vane
  deriving DecidableEq, Repr

inductive WindCause where
  | gust | mean | sensor | manual | warmup | parked | timeout
  deriving DecidableEq, Repr

/-- The wind state record (R113). -/
structure WindRec where
  state : WindState
  cause : WindCause
  manual : Bool
  ready : Bool
  alertCount : Nat
  holdCount : Nat
  stopCount : Nat
  parkTimer : Option Nat
  deriving DecidableEq, Repr

/-! ### Lift book (chapter 8) and clock (chapter 9) -/

inductive LoadClass where
  | normal | heavy
  deriving DecidableEq, Repr

inductive BookState where
  | referred | booked | due | admitted | landing | inspect
  deriving DecidableEq, Repr

/-- A booking record (R129). `note` is the referral note. -/
structure Booking where
  number : Nat
  crane : Crane
  start : Nat
  duration : Nat
  late : Nat
  cls : LoadClass
  inspect : Bool
  cells : List CellNo
  origin : Port
  state : BookState
  overrun : Bool
  note : Option (List CellNo)
  deriving DecidableEq, Repr

/-- The terminal outcomes of a booking with their reasons (R130). -/
inductive BookOutcome where
  | complete | cancelledRequest | cancelledMap | rejected | lapsed | abortedRequest | abortedForce
  deriving DecidableEq, Repr

/-- The lift book. `live` is kept in order of start, and among equal starts in order of number. -/
structure Book where
  live : List Booking
  next : Nat
  deriving DecidableEq, Repr

/-- The site clock (R143). `secLeft` is the model's own: the time left to the next clock second. -/
structure Clock where
  count : Nat
  isSet : Bool
  secLeft : Nat
  deriving DecidableEq, Repr

/-! ### Store, authority and resets (chapter 10) -/

/-- The five stored sections, in the order of R165. -/
inductive Section where
  | map | options | calibration | threshold | signals
  deriving DecidableEq, Repr

/-- The contents of a section to be written. -/
inductive Content where
  | map (m : MapBody)
  | options (p : SiteParams)
  | calibration (k : Cal)
  | threshold (t : Thresholds)
  | signals (c : Vector SigCfg 4)
  deriving DecidableEq, Repr

/-- The load result of a section: `true` for GOOD. -/
structure Loads where
  map : Bool
  options : Bool
  calibration : Bool
  threshold : Bool
  signals : Bool
  deriving DecidableEq, Repr

/-- The store (R165). A section that reads back with a bad CRC-16 is `none`. `retry` says that the section being
written is being written once more after a mismatch. -/
structure Store where
  map : Option MapBody
  options : Option SiteParams
  calibration : Option Cal
  threshold : Option Thresholds
  signals : Option (Vector SigCfg 4)
  writing : Option Content
  retry : Bool
  waiting : List Content
  fault : Bool
  loads : Loads
  deriving DecidableEq, Repr

inductive ResetCause where
  | power | panel | command
  deriving DecidableEq, Repr

/-- Whether the part runs, is being reset (R167 step 1), or has no supply. -/
inductive Phase where
  | running | resetting | unpowered
  deriving DecidableEq, Repr

/-! ### Responses and notices -/

/-- The outcome byte of a response (R159). -/
inductive RespOutcome where
  | ok | granted | queued | refused
  deriving DecidableEq, Repr

/-- A field of BOOK in the order in which R133 judges them. -/
inductive BookField where
  | duration | lateLimit | loadClass | inspectFlag | cellCount | cellNumber | cellRepeat | window
  deriving DecidableEq, Repr

/-- The failure kinds of COMMIT (R11). -/
inductive MapFailure where
  | range | members | span | band | limit | vane
  deriving DecidableEq, Repr

/-- A booking's new state or its terminal outcome. -/
inductive BookNow where
  | state (b : BookState)
  | outcome (o : BookOutcome)
  deriving DecidableEq, Repr

/-- The result fields of a response after its outcome and reason code, as the rule of its request names them. -/
inductive Result where
  | nothing
  | unchanged
  | duty (d : Duty)
  /-- QUEUED: place, and the holder when the cell is HELD (R66). -/
  | queued (place : Nat) (holder : Option Crane)
  /-- ALREADY: the kind of the entry held (R65). -/
  | already (k : Option EntryKind)
  /-- FORCE_RELEASE: former holder and kind (R78). -/
  | released (g : Grant)
  | booked (number : Nat) (state : BookState) (start duration : Nat) (note : Option (List CellNo))
  | badCrane (n : Nat)
  | badBookField (f : BookField)
  | badCell (n : Nat)
  | clockNow (n : Nat)
  | overlap (number : Nat) (crane : Crane) (start duration : Nat)
  | bookState (b : BookState)
  /-- END: booking number and what it became (R155). -/
  | ended (number : Nat) (now : BookNow)
  | inhibits (manual : Lines) (lines : Lines) (src : SourceSets)
  | mask (m : Classes)
  | clockSet (former new made lapsed returned : Nat)
  | windNow (w : WindState) (c : WindCause)
  | flagCleared
  | resumedHold
  /-- SETWIND: samples left until the next block boundary (R110). -/
  | samplesLeft (n : Nat)
  /-- SETWIND refused: the failing value, numbered from 0 in the order of R109. -/
  | badThreshold (i : Nat)
  | stagedCounts (cranes cells : Nat)
  | mapInvalid (f : MapFailure) (n : Nat)
  | committed (cells : Nat)
  | commitPending (cells : Nat)
  /-- STATUS: the items in order, after the port's overflow flag (R162). -/
  | status (overflow : Bool) (items : List Field)
  deriving DecidableEq, Repr

/-- A response in a port's response slot (R159, R161). -/
structure Response where
  kind : Byte
  outcome : RespOutcome
  reason : Option Reason
  result : Result
  deriving DecidableEq, Repr

/-- Why a request entry was withdrawn (R63, R74, R75). -/
inductive WithdrawReason where
  | link | duty | booked
  deriving DecidableEq, Repr

inductive ReleaseCause where
  | leave | force
  deriving DecidableEq, Repr

inductive WindNoticeKind where
  | change | resumeReady | resumeWithdrawn
  deriving DecidableEq, Repr

inductive VaneFaultKind where
  | notReleased | notApplied | cleared
  deriving DecidableEq, Repr

/-- The request that moved the site authority (R163). -/
inductive AuthorityMove where
  | take | handover
  deriving DecidableEq, Repr

/-- The notices, with the fields their rules name. -/
inductive Notice where
  | granted (c : Crane) (x : CellNo) (k : GrantKind)
  | waitExpired (c : Crane) (x : CellNo)
  | withdrawn (c : Crane) (x : CellNo) (k : EntryKind) (why : WithdrawReason)
  | recalled (x : CellNo) (booking : Nat) (c : Crane)
  | released (x : CellNo) (why : ReleaseCause)
  | booking (number : Nat) (c : Crane) (former : Option BookState) (now : BookNow) (by_ : Option Port)
      (cells : Option (List CellNo))
  | overrun (number : Nat) (c : Crane) (start duration : Nat)
  | wind (k : WindNoticeKind) (former new : WindState) (cause : WindCause) (manual ready : Bool)
  | inhibit (c : Crane) (lines : Lines) (src : SourceSets)
  | duty (c : Crane) (former new : Duty) (p : Port)
  | input (c : Crane) (i : Input) (level : Bool)
  | vaneLine (c : Crane) (level : Bool)
  | vaneWithheld (c : Crane) (cells : List (CellNo × Grant))
  | vaneFault (c : Crane) (k : VaneFaultKind) (line fb : Bool)
  | parkLost (c : Crane) (d : Duty)
  | notParked (c : Crane) (lift : Option Nat)
  | cell (x : CellNo) (g : Option Grant) (why : CellCause)
  | recallOverdue (x : CellNo) (holder : Crane) (booking : Nat)
  | sensor (ch : Channel) (former new : ChanStatus) (anyValid : Bool)
  | calibration (k : Cal) (p : Port)
  | windTablePending (t : Thresholds) (p : Port)
  | windTableActive (t : Thresholds)
  | link (c : Crane) (former new : LinkState)
  | manualInhibit (c : Crane) (m : Lines) (p : Port)
  | mapDraining (cells : List CellNo)
  | mapCommitted (cells bookings : Nat)
  | commitExpired
  | commitCancelled
  | storeFault
  | signalConfig (l : SigLine) (cfg : SigCfg)
  | clock (former new : Nat) (p : Port)
  | authority (holder : Sup) (move : AuthorityMove)
  | started (cause : ResetCause) (loads : Loads)
  deriving DecidableEq, Repr

/-- A link port (R158, R161, R162). `rx = none` is HUNTING; in IN_FRAME it holds the bytes taken after the start byte. -/
structure PortRec where
  rx : Option (List Byte)
  buffer : List Frame
  slot : Option Response
  notices : List Notice
  overflow : Bool
  mask : Classes
  tx : Tx
  deriving DecidableEq, Repr

/-! ### The whole state -/

/-- The UJEX-C8. `pending` is the queue of commands that wait, oldest first. -/
structure State where
  pending : List Instr
  phase : Phase
  /-- The cause of the last reset, and of the one being taken (R166). -/
  cause : ResetCause
  /-- The OK response of a RESTART has been sent in full, so its reset is to be taken (R166). -/
  restartReady : Bool
  map : MapUnit
  cranes : Vector CraneRec 8
  envs : Vector EnvRec 8
  cells : Vector CellRec 64
  outs : Vector OutRec 8
  sigs : Vector SigRec 4
  sources : Sources
  meas : Meas
  wind : WindRec
  book : Book
  clock : Clock
  /-- The authority holder (R163). -/
  holder : Sup
  takeKey : Level
  store : Store
  /-- C1..C8 at 0..7, S1 at 8, S2 at 9. -/
  ports : Vector PortRec 10
  deriving DecidableEq, Repr

/-- Why the machine stops with a fault. Nothing raises one: the spec gives every command an effect in every state, so
the type has no constructor. -/
inductive Fault where
  deriving DecidableEq, Repr

/-- Why a command is refused. -/
inductive Refusal where
  /-- Raised by `exec` alone, for a row of the opcode table that has no meaning yet; safe. No arm raises it now. -/
  | notModelled (mnemonic : String)
  deriving DecidableEq, Repr

/-! ### Reset values -/

def noMotion : Lines := ⟨false, false, false, false, false⟩
def everyMotion : Lines := ⟨true, true, true, true, true⟩
def noClasses : Classes := ⟨false, false, false, false, false⟩
def everyClass : Classes := ⟨true, true, true, true, true⟩

/-- The defaults of R5. -/
def SiteParams.default : SiteParams := ⟨600, 5, 60, 90, 600, 300, .none, true⟩

/-- The defaults of R109. -/
def defaultThresholds : Thresholds := ⟨120, 100, 160, 140, 200, 170, 150, 120, 60, 300, 600⟩

/-- A map without declarations and cell records (R6). -/
def MapBody.empty : MapBody := ⟨Vector.replicate 8 none, Vector.replicate 64 none⟩

/-- R23, power-on column. -/
def CraneRec.reset : CraneRec :=
  ⟨none, ⟨false, false, false, false⟩, .none, none, .undeclared, .unsettled, .unsettled, .none, .none, false, none,
    none⟩

/-- R43, with the empty touch set of a crane that is not declared. -/
def EnvRec.reset : EnvRec := ⟨none, false, none, []⟩

/-- R58. -/
def CellRec.reset : CellRec := ⟨none, none, [], .idle⟩

/-- R86: the lines of a crane that is NONE and UNDECLARED at a site without a map; R89, R91. -/
def OutRec.reset : OutRec :=
  ⟨⟨noMotion, everyMotion, everyMotion, noMotion, everyMotion, noMotion⟩, everyMotion, false, false, [], .idle⟩

/-- R95: the configuration of a line whose section is bad. -/
def SigCfg.default : SigCfg := ⟨false, .windStop, .activeHigh, .level⟩

def SigRec.reset : SigRec := ⟨SigCfg.default, .undriven, none⟩

/-- R111: both channels with K = 0 and filter OFF. -/
def Cal.default : Cal := ⟨⟨0, false⟩, ⟨0, false⟩⟩

/-- R97, R111: a channel with the calibration `k` after a reset. -/
def ChanRec.reset (k : CalSetting) : ChanRec :=
  ⟨k, 0, none, none, if k.k = 0 then .disabled else .valid, 0, 0, 0⟩

/-- R97, R111. -/
def Meas.reset (k : Cal) (t : Thresholds) : Meas :=
  ⟨ChanRec.reset k.a, ChanRec.reset k.b, none, none, false, [], none, true, 0, 0, [], none, t, none, Config.gateMs⟩

/-- R126. -/
def WindRec.reset : WindRec := ⟨.hold, .warmup, false, false, 0, 0, 0, none⟩

def Loads.allBad : Loads := ⟨false, false, false, false, false⟩

/-- A store in which nothing has ever been written: every section has a bad CRC (DESIGN CHOICE, log entry 1). -/
def Store.blank : Store := ⟨none, none, none, none, none, none, false, [], false, Loads.allBad⟩

/-- R162, R166: a port after a reset, with its default notice mask. -/
def PortRec.reset (m : Classes) : PortRec := ⟨none, [], none, [], false, m, .free⟩

/-- R93 for the site of `State.reset`: NO_MAP, wind state HOLD, no valid channel. -/
def Sources.reset : Sources := ⟨true, true, false, false, false, false, false, true, true, false⟩

/-- The machine right after a power-on reset and its start-up (R167) with a blank store (log entry 1): no map, the
defaults of R5 and R109, both channels disabled, notice STARTED queued on S1 and S2 and being sent. -/
def State.reset : State where
  pending := []
  phase := .running
  cause := .power
  restartReady := false
  map := ⟨none, SiteParams.default, MapBody.empty, SiteParams.default, .idle, Vector.replicate 64 false⟩
  cranes := Vector.replicate 8 CraneRec.reset
  envs := Vector.replicate 8 EnvRec.reset
  cells := Vector.replicate 64 CellRec.reset
  outs := Vector.replicate 8 OutRec.reset
  sigs := Vector.replicate 4 SigRec.reset
  sources := Sources.reset
  meas := Meas.reset Cal.default defaultThresholds
  wind := WindRec.reset
  book := ⟨[], 1⟩
  clock := ⟨0, false, 1000⟩
  holder := .s1
  takeKey := .unsettled
  store := Store.blank
  ports :=
    ((Vector.replicate 10 (PortRec.reset noClasses)).set 8
      ⟨none, [], none, [.started .power Loads.allBad], false, everyClass, .notice⟩).set 9
      ⟨none, [], none, [.started .power Loads.allBad], false, noClasses, .notice⟩

end Sys2Proof.Machine
end

