-- ==== Sys2Proof/Machine/Operands.lean ====
section
/-! DEFINITION. How the numbers of a request name cranes, cells, lines and the values of lists (R160: numbered from 0 in
the order in which the rule lists the names), and the range checks of the site parameters, thresholds, calibration and
booking fields. -/

namespace Sys2Proof.Machine

/-! ### Cranes, cells, lines -/

def craneNo (c : Crane) : Nat := c.val + 1

def cellNo (x : CellNo) : Nat := x.val + 1

/-- The crane of a number 1..8. -/
def craneOf (n : Nat) : Option Crane := if h : 1 ≤ n ∧ n ≤ 8 then some ⟨n - 1, by omega⟩ else none

/-- The cell of a number 1..64. -/
def cellOf (n : Nat) : Option CellNo := if h : 1 ≤ n ∧ n ≤ 64 then some ⟨n - 1, by omega⟩ else none

/-- The signal line of a number 1..4. -/
def lineOf (n : Nat) : Option SigLine := if h : 1 ≤ n ∧ n ≤ 4 then some ⟨n - 1, by omega⟩ else none

def allCranes : List Crane := List.finRange 8

def allCells : List CellNo := List.finRange 64

def allLines : List SigLine := List.finRange 4

def allPorts : List Port := allCranes.map Port.c ++ [.s .s1, .s .s2]

/-- The crane a "crane first" request concerns: the link's own crane on a crane link, the named one on a supervisor
link (R160). -/
def craneNamed (p : Port) (who : Option Nat) : Option Crane :=
  match p with
  | .c n => some n
  | .s _ => who.bind craneOf

/-- The crane byte suits the port (R160, R161): a request marked "crane first" has it on a supervisor link alone. -/
def whoSuits (p : Port) (who : Option Nat) : Bool :=
  match p with
  | .c _ => who.isNone
  | .s _ => who.isSome

/-! ### Sets of motion lines -/

def linesUnion (a b : Lines) : Lines :=
  ⟨a.slewL || b.slewL, a.slewR || b.slewR, a.trolOut || b.trolOut, a.trolIn || b.trolIn, a.hoistDn || b.hoistDn⟩

def linesDiff (a b : Lines) : Lines :=
  ⟨a.slewL && !b.slewL, a.slewR && !b.slewR, a.trolOut && !b.trolOut, a.trolIn && !b.trolIn, a.hoistDn && !b.hoistDn⟩

/-! ### Names by number -/

/-- Load class (R129): NORMAL, HEAVY. -/
def loadClassOf : Nat → Option LoadClass
  | 0 => some .normal
  | 1 => some .heavy
  | _ => none

/-- A flag: 0 clear, 1 set (R160). -/
def flagOf : Nat → Option Bool
  | 0 => some false
  | 1 => some true
  | _ => none

/-- End-hold policy (R5): NONE, HEAVY, ALL. -/
def endHoldOf : Nat → Option EndHold
  | 0 => some .none
  | 1 => some .heavy
  | 2 => some .all
  | _ => none

/-- Signal line enable (R92): ENABLED, DISABLED. -/
def enableOf : Nat → Option Bool
  | 0 => some true
  | 1 => some false
  | _ => none

/-- Signal source, in the order of R93. -/
def sourceOf : Nat → Option SigSource
  | 0 => some .windAlert
  | 1 => some .windHold
  | 2 => some .windStop
  | 3 => some .windVane
  | 4 => some .craneLost
  | 5 => some .zoneInhibit
  | 6 => some .recallOverdue
  | 7 => some .anemometerFault
  | 8 => some .noMap
  | 9 => some .vaneFault
  | _ => none

/-- Sense (R92): ACTIVE_HIGH, ACTIVE_LOW. -/
def senseOf : Nat → Option Sense
  | 0 => some .activeHigh
  | 1 => some .activeLow
  | _ => none

/-- Mode (R92): LEVEL, PULSE, FLASH. -/
def modeOf : Nat → Option SigMode
  | 0 => some .level
  | 1 => some .pulse
  | 2 => some .flash
  | _ => none

/-- Input (R40): PARK_SW, VANE_FB. -/
def inputOf : Nat → Option Input
  | 0 => some .parkSw
  | 1 => some .vaneFb
  | _ => none

/-- Edge selection (R40): NONE, RISING, FALLING, BOTH. -/
def edgeSelOf : Nat → Option EdgeSel
  | 0 => some .none
  | 1 => some .rising
  | 2 => some .falling
  | 3 => some .both
  | _ => none

/-- Ruling (R137): ACCEPT (`true`), REJECT (`false`). -/
def rulingOf : Nat → Option Bool
  | 0 => some true
  | 1 => some false
  | _ => none

/-- A SETSIGNAL configuration (R92), or none where a value is unknown. -/
def sigCfgOf (g : RawSignal) : Option SigCfg :=
  match enableOf g.enable, sourceOf g.source, senseOf g.sense, modeOf g.mode with
  | some e, some s, some n, some m => some ⟨e, s, n, m⟩
  | _, _, _, _ => none

/-- A SETCAL's settings (R108), or none where a K or a filter value is out of range. -/
def calOf (k : RawCal) : Option Cal :=
  if k.kA ≤ 4095 ∧ k.kB ≤ 4095 then
    match flagOf k.filterA, flagOf k.filterB with
    | some fa, some fb => some ⟨⟨k.kA, fa⟩, ⟨k.kB, fb⟩⟩
    | _, _ => none
  else none

/-- The site parameters of a STAGE_SITE in range (R5, R10), or none. -/
def paramsOf (v : RawParams) : Option SiteParams :=
  if 200 ≤ v.silence ∧ v.silence ≤ 3000 ∧ v.silence % 10 = 0 ∧ 2 ≤ v.lost ∧ v.lost ≤ 60 ∧ 5 ≤ v.enterWait
      ∧ v.enterWait ≤ 255 ∧ 10 ≤ v.recallLimit ∧ v.recallLimit ≤ 600 ∧ 60 ≤ v.parkTimeout ∧ v.parkTimeout ≤ 1800
      ∧ 30 ≤ v.commitWait ∧ v.commitWait ≤ 1800 then
    match endHoldOf v.endHold, flagOf v.holdoff with
    | some e, some h => some ⟨v.silence, v.lost, v.enterWait, v.recallLimit, v.parkTimeout, v.commitWait, e, h⟩
    | _, _ => none
  else none

/-! ### Staged records -/

/-- A member as stored (R9): band and clearance are kept for a LINE member alone; any other role code is malformed. -/
def memberStored (m : RawMember) : Option Member :=
  match m.role with
  | 0 => some ⟨m.crane, .jib, m.start, m.len⟩
  | 1 => some ⟨m.crane, .line m.rMin m.rMax m.clearance, m.start, m.len⟩
  | _ => none

def membersStored : List RawMember → Option (List Member)
  | [] => some []
  | m :: ms =>
    match memberStored m, membersStored ms with
    | some a, some as_ => some (a :: as_)
    | _, _ => none

def recordStored (r : RawRecord) : Option CellDecl := (membersStored r.members).map fun ms => ⟨r.guarded, r.ruling, ms⟩

def recordsStored : List RawRecord → Option (List CellDecl)
  | [] => some []
  | r :: rs =>
    match recordStored r, recordsStored rs with
    | some a, some as_ => some (a :: as_)
    | _, _ => none

/-! ### Threshold sets -/

/-- The first failing value of a threshold set, numbered from 0 in the order of R109, or none where the set passes.
The checks stand in the order of R109: level ranges, each release below its set level, set levels in order, periods. -/
def thresholdsFailing (t : Thresholds) : Option Nat :=
  let bad (n : Nat) : Bool := n < 10 || 990 < n
  if bad t.alertSet then some 0
  else if bad t.alertRel then some 1
  else if bad t.holdSet then some 2
  else if bad t.holdRel then some 3
  else if bad t.stopSet then some 4
  else if bad t.stopRel then some 5
  else if bad t.meanSet then some 6
  else if bad t.meanRel then some 7
  else if t.alertSet ≤ t.alertRel then some 1
  else if t.holdSet ≤ t.holdRel then some 3
  else if t.stopSet ≤ t.stopRel then some 5
  else if t.meanSet ≤ t.meanRel then some 7
  else if t.holdSet < t.alertSet then some 2
  else if t.stopSet < t.holdSet then some 4
  else if t.alertCalm < 10 ∨ 3600 < t.alertCalm then some 8
  else if t.holdCalm < 10 ∨ 3600 < t.holdCalm then some 9
  else if t.stopCalm < 60 ∨ 3600 < t.stopCalm then some 10
  else none

/-! ### BOOK fields -/

def hasRepeat : List Nat → Bool
  | [] => false
  | n :: ns => ns.contains n || hasRepeat ns

/-- The first failing field of a BOOK in the order of R133, or none where all pass. -/
def bookFieldsFailing (f : BookFields) : Option BookField :=
  if f.duration < 60 ∨ 7200 < f.duration then some .duration
  else if f.duration ≤ f.late then some .lateLimit
  else if (loadClassOf f.cls).isNone then some .loadClass
  else if (flagOf f.inspect).isNone then some .inspectFlag
  else if f.cells.length < 1 ∨ 4 < f.cells.length then some .cellCount
  else if !(f.cells.all fun n => (cellOf n).isSome) then some .cellNumber
  else if hasRepeat f.cells then some .cellRepeat
  else if Config.clockMax < f.start + f.duration then some .window
  else none

end Sys2Proof.Machine
end

