-- ==== Sys2Proof/Machine/Codes.lean ====
section
/-! DEFINITION. The bytes of values in responses and notices (R160): a value chosen from a list of names is numbered from
0 in the order in which its rule lists the names; a flag is 0 or 1; a set of lines or classes is one byte; a field that
may be absent is preceded by its presence byte. A list is preceded by its count (log entry 16). -/

namespace Sys2Proof.Machine

/-! ### Forms -/

def flag (b : Bool) : Field := .u8 (boolBit b 1)

/-- A field that may be absent (R160). -/
def mayBe {α : Type} (f : α → List Field) : Option α → List Field
  | none => [.u8 0]
  | some a => .u8 1 :: f a

/-- A list with its count. -/
def listed {α : Type} (f : α → List Field) (l : List α) : List Field := .u8 l.length :: l.flatMap f

def craneField (c : Crane) : Field := .u8 (craneNo c)

def cellField (x : CellNo) : Field := .u8 (cellNo x)

def cellsField (l : List CellNo) : List Field := listed (fun x => [cellField x]) l

def linesField (m : Lines) : Field := .u8 (linesByte m).toNat

def classesField (m : Classes) : Field := .u8 (classesByte m).toNat

/-! ### Names by number -/

/-- The reason codes of 10.2. -/
def Reason.code : Reason → Nat
  | .badKind => 0x01
  | .badField => 0x02
  | .notAuthority => 0x03
  | .noMap => 0x04
  | .noClock => 0x05
  | .noCrane => 0x06
  | .noCell => 0x07
  | .notMember => 0x08
  | .wind => 0x09
  | .draining => 0x0A
  | .link => 0x0B
  | .duty => 0x0C
  | .already => 0x0D
  | .booked => 0x0E
  | .notHeld => 0x0F
  | .notParked => 0x10
  | .inProgress => 0x11
  | .brake => 0x12
  | .mapInvalid => 0x13
  | .commitPending => 0x14
  | .noCommit => 0x15
  | .tooLate => 0x16
  | .horizon => 0x17
  | .overlap => 0x18
  | .bookFull => 0x19
  | .notReferred => 0x1A
  | .noBooking => 0x1B
  | .noLift => 0x1C
  | .notInspect => 0x1D
  | .notReady => 0x1E
  | .key => 0x1F

/-- R159. -/
def RespOutcome.code : RespOutcome → Nat
  | .ok => 0
  | .granted => 1
  | .queued => 2
  | .refused => 3

/-- R23. -/
def LinkState.code : LinkState → Nat
  | .none => 0
  | .live => 1
  | .stale => 2
  | .lost => 3

/-- R23. -/
def Duty.code : Duty → Nat
  | .undeclared => 0
  | .inService => 1
  | .parked => 2
  | .outOfService => 3

/-- A level of PARK_SW, VANE_FB or TAKE_KEY, in the order of R23 and R163. R42 names the three in another order: R23's
is taken (DESIGN CHOICE, log entry 16). -/
def Level.code : Level → Nat
  | .unsettled => 0
  | .asserted => 1
  | .notAsserted => 2

/-- R40. -/
def EdgeSel.code : EdgeSel → Nat
  | .none => 0
  | .rising => 1
  | .falling => 2
  | .both => 3

/-- R40. -/
def Input.code : Input → Nat
  | .parkSw => 0
  | .vaneFb => 1

/-- R58. -/
def GrantKind.code : GrantKind → Nat
  | .entry => 0
  | .auto => 1
  | .booked => 2

/-- R61. -/
def EntryKind.code : EntryKind → Nat
  | .claim => 0
  | .entry => 1
  | .auto => 2

/-- No rule lists the three reasons together: LINK (R74), DUTY (R75), BOOKED (R63) is the model's order (DESIGN CHOICE,
log entry 16). -/
def WithdrawReason.code : WithdrawReason → Nat
  | .link => 0
  | .duty => 1
  | .booked => 2

/-- LEAVE (R73), FORCE (R78): no rule lists them together (DESIGN CHOICE, log entry 16). -/
def ReleaseCause.code : ReleaseCause → Nat
  | .leave => 0
  | .force => 1

/-- R79. -/
def CellCause.code : CellCause → Nat
  | .enter => 0
  | .auto => 1
  | .admission => 2
  | .leave => 3
  | .autoRelease => 4
  | .park => 5
  | .bookingRelease => 6
  | .force => 7

/-- R90. -/
def Check.code : Check → Nat
  | .idle => 0
  | .releaseWait _ => 1
  | .applyWait _ => 2

/-- R91. -/
def VaneFaultKind.code : VaneFaultKind → Nat
  | .notReleased => 0
  | .notApplied => 1
  | .cleared => 2

/-- R93. -/
def SigSource.code : SigSource → Nat
  | .windAlert => 0
  | .windHold => 1
  | .windStop => 2
  | .windVane => 3
  | .craneLost => 4
  | .zoneInhibit => 5
  | .recallOverdue => 6
  | .anemometerFault => 7
  | .noMap => 8
  | .vaneFault => 9

/-- R92. -/
def Sense.code : Sense → Nat
  | .activeHigh => 0
  | .activeLow => 1

/-- R92. -/
def SigMode.code : SigMode → Nat
  | .level => 0
  | .pulse => 1
  | .flash => 2

/-- R96. -/
def Drive.code : Drive → Nat
  | .active => 0
  | .inactive => 1
  | .undriven => 2

/-- R97. -/
def ChanStatus.code : ChanStatus → Nat
  | .disabled => 0
  | .valid => 1
  | .faultHigh => 2
  | .faultStuck => 3

/-- R113. -/
def WindState.code : WindState → Nat
  | .calm => 0
  | .alert => 1
  | .hold => 2
  | .stop => 3
  | .vane => 4

/-- R113. -/
def WindCause.code : WindCause → Nat
  | .gust => 0
  | .mean => 1
  | .sensor => 2
  | .manual => 3
  | .warmup => 4
  | .parked => 5
  | .timeout => 6

/-- CHANGE (R125), RESUME_READY, RESUME_WITHDRAWN (R124): no rule lists them together (DESIGN CHOICE, log entry 16). -/
def WindNoticeKind.code : WindNoticeKind → Nat
  | .change => 0
  | .resumeReady => 1
  | .resumeWithdrawn => 2

/-- R129. -/
def LoadClass.code : LoadClass → Nat
  | .normal => 0
  | .heavy => 1

/-- R129. -/
def BookState.code : BookState → Nat
  | .referred => 0
  | .booked => 1
  | .due => 2
  | .admitted => 3
  | .landing => 4
  | .inspect => 5

/-- The outcomes of R130 in table order, numbered on from the six states: "either the new state or the outcome" is one
byte (DESIGN CHOICE, log entry 16). -/
def BookOutcome.code : BookOutcome → Nat
  | .complete => 6
  | .cancelledRequest => 7
  | .cancelledMap => 7
  | .rejected => 8
  | .lapsed => 9
  | .abortedRequest => 10
  | .abortedForce => 10

/-- The reason of an outcome that has one (R130): of CANCELLED REQUEST, MAP; of ABORTED REQUEST, FORCE. -/
def BookOutcome.reason : BookOutcome → Option Nat
  | .cancelledRequest => some 0
  | .cancelledMap => some 1
  | .abortedRequest => some 0
  | .abortedForce => some 1
  | .complete => none
  | .rejected => none
  | .lapsed => none

/-- The failing field that R133 has the refusal name, as one number: R133 judges the fields in seven bullets, in one
order, and numbers none of them. The load class and the inspect flag have a number each, the cell list three (its
count, a cell number, a repeat), the window one (DESIGN CHOICE, log entry 16). -/
def BookField.code : BookField → Nat
  | .duration => 0
  | .lateLimit => 1
  | .loadClass => 2
  | .inspectFlag => 3
  | .cellCount => 4
  | .cellNumber => 5
  | .cellRepeat => 6
  | .window => 7

/-- R11. -/
def MapFailure.code : MapFailure → Nat
  | .range => 0
  | .members => 1
  | .span => 2
  | .band => 3
  | .limit => 4
  | .vane => 5

/-- R5. -/
def EndHold.code : EndHold → Nat
  | .none => 0
  | .heavy => 1
  | .all => 2

/-- R165. -/
def Section.code : Section → Nat
  | .map => 0
  | .options => 1
  | .calibration => 2
  | .threshold => 3
  | .signals => 4

/-- R166. -/
def ResetCause.code : ResetCause → Nat
  | .power => 0
  | .panel => 1
  | .command => 2

/-- The ports in the order C1..C8, S1, S2 (R129). -/
def portCode : Port → Nat
  | .c n => n.val
  | .s .s1 => 8
  | .s .s2 => 9

/-- S1, S2 (R163). -/
def supCode : Sup → Nat
  | .s1 => 0
  | .s2 => 1

/-- TAKE, HANDOVER: no rule lists them together (DESIGN CHOICE, log entry 16). -/
def moveCode : AuthorityMove → Nat
  | .take => 0
  | .handover => 1

/-! ### Groups of fields that several bodies carry -/

/-- A load result (R20): GOOD, BAD. -/
def loadField (good : Bool) : Field := .u8 (boolBit (!good) 1)

/-- The load results of the five sections (R164). -/
def loadFields (l : Loads) : List Field :=
  [loadField l.map, loadField l.options, loadField l.calibration, loadField l.threshold, loadField l.signals]

def grantFields (g : Grant) : List Field := [craneField g.holder, .u8 g.kind.code]

/-- The grant state, and the holder and the grant kind, each present while the cell is HELD (R79, R80, R160). -/
def grantStateFields (g : Option Grant) : List Field :=
  [flag g.isSome] ++ mayBe (fun h => [craneField h.holder]) g ++ mayBe (fun h => [.u8 h.kind.code]) g

/-- The level of an input by its name (R23, R160): a level that has been taken is ASSERTED or NOT_ASSERTED. -/
def takenLevel (level : Bool) : Field := .u8 (if level then Level.asserted.code else Level.notAsserted.code)

/-- A line's configuration (R92): enable, source, sense, mode. -/
def sigFields (g : SigCfg) : List Field :=
  [.u8 (boolBit (!g.enabled) 1), .u8 g.source.code, .u8 g.sense.code, .u8 g.mode.code]

def calFields (k : CalSetting) : List Field := [.u16 k.k, flag k.filter]

/-- A threshold set, in the order of R109. -/
def thresholdFields (t : Thresholds) : List Field :=
  [.u16 t.alertSet, .u16 t.alertRel, .u16 t.holdSet, .u16 t.holdRel, .u16 t.stopSet, .u16 t.stopRel, .u16 t.meanSet,
    .u16 t.meanRel, .u16 t.alertCalm, .u16 t.holdCalm, .u16 t.stopCalm]

/-- Per motion line the sources that assert it, in the order ZONE, LINK, DUTY, WIND, MAP, MANUAL (R81, R96): one set of
lines for each source. -/
def sourceFields (k : SourceSets) : List Field :=
  [linesField k.zone, linesField k.link, linesField k.duty, linesField k.wind, linesField k.map, linesField k.manual]

/-- A booking's window (R129). -/
def windowFields (start duration : Nat) : List Field := [.u32 start, .u16 duration]

end Sys2Proof.Machine
end

