-- ==== Sys2Proof/Machine/Ops.lean ====
section
/-! DEFINITION. The named operations over the state's tables: reading and changing one record, sending notices
(R162), answering requests (R161), and what several blocks read of the site: membership, touch, bars, authority. -/

namespace Sys2Proof.Machine

/-! ### Records -/

/-- A port's place in the table of ports. -/
def portIndex : Port → Fin 10
  | .c n => ⟨n.val, by omega⟩
  | .s .s1 => 8
  | .s .s2 => 9

def State.crane (s : State) (c : Crane) : CraneRec := s.cranes[c]

def State.env (s : State) (c : Crane) : EnvRec := s.envs[c]

def State.cell (s : State) (x : CellNo) : CellRec := s.cells[x]

def State.out (s : State) (c : Crane) : OutRec := s.outs[c]

def State.sig (s : State) (l : SigLine) : SigRec := s.sigs[l]

def State.port (s : State) (p : Port) : PortRec := s.ports[portIndex p]

def State.modCrane (s : State) (c : Crane) (f : CraneRec → CraneRec) : State :=
  { s with cranes := s.cranes.set c (f s.cranes[c]) }

def State.modEnv (s : State) (c : Crane) (f : EnvRec → EnvRec) : State :=
  { s with envs := s.envs.set c (f s.envs[c]) }

def State.modCell (s : State) (x : CellNo) (f : CellRec → CellRec) : State :=
  { s with cells := s.cells.set x (f s.cells[x]) }

def State.modOut (s : State) (c : Crane) (f : OutRec → OutRec) : State :=
  { s with outs := s.outs.set c (f s.outs[c]) }

def State.modSig (s : State) (l : SigLine) (f : SigRec → SigRec) : State :=
  { s with sigs := s.sigs.set l (f s.sigs[l]) }

def State.modPort (s : State) (p : Port) (f : PortRec → PortRec) : State :=
  { s with ports := s.ports.set (portIndex p) (f s.ports[portIndex p]) }

def State.setMap (s : State) (m : MapUnit) : State := { s with map := m }

def State.setMeas (s : State) (m : Meas) : State := { s with meas := m }

def State.setWind (s : State) (w : WindRec) : State := { s with wind := w }

def State.setBook (s : State) (b : Book) : State := { s with book := b }

def State.setClock (s : State) (k : Clock) : State := { s with clock := k }

def State.setStore (s : State) (k : Store) : State := { s with store := k }

def State.setSources (s : State) (k : Sources) : State := { s with sources := k }

/-! ### Notices (R162) -/

/-- A notice joins the tail of the queue; at a full queue it is discarded and the overflow flag is set (R162). -/
def queueNotice (n : Notice) (q : PortRec) : PortRec :=
  if q.notices.length < Config.noticeQueueMax then { q with notices := q.notices ++ [n] } else { q with overflow := true }

def State.notify (s : State) (p : Port) (n : Notice) : State := s.modPort p (queueNotice n)

def enables (m : Classes) : NoticeClass → Bool
  | .zone => m.zone
  | .wind => m.wind
  | .booking => m.booking
  | .crane => m.crane
  | .site => m.site

/-- A notice to one supervisor link, where its mask enables the class. -/
def State.notifySup (s : State) (k : NoticeClass) (n : Notice) (x : Sup) : State :=
  if enables (s.port (.s x)).mask k then s.notify (.s x) n else s

/-- A notice "to the supervisor links whose mask enables class k" (R162). -/
def State.notifyClass (s : State) (k : NoticeClass) (n : Notice) : State := (s.notifySup k n .s1).notifySup k n .s2

/-- A notice to link Cn and to the supervisor links whose mask enables class k. -/
def State.notifyBoth (s : State) (c : Crane) (k : NoticeClass) (n : Notice) : State :=
  (s.notify (.c c) n).notifyClass k n

/-- A notice of a booking to one supervisor link: by its mask or as the booking's origin, once (R130, R162). -/
def State.notifyBookingSup (s : State) (origin : Port) (n : Notice) (x : Sup) : State :=
  if enables (s.port (.s x)).mask .booking || origin == .s x then s.notify (.s x) n else s

/-- Where notice BOOKING goes (R130). -/
def State.notifyBooking (s : State) (b : Booking) (n : Notice) : State :=
  ((s.notify (.c b.crane) n).notifyBookingSup b.origin n .s1).notifyBookingSup b.origin n .s2

/-! ### Responses (R159, R161) -/

/-- A response goes into the port's response slot (R161). -/
def State.respond (s : State) (p : Port) (r : Response) : State := s.modPort p fun q => { q with slot := some r }

/-- The kind code of the response to a request kind (R158). -/
def respKind (k : ReqKind) : Byte := k.code + 0x80

def State.answer (s : State) (p : Port) (k : ReqKind) (r : Result) : State :=
  s.respond p ⟨respKind k, .ok, none, r⟩

def State.refuse (s : State) (p : Port) (k : ReqKind) (why : Reason) (r : Result := .nothing) : State :=
  s.respond p ⟨respKind k, .refused, some why, r⟩

/-- The first refusal of a table of checks taken in order. -/
def firstRefusal : List (Bool × Reason) → Option Reason
  | [] => none
  | (fails, why) :: rest => if fails then some why else firstRefusal rest

/-! ### The transmitters (R161) -/

/-- A free transmitter begins with the response, otherwise with the oldest notice (R161). -/
def startTx (q : PortRec) : PortRec :=
  match q.tx with
  | .free =>
    if q.slot.isSome then { q with tx := .response }
    else if q.notices.isEmpty then q
    else { q with tx := .notice }
  | _ => q

/-- Every free transmitter begins its next frame. -/
def State.transmit (s : State) : State := allPorts.foldl (fun t p => t.modPort p startTx) s

/-! ### What the blocks read -/

/-- The site condition is NO_MAP (R21). -/
def State.noMap (s : State) : Bool := s.map.active.isNone

/-- The declaration of a crane in a map. -/
def declIn (m : Option MapBody) (c : Crane) : Option Decl := m.bind fun b => b.decls[c]

/-- The record of a cell in a map. -/
def cellIn (m : Option MapBody) (x : CellNo) : Option CellDecl := m.bind fun b => b.cells[x]

/-- The crane's membership of a cell record (R3). -/
def membership (d : CellDecl) (c : Crane) : Option Member := d.members.find? fun m => m.crane == craneNo c

/-- The crane's membership of a cell in a map. -/
def memberIn (m : Option MapBody) (x : CellNo) (c : Crane) : Option Member := (cellIn m x).bind fun d => membership d c

def State.decl (s : State) (c : Crane) : Option Decl := declIn s.map.active c

def State.cellDecl (s : State) (x : CellNo) : Option CellDecl := cellIn s.map.active x

def State.member (s : State) (x : CellNo) (c : Crane) : Option Member := memberIn s.map.active x c

def State.declared (s : State) (c : Crane) : Bool := (s.decl c).isSome

def State.present (s : State) (x : CellNo) : Bool := (s.cellDecl x).isSome

/-- The crane's touch set as cells (R43). -/
def touchCells (e : EnvRec) : List CellNo := e.touch.map Prod.fst

def State.touches (s : State) (c : Crane) (x : CellNo) : Bool := (touchCells (s.env c)).contains x

/-- A crane other than `c` touches the cell. -/
def State.othersTouch (s : State) (c : Crane) (x : CellNo) : Bool := allCranes.any fun d => d != c && s.touches d x

def State.isDraining (s : State) (x : CellNo) : Bool := s.map.draining[x]

/-- The wind bar of R69: the wind state is STOP or VANE. -/
def State.windBars (s : State) : Bool := s.wind.state == .stop || s.wind.state == .vane

/-- R69: the cell does not pass from FREE to HELD. -/
def State.barred (s : State) (x : CellNo) : Bool := s.windBars || s.isDraining x

/-- The crane holds the cell. -/
def State.holds (s : State) (c : Crane) (x : CellNo) : Bool := (s.cell x).grant.any fun g => g.holder == c

/-- The current gust as the envelope unit takes it: 999 before the first sample (R46). -/
def State.gustNow (s : State) : Nat := s.meas.gust.getD 999

/-- Whether a request from the port has the authority it needs: crane links need none (R163). -/
def State.authorized (s : State) (p : Port) : Bool :=
  match p with
  | .c _ => true
  | .s x => x == s.holder

/-- A crane link under NO_MAP (R21). -/
def State.noMapLink (s : State) (p : Port) : Bool :=
  match p with
  | .c _ => s.noMap
  | .s _ => false

def otherSup : Sup → Sup
  | .s1 => .s2
  | .s2 => .s1

/-- The booking of a number, if it is live (R129). -/
def State.booking (s : State) (n : Nat) : Option Booking := s.book.live.find? fun b => b.number == n

def bookStateOf (s : State) (n : Nat) : Option BookState := (s.booking n).map (·.state)

/-- The booking is ADMITTED or LANDING. -/
def inLift (b : Option BookState) : Bool := b == some .admitted || b == some .landing

/-- The crane has a current lift in ADMITTED or LANDING (R34, R84). -/
def State.liftInProgress (s : State) (c : Crane) : Bool :=
  match (s.crane c).lift with
  | some n => inLift (bookStateOf s n)
  | none => false

/-- What the part takes while it runs; while it is reset or has no supply, nothing but the resets' own events. -/
def whenRunning (f : State → State) (s : State) : State := if s.phase = .running then (f s).transmit else s

end Sys2Proof.Machine
end

