-- ==== Sys2Proof/Machine/Envelope.lean ====
section
/-! DEFINITION. The envelope unit (chapter 3): report clamping (R26), the seven stages of the full computation, the touch
set with its overrides (R51), and the closing motions (R55, R56). -/

namespace Sys2Proof.Machine

/-! ### Report intake (R26, R27) -/

/-- A number brought into a range. -/
def clampInt (lo hi v : Int) : Int := max lo (min hi v)

/-- The values stored from an accepted report (R26, R27). -/
def clampedReport (d : Decl) (r : RawReport) : Report :=
  { theta := r.theta % 4096, omega := clampInt (-255) 255 r.omega, r := min r.r d.jib, v := clampInt (-40) 40 r.v,
    h := min r.h d.hookMax, doubtAngle := r.doubt.testBit 0, doubtRadius := r.doubt.testBit 1,
    doubtHook := r.doubt.testBit 2 }

/-- The clamp flags of an accepted report (R26). -/
def clampFlagsOf (d : Decl) (r : RawReport) : ClampFlags :=
  { omega := r.omega < -255 || 255 < r.omega, r := d.jib < r.r, v := r.v < -40 || 40 < r.v, h := d.hookMax < r.h }

/-! ### Stages 1 to 5 -/

def ceilDiv (a b : Nat) : Nat := (a + b - 1) / b

/-- Stage 1 (R45): the slew lead. -/
def slewLead (d : Decl) (omega : Int) : Nat :=
  omega.natAbs * d.reaction / 1000 + ceilDiv (omega.natAbs * omega.natAbs) (2 * d.slewDec)

/-- Stage 2 (R46): the margin at gust `g`. -/
def marginOf (d : Decl) (g : Nat) : Nat := min (d.slewMargin + g * d.windFactor / 256) 512

/-- Stage 3 (R47): the forward extent. -/
def forwardOf (lead margin : Nat) : Nat := min (lead + margin) 1024

/-- Stage 3 (R47): the saturation flag. -/
def saturated (lead margin : Nat) : Bool := 1024 < lead + margin

/-- Subtraction of slew angles modulo 4096. -/
def angleSub (a b : Nat) : Nat := (a + 4096 - b % 4096) % 4096

/-- Stage 4 (R48): the angular envelope as start and length. -/
def angular (r : Report) (margin forward : Nat) : Nat × Nat :=
  if r.doubtAngle then (0, 4096)
  else if 0 < r.omega then (angleSub r.theta margin, margin + forward + 1)
  else if r.omega < 0 then (angleSub r.theta forward, forward + margin + 1)
  else (angleSub r.theta margin, 2 * margin + 1)

/-- Stage 5 (R49): the radial lead. -/
def radialLead (d : Decl) (v : Int) : Nat :=
  v.natAbs * d.reaction / 1000 + ceilDiv (v.natAbs * v.natAbs) (2 * d.trolDec)

/-- Stage 5 (R49): the radial interval. -/
def radial (d : Decl) (r : Report) : Nat × Nat :=
  if r.doubtRadius then (0, d.jib)
  else if 0 < r.v then (r.r - d.radMargin, min d.jib (r.r + radialLead d r.v + d.radMargin))
  else if r.v < 0 then (r.r - radialLead d r.v - d.radMargin, min d.jib (r.r + d.radMargin))
  else (r.r - d.radMargin, min d.jib (r.r + d.radMargin))

/-- Stages 1 to 5 (R45 to R49). -/
def envelopeOf (d : Decl) (r : Report) (g : Nat) : Envelope :=
  let lead := slewLead d r.omega
  let margin := marginOf d g
  let forward := forwardOf lead margin
  { gust := g, lead := lead, margin := margin, forward := forward, angStart := (angular r margin forward).1,
    angLen := (angular r margin forward).2, radLo := (radial d r).1, radHi := (radial d r).2 }

/-! ### Stages 6 and 7 -/

/-- A point lies within a circular interval (R51). -/
def withinArc (x start len : Nat) : Bool := angleSub x start < len

/-- Two circular intervals intersect when the start of either lies within the other (R51). -/
def arcsMeet (s1 l1 s2 l2 : Nat) : Bool := withinArc s1 s2 l2 || withinArc s2 s1 l1

/-- Stage 6 (R50): the hook is low over the cell. -/
def hookLow (r : Report) (clearance : Nat) : Bool := r.h ≤ clearance || r.doubtHook

/-- Stage 7 (R51): the crane touches a cell of which it is the member `m`. -/
def touchTest (e : Envelope) (r : Report) (m : Member) : Bool :=
  arcsMeet e.angStart e.angLen m.start m.len &&
    match m.role with
    | .jib => true
    | .line rMin rMax clearance => e.radLo ≤ rMax && rMin ≤ e.radHi && hookLow r clearance

/-- The member cells of a crane in a map (R43). -/
def memberCells (m : Option MapBody) (c : Crane) : List CellNo := allCells.filter fun x => (memberIn m x c).isSome

/-- The report set of stage 7 (R51). -/
def reportSetOf (m : Option MapBody) (c : Crane) (e : Envelope) (r : Report) : List CellNo :=
  allCells.filter fun x => (memberIn m x c).any (touchTest e r)

/-- A full computation for a crane with the current gust (R44); it replaces the envelope record but for the touch
set. -/
def fullComputation (s : State) (c : Crane) : State :=
  match s.decl c, (s.crane c).report with
  | some d, some r =>
    let e := envelopeOf d r s.gustNow
    s.modEnv c fun k =>
      { k with env := some e, sat := saturated e.lead e.margin, reportSet := some (reportSetOf s.map.active c e r) }
  | _, _ => s

/-- The member holds the cell in its fixed OUT_OF_SERVICE set at a park radius (R51). -/
def inOosSet (park : Nat) (m : Member) : Bool :=
  match m.role with
  | .jib => true
  | .line rMin rMax _ => rMin ≤ park && park ≤ rMax

/-- The fixed OUT_OF_SERVICE set (R51). -/
def oosSet (m : Option MapBody) (c : Crane) : List CellNo :=
  match declIn m c with
  | none => []
  | some d => allCells.filter fun x => (memberIn m x c).any (inOosSet d.park)

/-- The lines of the touch-set table of R51. -/
inductive TouchLine where
  | undeclared | outOfService | none | lost | stale | live
  deriving DecidableEq, Repr

/-- The first line of R51's table that applies. -/
def touchLine (s : State) (c : Crane) : TouchLine :=
  if !s.declared c then .undeclared
  else if (s.crane c).duty = .outOfService then .outOfService
  else match (s.crane c).link with
    | .none => .none
    | .lost => .lost
    | .stale => .stale
    | .live => .live

/-- The touch set of R51. -/
def touchSetOf (s : State) (c : Crane) : List CellNo :=
  match touchLine s c with
  | .undeclared => []
  | .outOfService => oosSet s.map.active c
  | .none => memberCells s.map.active c
  | .lost => memberCells s.map.active c
  | .stale => (s.env c).reportSet.getD []
  | .live => (s.env c).reportSet.getD []

/-! ### Closing motions -/

/-- The centre of a span (R55). -/
def spanCentre (m : Member) : Nat := (m.start + (m.len - 1) / 2) % 4096

/-- The slew closing motions, left then right (R55). -/
def slewClosing (rep : Option Report) (m : Member) : Bool × Bool :=
  match rep with
  | none => (true, true)
  | some r =>
    let d := angleSub (spanCentre m) r.theta
    if r.doubtAngle || d = 0 || d = 2048 then (true, true)
    else if d < 2048 then (false, true)
    else (true, false)

/-- The trolley closing motions of a LINE member, out then in (R56). -/
def trolleyClosing (rep : Option Report) (rMin rMax : Nat) : Bool × Bool :=
  match rep with
  | none => (false, false)
  | some r => if r.doubtRadius then (false, false) else (r.r < rMin, rMax < r.r)

/-- The closing motions of a crane for a cell of which it is the member `m` (R55, R56). -/
def closingMotions (rep : Option Report) (m : Member) : Lines :=
  let slew := slewClosing rep m
  match m.role with
  | .jib => ⟨slew.1, slew.2, false, false, false⟩
  | .line rMin rMax _ =>
    ⟨slew.1, slew.2, (trolleyClosing rep rMin rMax).1, (trolleyClosing rep rMin rMax).2, true⟩

def closingFor (s : State) (c : Crane) (x : CellNo) : Lines :=
  match s.member x c with
  | some m => closingMotions (s.crane c).report m
  | none => noMotion

/-- The touch set is formed from the report set, the link and the duty, each cell with its closing motions formed anew
(R51, R54). -/
def formTouch (s : State) (c : Crane) : State :=
  s.modEnv c fun e => { e with touch := (touchSetOf s c).map fun x => (x, closingFor s c x) }

end Sys2Proof.Machine
end

