-- ==== Sys2Proof/Machine/CellTable.lean ====
section
/-! DEFINITION. The cell table (chapter 4): waiting lists (R62), grants and releases (R59, R64), head service (R68),
auto-take and auto-release (R70 to R72), the link and parking rules (R74, R75) and recall (R76, R77). -/

namespace Sys2Proof.Machine

/-! ### Waiting lists (R61, R62) -/

def entryCrane : Entry → Crane
  | .claim _ c _ => c
  | .entry c _ => c
  | .auto c => c

def entryKind : Entry → EntryKind
  | .claim _ _ _ => .claim
  | .entry _ _ => .entry
  | .auto _ => .auto

def isRequest (e : Entry) : Bool := entryKind e != .claim

def isAutoEntry (e : Entry) : Bool := entryKind e == .auto

/-- A new entry stands before an old one (R62): claims before requests, by start and then by number. -/
def sortsBefore (new old : Entry) : Bool :=
  match new, old with
  | .claim n _ t, .claim m _ u => t < u || (t == u && n < m)
  | .claim _ _ _, _ => true
  | _, _ => false

def insertEntry (e : Entry) : List Entry → List Entry
  | [] => [e]
  | f :: fs => if sortsBefore e f then e :: f :: fs else f :: insertEntry e fs

/-- A new entry is placed among the entries behind the head (R62). -/
def placeEntry (e : Entry) : List Entry → List Entry
  | [] => [e]
  | h :: t => h :: insertEntry e t

/-- The crane's request entry in a list, if it has one. -/
def requestOf (c : Crane) (l : List Entry) : Option Entry := l.find? fun e => isRequest e && entryCrane e == c

def hasEntry (c : Crane) (l : List Entry) : Bool := l.any fun e => entryCrane e == c

/-- The crane has a claim in the list. -/
def hasClaim (c : Crane) (l : List Entry) : Bool := l.any fun e => !isRequest e && entryCrane e == c

/-- The list without the crane's request entry. -/
def withoutRequest (c : Crane) (l : List Entry) : List Entry := l.filter fun e => !(isRequest e && entryCrane e == c)

/-- The list without the crane's AUTO request entry. -/
def withoutAuto (c : Crane) (l : List Entry) : List Entry := l.filter fun e => !(isAutoEntry e && entryCrane e == c)

/-- The entry is the claim of a booking. -/
def isClaimOf (n : Nat) : Entry → Bool
  | .claim m _ _ => m == n
  | _ => false

/-- The list without the claim of a booking. -/
def withoutClaim (n : Nat) (l : List Entry) : List Entry := l.filter fun e => !isClaimOf n e

/-- The head of the list is the claim of the booking. -/
def headClaim (n : Nat) (l : List Entry) : Bool := l.head?.any (isClaimOf n)

/-! ### Grants and releases -/

/-- FREE passes to HELD, or the kind changes, with notice CELL (R59, R60, R79). -/
def setGrant (s : State) (x : CellNo) (g : Grant) (why : CellCause) : State :=
  (s.modCell x fun k => { k with grant := some g }).notifyClass .zone (.cell x (some g) why)

/-- The cell becomes FREE: its recall ends (R77) and a covered claim is placed in the list within the release (R64).
Notice CELL is sent (R79). The freed cell is served afterwards. -/
def releaseCell (s : State) (x : CellNo) (why : CellCause) : State :=
  let claim := (s.cell x).covered.bind fun n => (s.booking n).map fun b => Entry.claim n b.crane b.start
  let s := s.modCell x fun k =>
    { k with grant := none, covered := none, recallState := .idle,
             list := match claim with
               | some e => placeEntry e k.list
               | none => k.list }
  s.notifyClass .zone (.cell x none why)

/-- The grant kind and CELL cause with which a request entry is granted (R68, R79). -/
def grantOf : Entry → Option (GrantKind × CellCause)
  | .claim _ _ _ => none
  | .entry _ _ => some (.entry, .enter)
  | .auto _ => some (.auto, .auto)

/-- The conditions of R66 and R68 for granting a cell to the requester `c`. -/
def canGrant (s : State) (x : CellNo) (c : Crane) : Bool :=
  (s.cell x).grant.isNone && !s.barred x && !s.othersTouch c x

/-- Head service (R68): a request head is granted when it can be; a claim head is left to the admission test. -/
def serveHead (s : State) (x : CellNo) : State :=
  match (s.cell x).list with
  | [] => s
  | e :: rest =>
    match grantOf e with
    | none => s
    | some (kind, why) =>
      if canGrant s x (entryCrane e) then
        let s := s.modCell x fun k => { k with list := rest }
        let s := setGrant s x ⟨entryCrane e, kind⟩ why
        s.notify (.c (entryCrane e)) (.granted (entryCrane e) x kind)
      else s

/-- Recall starts when its three conditions hold and its state is IDLE (R76). -/
def startRecall (s : State) (x : CellNo) : State :=
  match (s.cell x).list.head?, (s.cell x).grant with
  | some (.claim n c _), some g =>
    if g.holder ≠ c ∧ g.kind ≠ .booked ∧ (s.cell x).recallState = .idle then
      let s := s.modCell x fun k => { k with recallState := .running (s.map.params.recallLimit * 1000) }
      s.notifyBoth g.holder .zone (.recalled x n c)
    else s
  | _, _ => s

/-! ### Serving the cells an event has changed -/

/-- The head of the cell's list has changed (R62). -/
def headChanged (s0 s : State) (x : CellNo) : Bool := (s0.cell x).list.head? != (s.cell x).list.head?

/-- A crane's touch set has lost the cell. -/
def touchLost (s0 s : State) (x : CellNo) : Bool := allCranes.any fun c => s0.touches c x && !s.touches c x

/-- The occasions of head service (R68), read from the state before the event and the state now. -/
def serviceDue (s0 s : State) (x : CellNo) : Bool :=
  ((s0.cell x).grant.isSome && (s.cell x).grant.isNone) || headChanged s0 s x || touchLost s0 s x
    || (s0.windBars && !s.windBars) || (s0.isDraining x && !s.isDraining x)

/-- The head is served on its occasions, and recall is tested where the head or the grant has changed (R68, R76). -/
def serveCell (s0 s : State) (x : CellNo) : State :=
  let s := if serviceDue s0 s x then serveHead s x else s
  if headChanged s0 s x || (s0.cell x).grant != (s.cell x).grant then startRecall s x else s

/-- Every cell is served, in order of number. -/
def serveCells (s0 s : State) : State := allCells.foldl (serveCell s0) s

/-! ### Auto-take and auto-release -/

/-- Auto-take of one cell (R70). -/
def autoTake (c : Crane) (s : State) (x : CellNo) : State :=
  if (s.cellDecl x).any (fun d => !d.guarded) && (s.crane c).link == .live && (s.crane c).duty == .inService
      && s.touches c x && !s.holds c x && !hasEntry c (s.cell x).list then
    if canGrant s x c && (s.cell x).list.isEmpty then
      (setGrant s x ⟨c, .auto⟩ .auto).notify (.c c) (.granted c x .auto)
    else s.modCell x fun k => { k with list := k.list ++ [.auto c] }
  else s

/-- What the loss of touch does in one cell: an AUTO grant is released (R72), an AUTO request entry withdrawn (R71). -/
def touchEnded (c : Crane) (s : State) (x : CellNo) : State :=
  let s := if (s.cell x).grant = some ⟨c, .auto⟩ then releaseCell s x .autoRelease else s
  s.modCell x fun k => { k with list := withoutAuto c k.list }

/-- The cell table's part of a change of touch set (R54): cells left, then auto-take of the joined cells, or of the whole
touch set where the link has become LIVE or the duty IN_SERVICE (R70). -/
def touchService (s : State) (c : Crane) (old : List CellNo) (whole : Bool) : State :=
  let new := touchCells (s.env c)
  let s := (old.filter fun x => !new.contains x).foldl (touchEnded c) s
  (new.filter fun x => whole || !old.contains x).foldl (autoTake c) s

/-! ### Link loss and parking -/

/-- The crane's request entry in one list is withdrawn with its notice (R74, R75). -/
def withdrawRequest (c : Crane) (why : WithdrawReason) (s : State) (x : CellNo) : State :=
  match requestOf c (s.cell x).list with
  | none => s
  | some e =>
    let s := s.modCell x fun k => { k with list := withoutRequest c k.list }
    s.notify (.c c) (.withdrawn c x (entryKind e) why)

/-- Every request entry of the crane is withdrawn. -/
def withdrawRequests (s : State) (c : Crane) (why : WithdrawReason) : State :=
  allCells.foldl (withdrawRequest c why) s

/-- The parking rule in one cell: an ENTRY or AUTO grant outside the touch set is released (R75). -/
def parkCell (c : Crane) (s : State) (x : CellNo) : State :=
  match (s.cell x).grant with
  | some g =>
    if g.holder = c ∧ g.kind ≠ .booked ∧ s.touches c x = false then releaseCell s x .park else s
  | none => s

/-- The parking rule (R75). -/
def parkingRule (s : State) (c : Crane) : State := withdrawRequests (allCells.foldl (parkCell c) s) c .duty

/-! ### Claims -/

/-- The claim of a booking is withdrawn from one cell, listed or covered; a recall it stood for ends (R64, R77). -/
def withdrawClaim (n : Nat) (s : State) (x : CellNo) : State :=
  s.modCell x fun k =>
    { k with list := withoutClaim n k.list, covered := if k.covered = some n then none else k.covered,
             recallState := if headClaim n k.list then .idle else k.recallState }

/-- The claim of a booking is placed or covered in one cell (R63). -/
def placeClaim (b : Booking) (s : State) (x : CellNo) : State :=
  if s.holds b.crane x then s.modCell x fun k => { k with covered := some b.number }
  else
    let s := withdrawRequest b.crane .booked s x
    s.modCell x fun k => { k with list := placeEntry (.claim b.number b.crane b.start) k.list }

end Sys2Proof.Machine
end

