-- ==== Sys2Proof/Machine/Bookings.lean ====
section
/-! DEFINITION. The lift book's records (R129 to R131, R135) and the admission unit's operations on them: admission
(R149 to R151), the booking release (R157), the ends of a booking (R130). -/

namespace Sys2Proof.Machine

/-! ### Records -/

/-- Order of start, and among equal starts of number (R135, R142, R145, R147). -/
def bookingBefore (a b : Booking) : Bool := a.start < b.start || (a.start == b.start && a.number < b.number)

def insertBooking (b : Booking) : List Booking → List Booking
  | [] => [b]
  | c :: cs => if bookingBefore b c then b :: c :: cs else c :: insertBooking b cs

def State.modBooking (s : State) (n : Nat) (f : Booking → Booking) : State :=
  s.setBook { s.book with live := s.book.live.map fun b => if b.number = n then f b else b }

/-- The numbers of the live bookings that satisfy `p`, in order of start and number. -/
def bookingsWhere (s : State) (p : Booking → Bool) : List Nat := (s.book.live.filter p).map (·.number)

/-- Windows [s1, s1 + d1) and [s2, s2 + d2) intersect (R135). -/
def windowsMeet (s1 d1 s2 d2 : Nat) : Bool := s1 < s2 + d2 && s2 < s1 + d1

def shareCell (a b : List CellNo) : Bool := a.any fun x => b.contains x

/-- A request for a crane, cells and window conflicts with a live booking (R135). -/
def conflicts (c : Crane) (cells : List CellNo) (start duration : Nat) (b : Booking) : Bool :=
  windowsMeet start duration b.start b.duration && (b.crane == c || shareCell cells b.cells)

/-- The first number from `n` upward, wrapping from 65535 to 1, that no live booking holds (R131). `fuel` numbers are
tried. -/
def freeNumber (live : List Booking) : Nat → Nat → Nat
  | 0, n => n
  | fuel + 1, n =>
    if live.any fun b => b.number == n then freeNumber live fuel (if n = 65535 then 1 else n + 1) else n

/-- The number given at acceptance (R131). -/
def numberGiven (k : Book) : Nat := freeNumber k.live (k.live.length + 1) k.next

/-- The next number after a number is given (R131). -/
def numberAfter (n : Nat) : Nat := if n = 65535 then 1 else n + 1

/-! ### Changes of state and ends -/

/-- The crane table forgets the booking as due or as current lift (R23). -/
def forgetBooking (s : State) (b : Booking) : State :=
  s.modCrane b.crane fun k =>
    { k with due := if k.due = some b.number then none else k.due,
             lift := if k.lift = some b.number then none else k.lift }

/-- The booking's record is removed and its outcome announced (R130). -/
def endBooking (s : State) (b : Booking) (o : BookOutcome) (by_ : Option Port) : State :=
  let s := forgetBooking s b
  let s := s.setBook { s.book with live := s.book.live.filter fun c => c.number != b.number }
  s.notifyBooking b (.booking b.number b.crane (some b.state) (.outcome o) by_ none)

/-- A DUE booking's claims are withdrawn from every list and its covered claims cleared (R64). -/
def withdrawClaims (s : State) (b : Booking) : State := allCells.foldl (withdrawClaim b.number) s

/-- The booking's state changes, with its notice (R130). -/
def moveBooking (s : State) (b : Booking) (st : BookState) : State :=
  (s.modBooking b.number fun k => { k with state := st }).notifyBooking b
    (.booking b.number b.crane (some b.state) (.state st) none none)

/-! ### Admission -/

/-- The wind condition of R149. -/
def windAdmits (w : WindState) (c : LoadClass) : Bool :=
  match c with
  | .normal => w == .calm || w == .alert
  | .heavy => w == .calm

/-- The conditions of R149 on one listed cell. -/
def cellAdmits (s : State) (b : Booking) (x : CellNo) : Bool :=
  !s.isDraining x
    && (match (s.cell x).grant with
      | none => !s.othersTouch b.crane x
      | some g => g.holder == b.crane)
    && ((s.cell x).covered == some b.number || headClaim b.number (s.cell x).list)

/-- Every condition of R149. -/
def admissible (s : State) (b : Booking) : Bool :=
  (s.crane b.crane).link == .live && (s.crane b.crane).duty == .inService && (s.crane b.crane).lift.isNone
    && windAdmits s.wind.state b.cls && b.cells.all (cellAdmits s b)

/-- Admission in one cell (R151, steps 1 and 2): the grant becomes BOOKED, the claim leaves, the recall ends. -/
def admitCell (b : Booking) (s : State) (x : CellNo) : State :=
  s.modCell x fun k =>
    { k with grant := some ⟨b.crane, .booked⟩, list := withoutClaim b.number k.list,
             covered := if k.covered = some b.number then none else k.covered, recallState := .idle }

/-- An admission, made whole (R151). -/
def admitBooking (s : State) (b : Booking) : State :=
  let s := b.cells.foldl (admitCell b) s
  let s := s.modBooking b.number fun k => { k with state := .admitted }
  let s := s.modCrane b.crane fun k => { k with due := none, lift := some b.number }
  let s := b.cells.foldl (fun t x => t.notifyClass .zone (.cell x (some ⟨b.crane, .booked⟩) .admission)) s
  s.notifyBooking b (.booking b.number b.crane (some b.state) (.state .admitted) none (some b.cells))

/-- The order of the wind states. -/
def windRank : WindState → Nat
  | .calm => 0
  | .alert => 1
  | .hold => 2
  | .stop => 3
  | .vane => 4

/-- The occasions of R150 in one listed cell. -/
def cellOccasion (s0 s : State) (x : CellNo) : Bool :=
  ((s0.cell x).grant.isSome && (s.cell x).grant.isNone) || headChanged s0 s x
    || (s0.cell x).grant.map (·.kind) != (s.cell x).grant.map (·.kind)
    || (allCranes.any fun c => s0.touches c x != s.touches c x)
    || (s0.isDraining x && !s.isDraining x)

/-- The occasions of R150 for a DUE booking, read from the state before the event and the state now. -/
def admissionDue (s0 s : State) (b : Booking) : Bool :=
  bookStateOf s0 b.number != some .due || b.cells.any (cellOccasion s0 s)
    || windRank s.wind.state < windRank s0.wind.state
    || ((s0.crane b.crane).link != .live && (s.crane b.crane).link == .live)
    || ((s0.crane b.crane).duty != .inService && (s.crane b.crane).duty == .inService)
    || ((s0.crane b.crane).lift.isSome && (s.crane b.crane).lift.isNone)

/-- One DUE booking is tested for admission on its occasions (R149, R150). -/
def testAdmission (s0 s : State) (n : Nat) : State :=
  match s.booking n with
  | some b => if b.state = .due ∧ admissionDue s0 s b ∧ admissible s b then admitBooking s b else s
  | none => s

/-- The DUE bookings are tested in order of start and number (R150). -/
def admissions (s0 s : State) : State := (bookingsWhere s fun b => b.state == .due).foldl (testAdmission s0) s

/-! ### Booking release -/

/-- The booking release in one listed cell (R157, step 1). -/
def releaseBooked (b : Booking) (skip : Option CellNo) (s : State) (x : CellNo) : State :=
  if skip ≠ some x ∧ (s.cell x).grant = some ⟨b.crane, .booked⟩ then
    if s.touches b.crane x then setGrant s x ⟨b.crane, .entry⟩ .bookingRelease else releaseCell s x .bookingRelease
  else s

/-- The booking release (R157): the booking ends and its cells are kept as ENTRY where still touched, else freed. The
booking's notice (step 2) goes before the CELL notices (step 3). -/
def bookingRelease (s : State) (b : Booking) (skip : Option CellNo) (o : BookOutcome) (by_ : Option Port) : State :=
  b.cells.foldl (releaseBooked b skip) (endBooking s b o by_)

end Sys2Proof.Machine
end

