-- ==== Sys2Proof/Machine/WindState.lean ====
section
/-! DEFINITION. The wind state record (chapter 7): moves of the wind state, entry into STOP, the parking test. -/

namespace Sys2Proof.Machine

/-- A notice WIND to link Cn of every declared crane and to the supervisor links of class WIND (R125). -/
def announceWind (s : State) (former : WindState) : State :=
  let n := Notice.wind .change former s.wind.state s.wind.cause s.wind.manual s.wind.ready
  let s := (allCranes.filter s.declared).foldl (fun t c => t.notify (.c c) n) s
  s.notifyClass .wind n

/-- The wind state record after a move (R113, R116, R121): the count of the new state starts from 0, but the move from
STOP to VANE keeps the stop calm count; the park timer runs in STOP alone; the resume-ready flag belongs to VANE. -/
def windMoved (w : WindRec) (new : WindState) (cause : WindCause) (timer : Option Nat) : WindRec :=
  { state := new, cause := cause, manual := w.manual, ready := if new = .vane then w.ready else false,
    alertCount := 0, holdCount := 0, stopCount := if w.state = .stop ∧ new = .vane then w.stopCount else 0,
    parkTimer := timer }

/-- A move of the wind state, announced (R125). -/
def moveWind (s : State) (new : WindState) (cause : WindCause) (timer : Option Nat) : State :=
  announceWind (s.setWind (windMoved s.wind new cause timer)) s.wind.state

/-- A declared crane is IN_SERVICE (R122). -/
def craneInService (s : State) : Bool := allCranes.any fun c => s.declared c && (s.crane c).duty == .inService

/-- The parking test (R122). -/
def parkingTest (s : State) : State :=
  if s.wind.state = .stop ∧ craneInService s = false then moveWind s .vane .parked none else s

/-- An ADMITTED booking becomes LANDING (R153). -/
def toLanding (s : State) (n : Nat) : State :=
  match s.booking n with
  | some b => moveBooking s b .landing
  | none => s

/-- Every ADMITTED booking becomes LANDING (R153). -/
def landings (s : State) : State := (bookingsWhere s fun b => b.state == .admitted).foldl toLanding s

/-- An entry into STOP: the park timer starts (R121), lifts become landings (R153), the parking test is made (R122). -/
def enterStop (s : State) (cause : WindCause) : State :=
  parkingTest (landings (moveWind s .stop cause (some (s.map.params.parkTimeout * 1000))))

end Sys2Proof.Machine
end

