-- ==== Sys2Proof/Machine/Outputs.lean ====
section
/-! DEFINITION. The output unit (chapter 5): the six inhibit sources and the motion lines (R81 to R84), VANE_RELEASE and
its withheld condition (R87 to R89), the feedback check (R90, R91), the signal sources and lines (R92 to R94). -/

namespace Sys2Proof.Machine

/-! ### Motion inhibit lines -/

/-- The ZONE source (R82): the closing motions of every touched cell the crane does not hold. -/
def zoneSet (s : State) (c : Crane) : Lines :=
  (s.env c).touch.foldl (fun acc (x, m) => if s.holds c x then acc else linesUnion acc m) noMotion

/-- The LINK source (R83). -/
def linkSet (s : State) (c : Crane) : Lines := if (s.crane c).link = .live then noMotion else everyMotion

/-- The DUTY source (R83). -/
def dutySet (s : State) (c : Crane) : Lines := if (s.crane c).duty = .inService then noMotion else everyMotion

/-- The WIND source (R84). -/
def windSet (s : State) (c : Crane) : Lines :=
  match s.wind.state with
  | .stop =>
    if (s.crane c).duty = .inService ∧ s.liftInProgress c = false then { noMotion with trolOut := true } else noMotion
  | .vane => everyMotion
  | _ => noMotion

/-- The MAP source (R83). -/
def mapSet (s : State) : Lines := if s.noMap then everyMotion else noMotion

/-- The sources of a crane, with its MANUAL set as it stands. -/
def sourceSets (s : State) (c : Crane) : SourceSets :=
  { zone := zoneSet s c, link := linkSet s c, duty := dutySet s c, wind := windSet s c, map := mapSet s,
    manual := (s.out c).src.manual }

/-- A line's level is the union of the six sets (R81). -/
def unionOf (k : SourceSets) : Lines :=
  linesUnion k.zone (linesUnion k.link (linesUnion k.duty (linesUnion k.wind (linesUnion k.map k.manual))))

/-- A crane's lines are recomposed; notice INHIBIT where the set of asserted lines changes (R81). -/
def composeLines (s : State) (c : Crane) : State :=
  let src := sourceSets s c
  let old := (s.out c).lines
  let s := s.modOut c fun o => { o with src := src, lines := unionOf src }
  if old = unionOf src then s else s.notify (.c c) (.inhibit c (unionOf src) src)

/-! ### Vane feedback -/

/-- The VANE_FB level as the check reads it: UNSETTLED counts as not asserted (R90). -/
def fbAsserted (s : State) (c : Crane) : Bool := (s.crane c).vaneFb == .asserted

/-- The check after an event (R90). A change of the line starts or restarts its wait; an edge or first taking of
VANE_FB that leaves the disagreement a wait already runs for leaves that wait running. -/
def checkAfter (line fb lineEvent : Bool) (k : Check) : Check :=
  if line = fb then .idle
  else if line then
    match k, lineEvent with
    | .releaseWait t, false => .releaseWait t
    | _, _ => .releaseWait Config.feedbackMs
  else
    match k, lineEvent with
    | .applyWait t, false => .applyWait t
    | _, _ => .applyWait Config.feedbackMs

/-- An event on the feedback check (R90), with the clearing of the vane fault flag where line and feedback agree (R91).
-/
def feedbackEvent (s : State) (c : Crane) (lineEvent : Bool) : State :=
  let line := (s.out c).vane
  let fb := fbAsserted s c
  let s := s.modOut c fun o => { o with check := checkAfter line fb lineEvent o.check }
  if line = fb ∧ (s.crane c).vaneFault then
    (s.modCrane c fun k => { k with vaneFault := false }).notifyBoth c .crane (.vaneFault c .cleared line fb)
  else s

/-! ### Vane release -/

/-- Conditions 1 to 3 of R87. -/
def vaneEligible (s : State) (c : Crane) : Bool :=
  (s.decl c).any (fun d => d.vanePermit == 1) && (s.crane c).parkSw == .asserted
    && ((s.crane c).duty == .outOfService || ((s.crane c).duty == .parked && s.wind.state == .vane))

/-- The crane is a JIB member of the cell. -/
def isJib (s : State) (c : Crane) (x : CellNo) : Bool := (s.member x c).any fun m => m.role == .jib

/-- The cells of which the crane is a JIB member that another crane holds, with their grants (R87, R88). R88 orders
them nowhere: they stand by number, in VANE_WITHHELD and in crane STATUS alike (DESIGN CHOICE, log entry 16). -/
def jibHeld (s : State) (c : Crane) : List (CellNo × Grant) :=
  allCells.filterMap fun x =>
    match (s.cell x).grant with
    | some g => if isJib s c x && g.holder != c then some (x, g) else none
    | none => none

/-- VANE_RELEASE is composed (R87), with the withheld flag and its notice (R88), VANE_LINE and the feedback check. -/
def composeVaneNow (s : State) (c : Crane) : State :=
  let held := jibHeld s c
  let withheld := if vaneEligible s c then held.map fun (x, g) => (x, g.holder) else []
  let level := vaneEligible s c && held.isEmpty
  let o := s.out c
  let s := s.modOut c fun o => { o with vane := level, composed := true, withheld := withheld }
  let s := if withheld ≠ [] ∧ withheld ≠ o.withheld then s.notifyBoth c .wind (.vaneWithheld c held) else s
  if level = o.vane then s else feedbackEvent (s.notifyBoth c .crane (.vaneLine c level)) c true

/-- The occasions of R87 for a crane, read from the state before the event and the state now. -/
def vaneOccasion (s0 s : State) (c : Crane) : Bool :=
  (s0.crane c).parkSw != (s.crane c).parkSw || (s0.crane c).duty != (s.crane c).duty
    || (s0.wind.state == .vane) != (s.wind.state == .vane)
    || allCells.any fun x => isJib s c x && (s0.cell x).grant != (s.cell x).grant

/-- VANE_RELEASE is composed at each occasion; before its first composition after a reset it is held (R89). -/
def composeVane (s0 s : State) (c : Crane) : State :=
  if (s.out c).composed || vaneOccasion s0 s c then composeVaneNow s c else s

/-! ### Site signals -/

def sourceValue (k : Sources) : SigSource → Bool
  | .windAlert => k.windAlert
  | .windHold => k.windHold
  | .windStop => k.windStop
  | .windVane => k.windVane
  | .craneLost => k.craneLost
  | .zoneInhibit => k.zoneInhibit
  | .recallOverdue => k.recallOverdue
  | .anemometerFault => k.anemometerFault
  | .noMap => k.noMap
  | .vaneFault => k.vaneFault

def isFault (st : ChanStatus) : Bool := st == .faultHigh || st == .faultStuck

/-- ANEMOMETER_FAULT (R93, R103). -/
def anemometerFault (m : Meas) : Bool :=
  isFault m.a.status || isFault m.b.status || !(m.a.status == .valid || m.b.status == .valid)

/-- The present value of each signal source (R93). -/
def sourcesOf (s : State) : Sources :=
  { windAlert := 1 ≤ windRank s.wind.state, windHold := 2 ≤ windRank s.wind.state,
    windStop := 3 ≤ windRank s.wind.state, windVane := 4 ≤ windRank s.wind.state,
    craneLost := allCranes.any fun c =>
      s.declared c && ((s.crane c).link == .lost || (s.crane c).link == .none),
    zoneInhibit := allCranes.any fun c => (s.out c).src.zone != noMotion,
    recallOverdue := allCells.any fun x => (s.cell x).recallState == .overdue,
    anemometerFault := anemometerFault s.meas, noMap := s.noMap,
    vaneFault := allCranes.any fun c => (s.crane c).vaneFault }

/-- The drive of a line whose configuration is replaced or first loaded (R94). -/
def driveFresh (g : SigCfg) (value : Bool) : SigRec :=
  if !g.enabled then ⟨g, .undriven, none⟩
  else match g.mode with
    | .level => ⟨g, if value then .active else .inactive, none⟩
    | .pulse => ⟨g, .inactive, none⟩
    | .flash => if value then ⟨g, .active, some Config.flashMs⟩ else ⟨g, .inactive, none⟩

/-- The line after a change of its source (R94). -/
def sourceMoves (r : SigRec) (old new : Bool) : SigRec :=
  if !r.cfg.enabled || old == new then r
  else match r.cfg.mode with
    | .level => { r with drive := if new then .active else .inactive }
    | .pulse => if new then { r with drive := .active, phase := some Config.pulseMs } else r
    | .flash =>
      if new then { r with drive := .active, phase := some Config.flashMs }
      else { r with drive := .inactive, phase := none }

/-- One line follows its source (R94). -/
def followSource (old new : Sources) (s : State) (l : SigLine) : State :=
  s.modSig l fun r => sourceMoves r (sourceValue old r.cfg.source) (sourceValue new r.cfg.source)

/-- The signal sources are brought up to date and the lines follow (R93, R94). -/
def updateSignals (s : State) : State :=
  let new := sourcesOf s
  (allLines.foldl (followSource s.sources new) s).setSources new

/-- The output unit recomposes what an event has changed, once, on the event's outcome (R79, R81, R87, R93). -/
def compose (s0 s : State) : State :=
  updateSignals (allCranes.foldl (composeVane s0) (allCranes.foldl composeLines s))

/-- A high or low pin level of a driven line (R94); a pin left undriven has none (R92). -/
def pinLevel (r : SigRec) : Option Bool :=
  match r.drive, r.cfg.sense with
  | .undriven, _ => none
  | .active, .activeHigh => some true
  | .inactive, .activeHigh => some false
  | .active, .activeLow => some false
  | .inactive, .activeLow => some true

end Sys2Proof.Machine
end

