-- ==== Sys2Proof/Machine/Store.lean ====
section
/-! DEFINITION. The store (R165): the start of a section's write, and its end with the read-back. -/

namespace Sys2Proof.Machine

def sectionOf : Content → Section
  | .map _ => .map
  | .options _ => .options
  | .calibration _ => .calibration
  | .threshold _ => .threshold
  | .signals _ => .signals

/-- A waiting section's content is replaced; a section that does not wait yet joins the tail (R165). -/
def joinWaiting (c : Content) : List Content → List Content
  | [] => [c]
  | w :: ws => if sectionOf w = sectionOf c then c :: ws else w :: joinWaiting c ws

/-- A section's write is started: at once when nothing is written, again when the section itself is being written, and
otherwise it waits (R165). -/
def beginWrite (k : Store) (c : Content) : Store :=
  match k.writing with
  | none => { k with writing := some c, retry := false }
  | some w =>
    if sectionOf w = sectionOf c then { k with writing := some c, retry := false }
    else { k with waiting := joinWaiting c k.waiting }

def startWrite (s : State) (c : Content) : State := s.setStore (beginWrite s.store c)

/-- What the store then holds in the section of `c`: the content, or a bad CRC. -/
def holdSection (k : Store) (c : Content) (good : Bool) : Store :=
  match c with
  | .map m => { k with map := if good then some m else none }
  | .options p => { k with options := if good then some p else none }
  | .calibration v => { k with calibration := if good then some v else none }
  | .threshold t => { k with threshold := if good then some t else none }
  | .signals v => { k with signals := if good then some v else none }

/-- The next waiting section is written (R165). -/
def nextWrite (k : Store) : Store :=
  match k.waiting with
  | [] => { k with writing := none, retry := false }
  | w :: ws => { k with writing := some w, retry := false, waiting := ws }

/-- The store write state is IDLE (R19, R165). -/
def storeIdle (k : Store) : Bool := k.writing.isNone && k.waiting.isEmpty

/-- A section write ends and is read back (R165): a match clears the fault flag; a first mismatch writes the section once
more; a second sets the fault flag and sends STORE_FAULT. -/
def writeEnds (good : Bool) (s : State) : State :=
  match s.store.writing with
  | none => s
  | some c =>
    let k := holdSection s.store c good
    if good then s.setStore (nextWrite { k with fault := false })
    else if s.store.retry then (s.setStore (nextWrite { k with fault := true })).notifyClass .site .storeFault
    else s.setStore { k with retry := true }

/-- The supply fails: the section being written may be left with a bad CRC; what waits is lost (R165). A section that is
not left bad keeps what the store held in it before the write (DESIGN CHOICE, log entry 27). -/
def storeLoses (corrupt : Bool) (k : Store) : Store :=
  let k :=
    match k.writing with
    | some c => if corrupt then holdSection k c false else k
    | none => k
  { k with writing := none, retry := false, waiting := [] }

end Sys2Proof.Machine
end

