-- ==== Sys2Proof/Machine/SiteMap.lean ====
section
/-! DEFINITION. The site map unit (chapter 1): validation (R11, R12), differing cells and the commit decision (R13),
activation (R14 to R16, R24, R31, R53), the drain retest (R17) and abandonment (R18). -/

namespace Sys2Proof.Machine

/-! ### Validation -/

/-- Every field of a declaration lies in its range (R2). -/
def declInRange (d : Decl) : Bool :=
  decide (100 ≤ d.jib ∧ d.jib ≤ 900 ∧ 100 ≤ d.hookMax ∧ d.hookMax ≤ 3000 ∧ d.park ≤ d.jib ∧ d.reaction ≤ 2000
    ∧ 1 ≤ d.slewDec ∧ d.slewDec ≤ 255 ∧ 1 ≤ d.trolDec ∧ d.trolDec ≤ 63 ∧ d.slewMargin ≤ 63 ∧ d.radMargin ≤ 63
    ∧ d.windFactor ≤ 255 ∧ d.vanePermit ≤ 1)

/-- The declaration of a crane number in a map body. -/
def declOfNumber (m : MapBody) (n : Nat) : Option Decl := (craneOf n).bind fun c => m.decls[c]

/-- Check 2 of R11 on one cell. -/
def membersBad (m : MapBody) (d : CellDecl) : Bool :=
  !(d.members.length == 2 || d.members.length == 3) || d.members.any (fun k => (declOfNumber m k.crane).isNone)
    || hasRepeat (d.members.map (·.crane))

/-- Check 3 of R11 on one cell. -/
def spanBad (d : CellDecl) : Bool := d.members.any fun k => decide (4095 < k.start ∨ k.len < 1 ∨ 2048 < k.len)

/-- Check 4 of R11 on one member. -/
def bandBadMember (m : MapBody) (k : Member) : Bool :=
  match k.role, declOfNumber m k.crane with
  | .line rMin rMax clearance, some d => decide (rMax < rMin ∨ d.jib < rMax ∨ d.hookMax < clearance)
  | _, _ => false

/-- Check 4 of R11 on one cell. -/
def bandBad (m : MapBody) (d : CellDecl) : Bool := d.members.any (bandBadMember m)

/-- Check 5 of R11 on one crane: a member of more than 24 cells. -/
def limitBad (m : MapBody) (c : Crane) : Bool := Config.memberMax < (memberCells (some m) c).length

/-- A vane-permitted JIB member. -/
def vaneJib (m : MapBody) (k : Member) : Bool :=
  k.role == .jib && (declOfNumber m k.crane).any fun d => d.vanePermit == 1

/-- A vane-permitted LINE member whose park radius lies within its band. -/
def vaneLineInBand (m : MapBody) (k : Member) : Bool :=
  match k.role with
  | .jib => false
  | .line rMin rMax _ =>
    (declOfNumber m k.crane).any fun d => d.vanePermit == 1 && decide (rMin ≤ d.park ∧ d.park ≤ rMax)

/-- A cell has a vane conflict (R12). -/
def vaneConflict (m : MapBody) (d : CellDecl) : Bool :=
  2 ≤ (d.members.filter (vaneJib m)).length || (d.members.any (vaneJib m) && d.members.any (vaneLineInBand m))

/-- The first cell of a map, in order of number, whose record fails a test. -/
def firstCell (m : MapBody) (fails : CellDecl → Bool) : Option Nat :=
  (allCells.find? fun x => (m.cells[x]).any fails).map cellNo

/-- The first declared crane, in order of number, that fails a test. -/
def firstCrane (m : MapBody) (fails : Crane → Decl → Bool) : Option Nat :=
  (allCranes.find? fun c => (m.decls[c]).any (fails c)).map craneNo

/-- The six checks of R11 in order: the failure kind and the crane or cell number, or none where the map passes. -/
def validate (m : MapBody) : Option (MapFailure × Nat) :=
  match firstCrane m (fun _ d => !declInRange d) with
  | some n => some (.range, n)
  | none => match firstCell m (membersBad m) with
    | some n => some (.members, n)
    | none => match firstCell m spanBad with
      | some n => some (.span, n)
      | none => match firstCell m (bandBad m) with
        | some n => some (.band, n)
        | none => match firstCrane m (fun c _ => limitBad m c) with
          | some n => some (.limit, n)
          | none => (firstCell m (vaneConflict m)).map fun n => (.vane, n)

/-! ### Differing cells -/

/-- Two cell records are the same (R3): the order of the members does not count. -/
def sameRecord (a b : CellDecl) : Bool :=
  a.guarded == b.guarded && a.ruling == b.ruling && a.members.length == b.members.length
    && a.members.all (fun m => b.members.contains m) && b.members.all (fun m => a.members.contains m)

/-- A cell differs between the active and the staged map (R13). -/
def differs (a b : Option CellDecl) : Bool :=
  match a, b with
  | some x, some y => !sameRecord x y
  | none, none => false
  | _, _ => true

/-- The differing cells (R13). -/
def differing (m : MapUnit) : List CellNo := allCells.filter fun x => differs (cellIn m.active x) m.staged.cells[x]

/-- A booking in ADMITTED, LANDING or INSPECT (R13, R17). -/
def underWay (st : BookState) : Bool := st == .admitted || st == .landing || st == .inspect

/-- A booking under way names the cell. -/
def namedUnderWay (s : State) (x : CellNo) : Bool := s.book.live.any fun b => underWay b.state && b.cells.contains x

/-- The three conditions of R13 on one cell. -/
def cellEmpty (s : State) (x : CellNo) : Bool :=
  (s.cell x).grant.isNone && (s.cell x).list.all isAutoEntry && !namedUnderWay s x

/-- The three conditions of R13 over a list of cells. -/
def drained (s : State) (cells : List CellNo) : Bool := cells.all (cellEmpty s)

/-! ### Activation -/

/-- Step 1 of R14 in one differing cell: a removed cell's record returns to its reset values; in a changed cell AUTO
request entries of cranes that are no longer members leave, and all of them where the cell becomes GUARDED. -/
def disposeCell (old : Option MapBody) (new : MapBody) (s : State) (x : CellNo) : State :=
  match cellIn old x, new.cells[x] with
  | some _, none => s.modCell x fun _ => CellRec.reset
  | some _, some d =>
    s.modCell x fun k =>
      { k with list := k.list.filter fun e =>
          !(isAutoEntry e && (d.guarded || (membership d (entryCrane e)).isNone)) }
  | none, _ => s

/-- Step 2 of R14: the booking is cancelled at the activation. -/
def cancelledByMap (old : Option MapBody) (new : MapBody) (cells : List CellNo) (b : Booking) : Bool :=
  new.decls[b.crane].isNone || b.cells.any fun x =>
    cells.contains x && (cellIn old x).isSome && (memberIn (some new) x b.crane).isNone

def cancelForMap (s : State) (n : Nat) : State :=
  match s.booking n with
  | some b => endBooking (withdrawClaims s b) b .cancelledMap none
  | none => s

/-- Step 3 of R14 for a crane whose declaration is removed: its record and its envelope record return to their reset
values and its feedback check to IDLE; a set vane fault flag clears with its notice (R91). -/
def dropCrane (old : Option MapBody) (s : State) (c : Crane) : State :=
  if (declIn old c).isSome ∧ s.declared c = false then
    let fault := (s.crane c).vaneFault
    let s := s.modCrane c fun _ => CraneRec.reset
    let s := s.modEnv c fun _ => EnvRec.reset
    let s := s.modOut c fun o => { o with check := .idle }
    if fault then s.notifyBoth c .crane (.vaneFault c .cleared false false) else s
  else s

/-- The stored r and h are reclamped to the new declaration (R24). -/
def reclamp (s : State) (c : Crane) : State :=
  match s.decl c with
  | none => s
  | some d =>
    s.modCrane c fun k => { k with report := k.report.map fun r => { r with r := min r.r d.jib, h := min r.h d.hookMax } }

/-- The link state a crane falls to when its silence limit runs out (R29). -/
def silenceFall (p : SiteParams) : LinkState := if p.silence < p.lost * 1000 then .stale else .lost

/-- A change of link state, with notice LINK (R28, R29). -/
def setLink (s : State) (c : Crane) (l : LinkState) : State :=
  let former := (s.crane c).link
  (s.modCrane c fun k => { k with link := l }).notifyClass .crane (.link c former l)

/-- The time since last report is at or above a limit in milliseconds. -/
def silentFor (k : CraneRec) (ms : Nat) : Bool := k.since.any fun t => ms ≤ t

/-- New limits compared afresh with one crane's time since last report (R16, R31). The comparison is made once: a LIVE
link that falls to STALE is not compared with the lost limit in the same activation (DESIGN CHOICE, log entry 26). -/
def compareLimits (s : State) (c : Crane) : State :=
  let k := s.crane c
  if !s.declared c then s
  else if k.link = .live ∧ silentFor k s.map.params.silence then
    withdrawRequests (setLink s c (silenceFall s.map.params)) c .link
  else if k.link = .stale ∧ silentFor k (s.map.params.lost * 1000) then setLink s c .lost
  else s

/-- The report set after an activation (R15, R53): lost memberships leave it; for a STALE crane the differing cells of
which it is a member join it. -/
def adjustedSet (new : MapBody) (cells : List CellNo) (c : Crane) (l : LinkState) (old : List CellNo) : List CellNo :=
  allCells.filter fun x =>
    (memberIn (some new) x c).isSome && (old.contains x || (l == .stale && cells.contains x))

def adjustReport (new : MapBody) (cells : List CellNo) (s : State) (c : Crane) : State :=
  let l := (s.crane c).link
  if s.declared c ∧ (l = .live ∨ l = .stale) then
    s.modEnv c fun e => { e with reportSet := e.reportSet.map (adjustedSet new cells c l) }
  else s

/-- The touch-set changes of an activation handed to the cell table, crane by crane (R15). -/
def handTouch (s0 s : State) (c : Crane) : State := touchService s c (touchCells (s0.env c)) false

/-- The limits that R31 compares have changed. -/
def limitsChanged (a b : SiteParams) : Bool := a.silence != b.silence || a.lost != b.lost

/-- Steps 1 to 4 of an activation (R14), and the clearing of the marks (step 5). R31 places its comparison of the new
limits before R15 and nowhere among the other steps: it is made after steps 1 to 3, so a crane whose link then falls
gets no WITHDRAWN for the AUTO requests that step 1 has removed (DESIGN CHOICE, log entry 39). -/
def activateMap (s : State) (cells : List CellNo) : State :=
  let s0 := s
  let old := s.map.active
  let new := s.map.staged
  let s := cells.foldl (disposeCell old new) s
  let s := (bookingsWhere s (cancelledByMap old new cells)).foldl cancelForMap s
  let s := s.setMap { s.map with active := some new, params := s.map.stagedParams }
  let s := allCranes.foldl (dropCrane old) s
  let s := allCranes.foldl reclamp s
  let s := if limitsChanged s0.map.params s.map.params then allCranes.foldl compareLimits s else s
  let s := allCranes.foldl (adjustReport new cells) s
  let s := allCranes.foldl formTouch s
  let s := allCranes.foldl (handTouch s0) s
  s.setMap { s.map with commit := .idle, draining := Vector.replicate 64 false }

/-- Step 6 of an activation: the store writes (R19) and MAP_COMMITTED. -/
def announceMap (s : State) (cells bookings : Nat) : State :=
  let s := startWrite s (.map s.map.staged)
  let s := startWrite s (.options s.map.params)
  s.notifyClass .site (.mapCommitted cells bookings)

/-- An activation (R14): the cells released and changed are served and tested (R68, R150), the parking test is made
(R122) and every VANE_RELEASE is composed (R87). -/
def activate (s : State) (cells : List CellNo) : State :=
  let n := (bookingsWhere s (cancelledByMap s.map.active s.map.staged cells)).length
  let t := activateMap s cells
  let t := admissions s (serveCells s t)
  let t := parkingTest (announceMap t cells.length n)
  allCranes.foldl composeVaneNow t

/-! ### Drain retest and abandonment -/

def isPending (m : MapUnit) : Bool :=
  match m.commit with
  | .idle => false
  | .pending _ => true

/-- The DRAINING cells. -/
def drainingCells (m : MapUnit) : List CellNo := allCells.filter fun x => m.draining[x]

/-- A non-AUTO entry that stood in the list of the cell has left it. -/
def entryLeft (s0 s : State) (x : CellNo) : Bool :=
  (s0.cell x).list.any fun e => !isAutoEntry e &&
    !((s.cell x).list.any fun f => entryKind f == entryKind e && entryCrane f == entryCrane e)

/-- The occasions of the drain retest (R17) for one DRAINING cell. -/
def drainOccasion (s0 s : State) (x : CellNo) : Bool :=
  ((s0.cell x).grant.isSome && (s.cell x).grant.isNone) || entryLeft s0 s x
    || (namedUnderWay s0 x && !namedUnderWay s x)

/-- The drain retest (R17): a pending commit whose conditions have come to hold is activated. -/
def drainRetest (s0 s : State) : State :=
  if isPending s.map && (drainingCells s.map).any (drainOccasion s0 s) && drained s (drainingCells s.map) then
    activate s (drainingCells s.map)
  else s

/-- A pending commit is abandoned (R18): every mark clears and the commit state becomes IDLE. -/
def abandonCommit (s : State) : State := s.setMap { s.map with commit := .idle, draining := Vector.replicate 64 false }

end Sys2Proof.Machine
end

