-- ==== Sys2Proof/Machine/Settle.lean ====
section
/-! DEFINITION. How an event is served (R79, R54, R150, R17): the cell table serves what the event changed, the admission
unit tests the DUE bookings it gave occasion for, the map unit retests a draining commit, and the output unit recomposes
on the outcome. `s0` is always the state before the event. -/

namespace Sys2Proof.Machine

/-- The cell table, the admission unit and the map unit serve an event. -/
def settle (s0 s : State) : State := drainRetest s0 (admissions s0 (serveCells s0 s))

/-- An event is settled and its outcome handed to the output unit. -/
def conclude (s0 s : State) : State := compose s0 (settle s0 s)

/-! ### Bookings that become DUE, lapse, return (chapter 9) -/

/-- A booking becomes DUE (R148). `former` is the state its notice names (R130). The notice follows those of the
service of its claims and precedes those of the admissions (DESIGN CHOICE, log entry 7). -/
def becomeDue (s : State) (n : Nat) (former : Option BookState) : State :=
  match s.booking n with
  | none => s
  | some b =>
    let s0 := s
    let s := s.modBooking n fun k => { k with state := .due, note := none }
    let s := s.modCrane b.crane fun k => { k with due := some n }
    let s := b.cells.foldl (placeClaim b) s
    let s := serveCells s0 s
    let s := s.notifyBooking b (.booking n b.crane former (.state .due) none none)
    drainRetest s0 (admissions s0 s)

/-- A booking lapses (R138, R145, R152): its claims leave and its record ends. -/
def lapseBooking (s : State) (n : Nat) : State :=
  match s.booking n with
  | none => s
  | some b => endBooking (withdrawClaims s b) b .lapsed none

/-- A DUE booking returns to BOOKED at a backward setting (R146): its claims leave. -/
def returnBooking (s : State) (n : Nat) : State :=
  match s.booking n with
  | none => s
  | some b => moveBooking (forgetBooking (withdrawClaims s b) b) b .booked

/-- An ADMITTED or LANDING booking has its overrun marked (R154). -/
def markOverrun (s : State) (n : Nat) : State :=
  match s.booking n with
  | none => s
  | some b =>
    (s.modBooking n fun k => { k with overrun := true }).notifyBoth b.crane .booking
      (.overrun n b.crane b.start b.duration)

def lateEnd (b : Booking) : Nat := b.start + b.late

/-- The bookings that overrun at a clock value (R145, R147). -/
def overruns (now : Nat) (b : Booking) : Bool :=
  (b.state == .admitted || b.state == .landing) && b.start + b.duration ≤ now && !b.overrun

/-- One booking is taken where the test still holds of it. -/
def takeIf (test : Booking → Bool) (f : State → Nat → State) (s : State) (n : Nat) : State :=
  if (s.booking n).any test then f s n else s

/-- Every booking that satisfies the test is taken, in order of start and number (R145, R147). -/
def takeAll (test : Booking → Bool) (f : State → Nat → State) (s : State) : State :=
  (bookingsWhere s test).foldl (takeIf test f) s

/-- Every booking that satisfies the test is taken, and the cell table then serves what the step has changed (log entry
22). -/
def takeAllThenSettle (test : Booking → Bool) (f : State → Nat → State) (s : State) : State :=
  settle s (takeAll test f s)

def startedBooked (now : Nat) (b : Booking) : Bool := b.state == .booked && b.start ≤ now

def lapsedDue (now : Nat) (b : Booking) : Bool := b.state == .due && lateEnd b ≤ now

def lapsedReferred (now : Nat) (b : Booking) : Bool := b.state == .referred && lateEnd b ≤ now

/-- The second checks of R147 at the clock value `now`. -/
def secondChecks (now : Nat) (s : State) : State :=
  let s := takeAll (startedBooked now) (fun t n => becomeDue t n (some .booked)) s
  let s := takeAllThenSettle (lapsedDue now) lapseBooking s
  let s := takeAll (lapsedReferred now) lapseBooking s
  takeAll (overruns now) markOverrun s

/-- A booking that a forward setting lapses (R145, step 1). -/
def lapsedForward (now : Nat) (b : Booking) : Bool :=
  (b.state == .referred || b.state == .booked || b.state == .due) && lateEnd b ≤ now

/-- A booking that a forward setting makes DUE (R145, step 2). -/
def dueForward (now : Nat) (b : Booking) : Bool := b.state == .booked && b.start ≤ now && now < lateEnd b

/-- A booking that a backward setting returns to BOOKED (R146). -/
def returnedBackward (now : Nat) (b : Booking) : Bool := b.state == .due && now < b.start

/-! ### Duty changes (R36, R53) -/

/-- The envelope unit forms the touch set for the new duty, with a full computation where the link is LIVE (R44, R53).
-/
def touchForDuty (s : State) (c : Crane) : State :=
  formTouch (if (s.crane c).link = .live then fullComputation s c else s) c

/-- A change of duty handed on within the request (R36), with notice DUTY (R32). R36 does not place the hand-over of
R54 among its steps: it is served as soon as the touch set is formed, before the parking rule, so an AUTO grant on a
cell left goes with cause AUTO_RELEASE and an AUTO request there leaves without notice (DESIGN CHOICE, log entry 29).
-/
def changeDuty (s0 : State) (p : Port) (c : Crane) (d : Duty) : State :=
  let former := (s0.crane c).duty
  let s := s0.modCrane c fun k => { k with duty := d }
  let s := touchForDuty s c
  let s := touchService s c (touchCells (s0.env c)) (d == .inService)
  let s := if d = .parked ∨ d = .outOfService then parkingRule s c else s
  let s := settle s0 s
  let s := if former = .inService then parkingTest s else s
  (compose s0 s).notifyBoth c .crane (.duty c former d p)

/-! ### Link changes (R30, R52) -/

/-- A link leaves LIVE, or a STALE link becomes LOST (R29, R30). -/
def dropLink (s0 : State) (c : Crane) (l : LinkState) : State :=
  let s := setLink s0 c l
  let s := formTouch s c
  let s := touchService s c (touchCells (s0.env c)) false
  conclude s0 (withdrawRequests s c .link)

end Sys2Proof.Machine
end

