-- ==== Sys2Proof/Machine/CraneRequests.lean ====
section
/-! DEFINITION. The requests of a crane: REPORT (R25 to R28), ENTER (R65, R66), LEAVE (R73), SERVICE, PARK and OOS (R32
to R36). Each is decided on the state it finds, and every request but REPORT puts one response in its port's slot. -/

namespace Sys2Proof.Machine

/-! ### REPORT -/

/-- Steps 1 to 3 of the intake (R28): the report values, the time since last report, the link state. -/
def storeReport (s : State) (c : Crane) (d : Decl) (r : RawReport) : State :=
  let former := (s.crane c).link
  let s := s.modCrane c fun k =>
    { k with report := some (clampedReport d r), clamp := clampFlagsOf d r, since := some 0 }
  if former = .live then s else setLink s c .live

/-- An accepted REPORT (R28), its touch set handed on and the outcome composed. -/
def takeReport (s0 : State) (c : Crane) (d : Decl) (r : RawReport) : State :=
  let s := formTouch (fullComputation (storeReport s0 c d r) c) c
  conclude s0 (touchService s c (touchCells (s0.env c)) ((s0.crane c).link != .live))

/-- A REPORT on link Cn: ignored where crane n is not declared (R25). -/
def doReport (c : Crane) (r : RawReport) (s : State) : State :=
  match s.decl c with
  | some d => takeReport s c d r
  | none => s

/-! ### ENTER -/

/-- Checks 1 and 2 of R65, the first of every request that names a crane and a cell. -/
def linkChecks (s : State) (p : Port) : List (Bool × Reason) :=
  [(!s.authorized p, .notAuthority), (s.noMapLink p, .noMap)]

/-- Checks 4 to 12 of R65. -/
def enterChecks (s : State) (c : Crane) (x : CellNo) : List (Bool × Reason) :=
  [(!s.declared c, .noCrane), (!s.present x, .noCell), ((s.member x c).isNone, .notMember), (s.windBars, .wind),
    (s.isDraining x, .draining), ((s.crane c).link != .live, .link), ((s.crane c).duty != .inService, .duty),
    (s.holds c x || (requestOf c (s.cell x).list).isSome, .already), (hasClaim c (s.cell x).list, .booked)]

/-- What a refused ENTER carries: ALREADY names the kind of the entry the crane has (R65). -/
def enterItem (s : State) (c : Crane) (x : CellNo) (why : Reason) : Result :=
  if why = .already then .already ((requestOf c (s.cell x).list).map entryKind) else .nothing

/-- An ENTRY request joins the tail of the list with its wait timer (R66). -/
def placeRequest (s : State) (c : Crane) (x : CellNo) : State :=
  s.modCell x fun k => { k with list := k.list ++ [.entry c (s.map.params.enterWait * 1000)] }

/-- An ENTER that passes its checks (R66): granted at once as the head of a servable cell, otherwise QUEUED. -/
def acceptEnter (s0 : State) (p : Port) (c : Crane) (x : CellNo) : State :=
  if (s0.cell x).list.isEmpty && canGrant s0 x c then
    let s := (setGrant s0 x ⟨c, .entry⟩ .enter).notify (.c c) (.granted c x .entry)
    (conclude s0 s).respond p ⟨respKind .enter, .granted, none, .nothing⟩
  else
    let s := placeRequest s0 c x
    (conclude s0 s).respond p
      ⟨respKind .enter, .queued, none, .queued (s.cell x).list.length ((s.cell x).grant.map (·.holder))⟩

def doEnter (p : Port) (who : Option Nat) (cell : Nat) (s : State) : State :=
  match firstRefusal (linkChecks s p) with
  | some why => s.refuse p .enter why
  | none =>
    match craneNamed p who, cellOf cell with
    | some c, some x =>
      match firstRefusal (enterChecks s c x) with
      | some why => s.refuse p .enter why (enterItem s c x why)
      | none => acceptEnter s p c x
    | _, _ => s.refuse p .enter .badField

/-! ### LEAVE -/

/-- Checks 4 and 5 of R65, then NOT_HELD and BOOKED (R73). -/
def leaveChecks (s : State) (c : Crane) (x : CellNo) : List (Bool × Reason) :=
  [(!s.declared c, .noCrane), (!s.present x, .noCell), (!s.holds c x, .notHeld),
    ((s.cell x).grant.any fun g => g.kind == .booked, .booked)]

/-- A LEAVE sent by a supervisor sends RELEASED to the former holder's link (R73). -/
def tellLeft (s : State) (p : Port) (c : Crane) (x : CellNo) : State :=
  match p with
  | .c _ => s
  | .s _ => s.notify (.c c) (.released x .leave)

/-- A LEAVE that passes its checks (R73). -/
def acceptLeave (s0 : State) (p : Port) (c : Crane) (x : CellNo) : State :=
  (conclude s0 (tellLeft (releaseCell s0 x .leave) p c x)).answer p .leave .nothing

def doLeave (p : Port) (who : Option Nat) (cell : Nat) (s : State) : State :=
  match firstRefusal (linkChecks s p) with
  | some why => s.refuse p .leave why
  | none =>
    match craneNamed p who, cellOf cell with
    | some c, some x =>
      match firstRefusal (leaveChecks s c x) with
      | some why => s.refuse p .leave why
      | none => acceptLeave s p c x
    | _, _ => s.refuse p .leave .badField

/-! ### SERVICE, PARK, OOS -/

/-- The checks of R32 and then those of the request itself. A crane already in the duty asked for is answered UNCHANGED;
otherwise the duty changes (R36) and the response, sent after the hand-overs, carries it. -/
def decideDuty (k : ReqKind) (d : Duty) (checks : State → Crane → List (Bool × Reason)) (p : Port) (who : Option Nat)
    (s : State) : State :=
  match firstRefusal (linkChecks s p) with
  | some why => s.refuse p k why
  | none =>
    match craneNamed p who with
    | none => s.refuse p k .badField
    | some c =>
      if !s.declared c then s.refuse p k .noCrane
      else if (s.crane c).duty = d then s.answer p k .unchanged
      else
        match firstRefusal (checks s c) with
        | some why => s.refuse p k why
        | none => (changeDuty s p c d).answer p k (.duty d)

/-- Conditions 2 and 3 of R33. -/
def serviceChecks (s : State) (c : Crane) : List (Bool × Reason) :=
  [(s.wind.state == .vane, .wind), (fbAsserted s c, .brake)]

/-- Conditions 2 and 3 of R35, which are 3 and 4 of R34. -/
def oosChecks (s : State) (c : Crane) : List (Bool × Reason) :=
  [((s.crane c).parkSw != .asserted, .notParked), (s.liftInProgress c, .inProgress)]

/-- Conditions 2 to 4 of R34. -/
def parkChecks (s : State) (c : Crane) : List (Bool × Reason) :=
  ((s.crane c).duty == .outOfService, .duty) :: oosChecks s c

def doService : Port → Option Nat → State → State := decideDuty .service .inService serviceChecks

def doPark : Port → Option Nat → State → State := decideDuty .park .parked parkChecks

def doOos : Port → Option Nat → State → State := decideDuty .oos .outOfService oosChecks

end Sys2Proof.Machine
end

