-- ==== Sys2Proof/Machine/BookRequests.lean ====
section
/-! DEFINITION. The requests of the lift book and of the clock and admission unit: BOOK (R132 to R136), RULE (R137),
CANCEL (R139), ABORT (R140), SETCLOCK (R144 to R146), END (R155), FINISH (R156). -/

namespace Sys2Proof.Machine

/-! ### BOOK -/

/-- Check 3 of R132 with the item its response carries. -/
def fieldRefusal (f : BookFields) : Option (Reason × Result) :=
  (bookFieldsFailing f).map fun x => (.badField, .badBookField x)

/-- The first listed cell, in cell-list order, that fails a test, as a refusal that carries the cell. -/
def cellRefusal (cells : List CellNo) (why : Reason) (fails : CellNo → Bool) : Option (Reason × Result) :=
  (cells.find? fails).map fun x => (why, .badCell (cellNo x))

/-- A refusal that carries the site clock (checks 7 and 8 of R132). -/
def timeRefusal (now : Nat) (why : Reason) (fails : Bool) : Option (Reason × Result) :=
  if fails then some (why, .clockNow now) else none

/-- Check 9 of R132: the conflicting live booking with the earliest start, then the lowest number (R135). -/
def overlapRefusal (s : State) (c : Crane) (cells : List CellNo) (f : BookFields) : Option (Reason × Result) :=
  (s.book.live.find? (conflicts c cells f.start f.duration)).map fun b =>
    (.overlap, .overlap b.number b.crane b.start b.duration)

/-- The listed cells of a BOOK. -/
def bookCells (f : BookFields) : List CellNo := f.cells.filterMap cellOf

/-- Checks 3 to 10 of R132 for a declared crane, in order. -/
def bookRefusal (s : State) (c : Crane) (f : BookFields) : Option (Reason × Result) :=
  let cells := bookCells f
  let now := s.clock.count
  fieldRefusal f
    <|> cellRefusal cells .noCell (fun x => !s.present x)
    <|> cellRefusal cells .notMember (fun x => (s.member x c).isNone)
    <|> cellRefusal cells .draining s.isDraining
    <|> timeRefusal now .tooLate (f.start + f.late ≤ now)
    <|> timeRefusal now .horizon (now + Config.horizon < f.start)
    <|> overlapRefusal s c cells f
    <|> if Config.bookMax ≤ s.book.live.length then some (.bookFull, .nothing) else none

/-- The cells of a list that carry the ruling flag in the active map (R136). -/
def rulingCells (s : State) (cells : List CellNo) : List CellNo :=
  cells.filter fun x => (s.cellDecl x).any (·.ruling)

/-- The record of an accepted BOOK (R136, steps 1 and 2). -/
def bookingOf (s : State) (p : Port) (c : Crane) (f : BookFields) : Booking :=
  let cells := bookCells f
  let note := rulingCells s cells
  { number := numberGiven s.book, crane := c, start := f.start, duration := f.duration, late := f.late,
    cls := (loadClassOf f.cls).getD .normal, inspect := (flagOf f.inspect).getD false, cells := cells, origin := p,
    state := if note.isEmpty then .booked else .referred, overrun := false,
    note := if note.isEmpty then none else some note }

/-- The book with an accepted record, and the next number (R131). -/
def bookWith (k : Book) (b : Booking) : Book := ⟨insertBooking b k.live, numberAfter b.number⟩

/-- The state of an accepted booking at the end of the lift book's own handling (R136): a BOOKED booking whose start
has come is DUE. -/
def acceptedState (now : Nat) (b : Booking) : BookState :=
  if b.state = .booked ∧ b.start ≤ now then .due else b.state

/-- An accepted BOOK (R136). -/
def acceptBook (s0 : State) (p : Port) (c : Crane) (f : BookFields) : State :=
  let b := bookingOf s0 p c f
  let s := s0.setBook (bookWith s0.book b)
  let st := acceptedState s0.clock.count b
  let s :=
    if st = .due then compose s0 (becomeDue s b.number none)
    else s.notifyBooking b (.booking b.number b.crane none (.state st) none none)
  s.answer p .book (.booked b.number st b.start b.duration b.note)

def doBook (p : Port) (who : Option Nat) (f : BookFields) (s : State) : State :=
  if s.noMap then s.refuse p .book .noMap
  else if !s.clock.isSet then s.refuse p .book .noClock
  else
    match craneNamed p who with
    | none => s.refuse p .book .badField (.badCrane (who.getD 0))
    | some c =>
      if !s.declared c then s.refuse p .book .noCrane (.badCrane (craneNo c))
      else
        match bookRefusal s c f with
        | some (why, item) => s.refuse p .book why item
        | none => acceptBook s p c f

/-! ### Requests that name a booking -/

/-- A booking number 1..65535. -/
def numberInRange (n : Nat) : Bool := 1 ≤ n && n ≤ 65535

/-- A crane link sees the bookings of its own crane only (R139, R142). -/
def seenFrom (p : Port) (b : Booking) : Bool :=
  match p with
  | .c n => b.crane == n
  | .s _ => true

def State.bookingSeen (s : State) (p : Port) (n : Nat) : Option Booking := (s.booking n).filter (seenFrom p)

/-- The booking that an authority-only request names, or its refusal (R137, R140, R156). `fieldsOk` judges the
request's own fields. -/
def rulingChecks (s : State) (p : Port) (n : Nat) (fieldsOk : Bool) : List (Bool × Reason) :=
  [(!s.authorized p, .notAuthority), (!(numberInRange n && fieldsOk), .badField), ((s.booking n).isNone, .noBooking)]

/-- RULE ACCEPT (R137, step 5). A booking whose start has come becomes DUE in the same step, with one BOOKING notice
that names REFERRED as the former state (DESIGN CHOICE, log entry 33). -/
def acceptRuling (s0 : State) (b : Booking) : State :=
  if b.start ≤ s0.clock.count then compose s0 (becomeDue s0 b.number (some .referred))
  else
    (s0.modBooking b.number fun k => { k with state := .booked, note := none }).notifyBooking b
      (.booking b.number b.crane (some .referred) (.state .booked) none none)

/-- RULE past its checks (R137, steps 5 and 6). -/
def giveRuling (s : State) (p : Port) (b : Booking) (accept : Bool) : State :=
  if accept then
    (acceptRuling s b).answer p .rule
      (.bookState (if b.start ≤ s.clock.count then .due else .booked))
  else (conclude s (endBooking s b .rejected none)).answer p .rule .nothing

def doRule (p : Port) (n ruling : Nat) (s : State) : State :=
  match firstRefusal (rulingChecks s p n (rulingOf ruling).isSome) with
  | some why => s.refuse p .rule why
  | none =>
    match s.booking n, rulingOf ruling with
    | some b, some accept =>
      if b.state = .referred then giveRuling s p b accept else s.refuse p .rule .notReferred (.bookState b.state)
    | _, _ => s

/-- A CANCEL that ends its booking (R139, steps 5 and 6): a DUE booking's claims are withdrawn first. -/
def acceptCancel (s0 : State) (p : Port) (b : Booking) : State :=
  let s := if b.state = .due then withdrawClaims s0 b else s0
  (conclude s0 (endBooking s b .cancelledRequest (some p))).answer p .cancel .nothing

def doCancel (p : Port) (n : Nat) (s : State) : State :=
  if s.noMapLink p then s.refuse p .cancel .noMap
  else if !numberInRange n then s.refuse p .cancel .badField
  else
    match s.bookingSeen p n with
    | none => s.refuse p .cancel .noBooking
    | some b =>
      if underWay b.state then s.refuse p .cancel .inProgress (.bookState b.state) else acceptCancel s p b

def doAbort (p : Port) (n : Nat) (s : State) : State :=
  match firstRefusal (rulingChecks s p n true) with
  | some why => s.refuse p .abort why
  | none =>
    match s.booking n with
    | some b =>
      if underWay b.state then
        (conclude s (bookingRelease s b none .abortedRequest none)).answer p .abort .nothing
      else s.refuse p .abort .noLift (.bookState b.state)
    | none => s

def doFinish (p : Port) (n : Nat) (s : State) : State :=
  match firstRefusal (rulingChecks s p n true) with
  | some why => s.refuse p .finish why
  | none =>
    match s.booking n with
    | some b =>
      if b.state = .inspect then
        (conclude s (bookingRelease s b none .complete (some p))).answer p .finish .nothing
      else s.refuse p .finish .notInspect (.bookState b.state)
    | none => s

/-! ### END -/

/-- The inspection hold (R155). -/
def heldForInspection (policy : EndHold) (b : Booking) : Bool :=
  b.inspect || policy == .all || (policy == .heavy && b.cls == .heavy)

/-- END of a lift in progress (R155). -/
def endLift (s : State) (p : Port) (b : Booking) : State :=
  if heldForInspection s.map.params.endHold b then
    (conclude s (moveBooking s b .inspect)).answer p .endLift (.ended b.number (.state .inspect))
  else
    (conclude s (bookingRelease s b none .complete none)).answer p .endLift (.ended b.number (.outcome .complete))

/-- The crane's booking in ADMITTED or LANDING. -/
def liftOf (s : State) (c : Crane) : Option Booking :=
  ((s.crane c).lift.bind s.booking).filter fun b => inLift (some b.state)

def doEnd (c : Crane) (s : State) : State :=
  if s.noMap then s.refuse (.c c) .endLift .noMap
  else
    match liftOf s c with
    | none => s.refuse (.c c) .endLift .noLift
    | some b => endLift s (.c c) b

/-! ### SETCLOCK -/

/-- Every booking that satisfies the test is taken, and those taken are counted (R144). -/
def takeCounting (test : Booking → Bool) (f : State → Nat → State) (s : State) : State × Nat :=
  (bookingsWhere s test).foldl
    (fun (t, k) n => if (t.booking n).any test then (f t n, k + 1) else (t, k)) (s, 0)

/-- The evaluation of a forward setting (R145), with the bookings made DUE and LAPSED. -/
def forwardSetting (new : Nat) (s : State) : State × Nat × Nat :=
  let lapsed := takeAllThenSettle (lapsedForward new) lapseBooking s
  let made := takeCounting (dueForward new) (fun t n => becomeDue t n (some .booked)) lapsed
  (takeAll (overruns new) markOverrun made.1, made.2, (bookingsWhere s (lapsedForward new)).length)

/-- The evaluation of a backward setting (R146), with the bookings returned to BOOKED. -/
def backwardSetting (new : Nat) (s : State) : State × Nat :=
  (takeAllThenSettle (returnedBackward new) returnBooking s, (bookingsWhere s (returnedBackward new)).length)

/-- The clock takes a new value, and its next second comes one second later (R144). -/
def clockTakes (s : State) (new : Nat) : State := s.setClock ⟨new, true, 1000⟩

/-- The book judged against the new value, with the three counts of R144. -/
def judgeBook (former new : Nat) (s : State) : State × Nat × Nat × Nat :=
  if former < new then
    let r := forwardSetting new s
    (r.1, r.2.1, r.2.2, 0)
  else if new < former then
    let r := backwardSetting new s
    (r.1, 0, 0, r.2)
  else (s, 0, 0, 0)

/-- A SETCLOCK taken from the holder (R144). R144 does not place notice CLOCK among the notices of the request: it
joins the queues last, after the BOOKING and CELL notices of the evaluation and the notices of the output unit (DESIGN
CHOICE, log entry 7). -/
def acceptClock (s0 : State) (p : Port) (new : Nat) : State :=
  let former := s0.clock.count
  let r := judgeBook former new (clockTakes s0 new)
  ((compose s0 r.1).notifyClass .site (.clock former new p)).answer p .setClock
    (.clockSet former new r.2.1 r.2.2.1 r.2.2.2)

def doSetClock (p : Port) (value : Nat) (s : State) : State :=
  match firstRefusal [(!s.authorized p, .notAuthority), (Config.clockMax < value, .badField)] with
  | some why => s.refuse p .setClock why
  | none => acceptClock s p value

end Sys2Proof.Machine
end

