-- ==== Sys2Proof/Machine/SupRequests.lean ====
section
/-! DEFINITION. The supervisor requests of the ports and the authority unit (R162, R163, R166), of the cell table and the
output unit (R78, R85, R92), of the crane table (R40) and of the wind unit (R108 to R110, R119, R120). -/

namespace Sys2Proof.Machine

/-! ### Ports and authority -/

/-- NOTICE_MASK (R162). -/
def doNoticeMask (x : Sup) (m : Classes) (s : State) : State :=
  (s.modPort (.s x) fun q => { q with mask := m }).answer (.s x) .noticeMask (.mask m)

/-- A change of authority holder with its notice to both supervisor links (R163). -/
def giveAuthority (s : State) (x : Sup) (why : AuthorityMove) : State :=
  ({ s with holder := x }.notify (.s .s1) (.authority x why)).notify (.s .s2) (.authority x why)

/-- TAKE (R163). -/
def doTake (x : Sup) (s : State) : State :=
  if x = s.holder then s.answer (.s x) .take .unchanged
  else if s.takeKey = .asserted then (giveAuthority s x .take).answer (.s x) .take .nothing
  else s.refuse (.s x) .take .key

/-- HANDOVER (R163). -/
def doHandover (x : Sup) (s : State) : State :=
  if x = s.holder then (giveAuthority s (otherSup x) .handover).answer (.s x) .handover .nothing
  else s.refuse (.s x) .handover .notAuthority

/-- RESTART (R166): the reset itself is taken once the response has been sent. -/
def doRestart (x : Sup) (s : State) : State :=
  if x = s.holder then s.answer (.s x) .restart .nothing else s.refuse (.s x) .restart .notAuthority

/-! ### Cells and outputs -/

/-- The lift for which a crane holds its BOOKED cells. -/
def currentLift (s : State) (c : Crane) : Option Booking := (s.crane c).lift.bind s.booking

/-- FORCE_RELEASE of a held cell (R78): the cell is freed and RELEASED sent; the booking of a BOOKED grant is aborted,
and its release covers the booking's other cells (R140, R157). -/
def forceFree (s : State) (x : CellNo) (g : Grant) : State :=
  let s := (releaseCell s x .force).notify (.c g.holder) (.released x .force)
  if g.kind = .booked then
    match currentLift s g.holder with
    | some b => bookingRelease s b (some x) .abortedForce none
    | none => s
  else s

def doForceRelease (x : Sup) (cell : Nat) (s : State) : State :=
  let p := Port.s x
  if !s.authorized p then s.refuse p .forceRelease .notAuthority
  else
    match cellOf cell with
    | none => s.refuse p .forceRelease .badField
    | some k =>
      if !s.present k then s.refuse p .forceRelease .noCell
      else
        match (s.cell k).grant with
        | none => s.refuse p .forceRelease .notHeld
        | some g => (conclude s (forceFree s k g)).answer p .forceRelease (.released g)

/-- The MANUAL set after INHIBIT_SET or INHIBIT_CLEAR, the lines recomposed, MANUAL_INHIBIT where the set changes
(R85), after the INHIBIT notices of the request (DESIGN CHOICE, log entry 7). -/
def placeManual (s0 : State) (p : Port) (c : Crane) (m : Lines) : State :=
  let old := (s0.out c).src.manual
  let s := compose s0 (s0.modOut c fun o => { o with src := { o.src with manual := m } })
  if old = m then s else s.notifyClass .crane (.manualInhibit c m p)

/-- The answer of R85: the crane's MANUAL set, its line levels and their sources. -/
def answerInhibit (s : State) (p : Port) (k : ReqKind) (c : Crane) : State :=
  s.answer p k (.inhibits (s.out c).src.manual (s.out c).lines (s.out c).src)

/-- INHIBIT_SET and INHIBIT_CLEAR differ in how the named lines change the MANUAL set. -/
def changeManual (k : ReqKind) (f : Lines → Lines → Lines) (x : Sup) (crane : Nat) (m : Lines) (s : State) : State :=
  let p := Port.s x
  if !s.authorized p then s.refuse p k .notAuthority
  else
    match craneOf crane with
    | none => s.refuse p k .badField
    | some c =>
      if m = noMotion then s.refuse p k .badField
      else answerInhibit (placeManual s p c (f (s.out c).src.manual m)) p k c

def doInhibitSet : Sup → Nat → Lines → State → State := changeManual .inhibitSet linesUnion

def doInhibitClear : Sup → Nat → Lines → State → State := changeManual .inhibitClear linesDiff

/-- A new configuration of a line (R92): driven afresh (R94), stored and announced. -/
def configureLine (s : State) (l : SigLine) (g : SigCfg) : State :=
  let s := s.modSig l fun _ => driveFresh g (sourceValue s.sources g.source)
  (startWrite s (.signals (s.sigs.map SigRec.cfg))).notifyClass .site (.signalConfig l g)

def doSetSignal (x : Sup) (line : Nat) (raw : RawSignal) (s : State) : State :=
  let p := Port.s x
  if !s.authorized p then s.refuse p .setSignal .notAuthority
  else
    match lineOf line, sigCfgOf raw with
    | some l, some g => (configureLine s l g).answer p .setSignal .nothing
    | _, _ => s.refuse p .setSignal .badField

/-- The selection replaces the one in the crane's record (R40). -/
def selectEdges (s : State) (c : Crane) (i : Input) (e : EdgeSel) : State :=
  match i with
  | .parkSw => s.modCrane c fun k => { k with parkSel := e }
  | .vaneFb => s.modCrane c fun k => { k with vaneSel := e }

/-- SETINPUT (R40). R40 gives its two refusals no order: NOT_AUTHORITY is judged first (DESIGN CHOICE, log entry 28).
-/
def doSetInput (x : Sup) (crane input sel : Nat) (s : State) : State :=
  let p := Port.s x
  if !s.authorized p then s.refuse p .setInput .notAuthority
  else
    match craneOf crane, inputOf input, edgeSelOf sel with
    | some c, some i, some e => (selectEdges s c i e).answer p .setInput .nothing
    | _, _, _ => s.refuse p .setInput .badField

/-! ### Wind -/

/-- The resume-ready flag clears; RESUME_WITHDRAWN is sent where it was set (R124), with the fields of kind CHANGE
(DESIGN CHOICE, log entry 36). -/
def withdrawReady (s : State) : State :=
  if s.wind.ready then
    let s := s.setWind { s.wind with ready := false }
    s.notifyClass .wind (.wind .resumeWithdrawn s.wind.state s.wind.state s.wind.cause s.wind.manual s.wind.ready)
  else s

/-- SITE_STOP with the manual stop flag clear (R119). -/
def siteStops (s : State) : State :=
  let s := s.setWind { s.wind with manual := true }
  match s.wind.state with
  | .stop => announceWind (s.setWind { s.wind with cause := .manual }) .stop
  | .vane => announceWind (withdrawReady s) .vane
  | _ => enterStop s .manual

/-- SITE_STOP (R119). With the flag set already the response carries the result UNCHANGED alone, without the wind state
and cause that R119 names after its four cases (DESIGN CHOICE, log entry 40). -/
def doSiteStop (x : Sup) (s : State) : State :=
  let p := Port.s x
  if !s.authorized p then s.refuse p .siteStop .notAuthority
  else if s.wind.manual then s.answer p .siteStop .unchanged
  else
    let t := conclude s (siteStops s)
    t.answer p .siteStop (.windNow t.wind.state t.wind.cause)

/-- RESUME (R120). The move from VANE to HOLD keeps the cause with which VANE was entered, as R115 and R124 say; the
worked sequence of the chapter shows another (DESIGN CHOICE, log entry 31). -/
def doResume (x : Sup) (s : State) : State :=
  let p := Port.s x
  if !s.authorized p then s.refuse p .resume .notAuthority
  else if s.wind.manual then
    (announceWind (s.setWind { s.wind with manual := false }) s.wind.state).answer p .resume .flagCleared
  else if s.wind.state = .vane ∧ s.wind.ready then
    (conclude s (moveWind s .hold s.wind.cause none)).answer p .resume .resumedHold
  else s.refuse p .resume .notReady

/-- The samples left until the next block boundary (R110). -/
def samplesLeft (m : Meas) : Nat := 60 - m.accCount

/-- SETWIND (R109, R110). -/
def doSetWind (x : Sup) (t : Thresholds) (s : State) : State :=
  let p := Port.s x
  if !s.authorized p then s.refuse p .setWind .notAuthority
  else
    match thresholdsFailing t with
    | some i => s.refuse p .setWind .badField (.badThreshold i)
    | none =>
      ((s.setMeas { s.meas with pendingSet := some t }).notifyClass .wind (.windTablePending t p)).answer p .setWind
        (.samplesLeft (samplesLeft s.meas))

/-- SETCAL (R108). -/
def doSetCal (x : Sup) (raw : RawCal) (s : State) : State :=
  let p := Port.s x
  if !s.authorized p then s.refuse p .setCal .notAuthority
  else
    match calOf raw with
    | none => s.refuse p .setCal .badField
    | some k =>
      ((startWrite (s.setMeas { s.meas with waiting := some k }) (.calibration k)).notifyClass .wind
        (.calibration k p)).answer p .setCal .nothing

end Sys2Proof.Machine
end

