-- ==== Sys2Proof/Machine/MapRequests.lean ====
section
/-! DEFINITION. The staging requests (R6 to R10), COMMIT (R11 to R14) and COMMIT_CANCEL (R18). -/

namespace Sys2Proof.Machine

/-! ### Staging -/

/-- The checks common to the staging requests and COMMIT (R6, R11). -/
def stageChecks (s : State) (p : Port) : List (Bool × Reason) :=
  [(!s.authorized p, .notAuthority), (isPending s.map, .commitPending)]

/-- A staging request past its checks: the staged map it makes with the result of its response, or BAD_FIELD. -/
def stage (k : ReqKind) (x : Sup) (f : MapUnit → Option (MapUnit × Result)) (s : State) : State :=
  match firstRefusal (stageChecks s (.s x)) with
  | some why => s.refuse (.s x) k why
  | none =>
    match f s.map with
    | none => s.refuse (.s x) k .badField
    | some (m, r) => (s.setMap m).answer (.s x) k r

def declCount (m : MapBody) : Nat := (allCranes.filter fun c => (m.decls[c]).isSome).length

def cellCount (m : MapBody) : Nat := (allCells.filter fun x => (m.cells[x]).isSome).length

/-- A staged map as a whole, with the counts of R7. -/
def stagedAs (u : MapUnit) (m : MapBody) (v : SiteParams) : MapUnit × Result :=
  ({ u with staged := m, stagedParams := v }, .stagedCounts (declCount m) (cellCount m))

/-- STAGE_CLEAR (R7). -/
def doStageClear (x : Sup) : State → State :=
  stage .stageClear x fun u => some (stagedAs u MapBody.empty SiteParams.default)

/-- STAGE_COPY (R7): under NO_MAP there are no declarations or cells to copy. -/
def doStageCopy (x : Sup) : State → State :=
  stage .stageCopy x fun u => some (stagedAs u (u.active.getD MapBody.empty) u.params)

def setDecl (m : MapBody) (c : Crane) (d : Option Decl) : MapBody := { m with decls := m.decls.set c d }

def setCell (m : MapBody) (x : CellNo) (d : Option CellDecl) : MapBody := { m with cells := m.cells.set x d }

/-- STAGE_CRANE (R8): `none` is the remove form. -/
def doStageCrane (x : Sup) (crane : Nat) (d : Option Decl) : State → State :=
  stage .stageCrane x fun u =>
    (craneOf crane).map fun c => ({ u with staged := setDecl u.staged c d }, .nothing)

/-- Records put at cells n, n + 1, … (R9). -/
def putRecords (m : MapBody) : Nat → List CellDecl → MapBody
  | _, [] => m
  | n, d :: ds =>
    match cellOf n with
    | some x => putRecords (setCell m x (some d)) (n + 1) ds
    | none => m

/-- The ranges of a STAGE_CELL (R9). -/
def stageCellInRange (first count : Nat) : Bool :=
  1 ≤ first && first ≤ 64 && 1 ≤ count && count ≤ 4 && first + count ≤ 65

/-- STAGE_CELL (R9). -/
def doStageCell (x : Sup) (first : Nat) (recs : List RawRecord) : State → State :=
  stage .stageCell x fun u =>
    if stageCellInRange first recs.length then
      (recordsStored recs).map fun ds => ({ u with staged := putRecords u.staged first ds }, .nothing)
    else none

/-- STAGE_REMOVE_CELL (R9). -/
def doStageRemoveCell (x : Sup) (cell : Nat) : State → State :=
  stage .stageRemoveCell x fun u =>
    (cellOf cell).map fun k => ({ u with staged := setCell u.staged k none }, .nothing)

/-- STAGE_SITE (R10). -/
def doStageSite (x : Sup) (v : RawParams) : State → State :=
  stage .stageSite x fun u => (paramsOf v).map fun k => ({ u with stagedParams := k }, .nothing)

/-! ### COMMIT -/

/-- A commit becomes pending (R13). -/
def makePending (s : State) (cells : List CellNo) : State :=
  let s := s.setMap
    { s.map with commit := .pending (s.map.params.commitWait * 1000),
                 draining := Vector.ofFn fun x => cells.contains x }
  s.notifyClass .site (.mapDraining cells)

/-- The commit decision on a staged map that passes (R13). -/
def decideCommit (s : State) (p : Port) : State :=
  let cells := differing s.map
  if drained s cells then (compose s (activate s cells)).answer p .commit (.committed cells.length)
  else (makePending s cells).answer p .commit (.commitPending cells.length)

def doCommit (x : Sup) (s : State) : State :=
  match firstRefusal (stageChecks s (.s x)) with
  | some why => s.refuse (.s x) .commit why
  | none =>
    match validate s.map.staged with
    | some (f, n) => s.refuse (.s x) .commit .mapInvalid (.mapInvalid f n)
    | none => decideCommit s (.s x)

/-- A pending commit is abandoned with its notice (R18); each cell released from its mark is served and tested. -/
def endCommit (s : State) (n : Notice) : State := conclude s ((abandonCommit s).notifyClass .site n)

def doCommitCancel (x : Sup) (s : State) : State :=
  match firstRefusal
      [(!s.authorized (.s x), .notAuthority), (!isPending s.map, .noCommit)] with
  | some why => s.refuse (.s x) .commitCancel why
  | none => (endCommit s .commitCancelled).answer (.s x) .commitCancel .nothing

end Sys2Proof.Machine
end

