-- ==== Sys2Proof/Machine/Status.lean ====
section
/-! DEFINITION. STATUS (R164): the items of the site, crane, cell, booking, wind and book list responses (R22, R42, R57,
R80, R96, R112, R128, R142), in the order listed. -/

namespace Sys2Proof.Machine

/-! ### Counts shown in a coarser unit -/

/-- A count shown in units of `per` counts: exact where it is a whole number of them, a free value otherwise (log entry
3). -/
def inUnits (count per : Nat) : Nat :=
  if count % per = 0 then count / per else Config.roundedQuotient count per

/-- Seconds left on a timer held in milliseconds. -/
def secondsLeft (ms : Nat) : Nat := inUnits ms 1000

/-- Seconds left on the wait timer of a request. Wait timers count in whole seconds from the entry's arrival (R58), so
the seconds left are the limit less the whole seconds that have passed. -/
def waitSecondsLeft (ms : Nat) : Nat := ceilDiv ms 1000

/-! ### Site -/

/-- The map unit's state (R22, R164). The DRAINING cells and the commit wait, which are shown when PENDING, have a
presence byte each (DESIGN CHOICE, log entry 16). -/
def mapItems (u : MapUnit) : List Field :=
  match u.commit with
  | .idle => [flag u.active.isNone, .u8 0, .u8 0, .u8 0]
  | .pending left =>
    [flag u.active.isNone, .u8 1, .u8 1] ++ cellsField (drainingCells u) ++ [.u8 1, .u16 (secondsLeft left)]

/-- The store's state (R164): write state IDLE or WRITING, the section being written under a
presence byte of its own (DESIGN CHOICE, log entry 16), those waiting, the fault flag. -/
def storeItems (k : Store) : List Field :=
  flag (!storeIdle k) :: mayBe (fun c => [.u8 (sectionOf c).code]) k.writing
    ++ listed (fun c => [.u8 (sectionOf c).code]) k.waiting ++ [flag k.fault]

/-- Clock value, clock-set flag, wind state and cause (R164). -/
def clockItems (s : State) : List Field := [.u32 s.clock.count, flag s.clock.isSet]

def windItems (s : State) : List Field := [.u8 s.wind.state.code, .u8 s.wind.cause.code]

/-- One signal line (R96): configuration, present value of its source, drive. -/
def lineItems (s : State) (l : SigLine) : List Field :=
  let r := s.sig l
  sigFields r.cfg ++ [flag (sourceValue s.sources r.cfg.source), .u8 r.drive.code]

def allSources : List SigSource :=
  [.windAlert, .windHold, .windStop, .windVane, .craneLost, .zoneInhibit, .recallOverdue, .anemometerFault, .noMap,
    .vaneFault]

/-- The signal lines, the load result of their section, and the ten sources (R96). -/
def signalItems (s : State) : List Field :=
  allLines.flatMap (lineItems s) ++ [loadField s.store.loads.signals]
    ++ allSources.map fun k => flag (sourceValue s.sources k)

/-- The site STATUS on a supervisor link, before the overflow flag (R164). -/
def siteItems (s : State) (x : Sup) : List Field :=
  mapItems s.map ++ loadFields s.store.loads ++ storeItems s.store
    ++ [.u8 s.cause.code, .u8 (supCode s.holder), .u8 s.takeKey.code] ++ clockItems s ++ windItems s ++ signalItems s
    ++ [classesField (s.port (.s x)).mask]

/-- The site STATUS on a crane link, before the overflow flag (R164). -/
def siteItemsCrane (s : State) : List Field :=
  [flag s.noMap, .u8 s.cause.code] ++ clockItems s ++ windItems s

/-! ### Crane -/

/-- A crane declaration's fields, in the order of R2, without the crane number, which the request names (DESIGN CHOICE,
log entry 16). -/
def declItems (d : Decl) : List Field :=
  [.u16 d.jib, .u16 d.hookMax, .u16 d.park, .u16 d.reaction, .u8 d.slewDec, .u8 d.trolDec, .u8 d.slewMargin,
    .u8 d.radMargin, .u8 d.windFactor, .u8 d.vanePermit]

/-- The stored report values and doubt flags (R42). ω, −255..255, takes two bytes and v one, each signed in two's
complement as in the body of R159: the widths of R160 speak of the top of a range alone (DESIGN CHOICE, log entry 16).
-/
def reportItems (r : Report) : List Field :=
  [.u16 r.theta, .i16 r.omega, .u16 r.r, .i8 r.v, .u16 r.h, flag r.doubtAngle, flag r.doubtRadius, flag r.doubtHook]

/-- A booking number with its booking state (R42): one item, present or absent as a whole (log entry 16). -/
def liftItems (s : State) (n : Nat) : List Field :=
  match bookStateOf s n with
  | some b => [.u16 n, .u8 b.code]
  | none => [.u16 n]

/-- The crane runtime record (R42). The time since last report is shown in the 10 ms steps of R23. -/
def recordItems (s : State) (c : Crane) : List Field :=
  let k := s.crane c
  mayBe reportItems k.report ++ [flag k.clamp.omega, flag k.clamp.r, flag k.clamp.v, flag k.clamp.h, .u8 k.link.code]
    ++ mayBe (fun t => [.u32 (t / Config.tickMs)]) k.since
    ++ [.u8 k.duty.code, .u8 k.parkSw.code, .u8 k.vaneFb.code, .u8 k.parkSel.code, .u8 k.vaneSel.code,
      flag k.vaneFault]
    ++ mayBe (liftItems s) k.lift ++ mayBe (liftItems s) k.due

/-- The line of R51's table, numbered in the order of R57. -/
def TouchLine.code : TouchLine → Nat
  | .undeclared => 0
  | .outOfService => 1
  | .none => 2
  | .lost => 3
  | .stale => 4
  | .live => 5

/-- The envelope record (R57). The touch set stands first, with its count, and then the closing motions of its cells, a
byte for each and no count of their own (DESIGN CHOICE, log entry 16). -/
def envelopeItems (s : State) (c : Crane) : List Field :=
  let k := s.env c
  mayBe (fun e => [Field.u16 e.gust]) k.env ++ mayBe (fun e => [Field.u16 e.lead]) k.env
    ++ mayBe (fun e => [Field.u16 e.margin]) k.env ++ mayBe (fun e => [Field.u16 e.forward]) k.env ++ [flag k.sat]
    ++ mayBe (fun e => [Field.u16 e.angStart, .u16 e.angLen]) k.env
    ++ mayBe (fun e => [Field.u16 e.radLo, .u16 e.radHi]) k.env ++ mayBe cellsField k.reportSet
    ++ cellsField (touchCells k) ++ k.touch.map (fun t => linesField t.2) ++ [.u8 (touchLine s c).code]

/-- The cells the crane holds, with their kinds (R80), by number (DESIGN CHOICE, log entry 16). -/
def heldItems (s : State) (c : Crane) : List (CellNo × GrantKind) :=
  allCells.filterMap fun x => (s.cell x).grant.bind fun g => if g.holder = c then some (x, g.kind) else none

/-- A crane's entry in a list with its place, counted from 1 (R80). -/
def placeIn (c : Crane) : Nat → List Entry → Option (EntryKind × Nat)
  | _, [] => none
  | n, e :: es => if entryCrane e = c then some (entryKind e, n) else placeIn c (n + 1) es

/-- The cells in whose lists the crane has an entry (R80), by number (DESIGN CHOICE, log entry 16). -/
def entryItems (s : State) (c : Crane) : List (CellNo × EntryKind × Nat) :=
  allCells.filterMap fun x => (placeIn c 1 (s.cell x).list).map fun e => (x, e)

/-- The feedback check with its time left in tenths of a second, under a presence byte beside the state (R96; DESIGN
CHOICE, log entry 16). -/
def checkItems (k : Check) : List Field :=
  .u8 k.code :: match k with
    | .idle => [.u8 0]
    | .releaseWait left => [.u8 1, .u8 (inUnits left 100)]
    | .applyWait left => [.u8 1, .u8 (inUnits left 100)]

/-- VANE_RELEASE is held from before a reset (R89): a panel RESET or RESTART holds it until its first composition, and
a power-on reset de-asserts it. -/
def vaneHeld (s : State) (c : Crane) : Bool := !(s.out c).composed && s.cause != .power

/-- The cells that withhold VANE_RELEASE, present while the withheld flag is set (R96), under a presence byte beside
the flag (DESIGN CHOICE, log entry 16). -/
def withheldCells (o : OutRec) : Option (List CellNo) :=
  if o.withheld = [] then none else some (o.withheld.map Prod.fst)

/-- The output unit's record of the crane (R96). -/
def outputItems (s : State) (c : Crane) : List Field :=
  let o := s.out c
  [linesField o.lines] ++ sourceFields o.src ++ [linesField o.src.manual, flag o.vane, flag (vaneHeld s c),
      flag (o.withheld != [])]
    ++ mayBe cellsField (withheldCells o) ++ checkItems o.check ++ [flag (s.crane c).vaneFault]

/-- The crane STATUS (R22, R42, R57, R80, R96). The marks undeclared and no report are the presence byte of what they
stand for at 0 (DESIGN CHOICE, log entry 16). -/
def craneItems (s : State) (c : Crane) : List Field :=
  mayBe declItems (s.decl c) ++ recordItems s c ++ envelopeItems s c
    ++ listed (fun h => [cellField h.1, .u8 h.2.code]) (heldItems s c)
    ++ listed (fun e => [cellField e.1, .u8 e.2.1.code, .u8 e.2.2]) (entryItems s c) ++ outputItems s c

/-! ### Cell -/

/-- A member of a cell record (R3): a LINE member's band, which is one field of two numbers (log entry 16), and its
clearance are present, a JIB member's absent. -/
def memberItems (m : Member) : List Field :=
  match m.role with
  | .jib => [.u8 m.crane, .u8 0, .u16 m.start, .u16 m.len, .u8 0, .u8 0]
  | .line rMin rMax clearance =>
    [.u8 m.crane, .u8 1, .u16 m.start, .u16 m.len, .u8 1, .u16 rMin, .u16 rMax, .u8 1, .u16 clearance]

def cellDeclItems (d : CellDecl) : List Field := [flag d.guarded, flag d.ruling] ++ listed memberItems d.members

/-- A waiting-list entry (R80): its kind and crane, then the booking number, the booking start and the seconds left, of
which a claim has the first two, an ENTRY request the third and an AUTO request none (R160). -/
def waitItems : Entry → List Field
  | .claim n c start => [.u8 (EntryKind.claim).code, craneField c, .u8 1, .u16 n, .u8 1, .u32 start, .u8 0]
  | .entry c left => [.u8 (EntryKind.entry).code, craneField c, .u8 0, .u8 0, .u8 1, .u8 (waitSecondsLeft left)]
  | .auto c => [.u8 (EntryKind.auto).code, craneField c, .u8 0, .u8 0, .u8 0]

/-- The recall state and the seconds left of a running one, under a presence byte beside the state (R80; DESIGN CHOICE,
log entry 16). -/
def recallItems : Recall → List Field
  | .idle => [.u8 0, .u8 0]
  | .running left => [.u8 1, .u8 1, .u16 (secondsLeft left)]
  | .overdue => [.u8 2, .u8 0]

/-- The items of a cell's runtime record (R80). -/
def cellRecordItems (k : CellRec) : List Field :=
  grantStateFields k.grant ++ mayBe (fun n => [.u16 n]) k.covered ++ listed waitItems k.list
    ++ recallItems k.recallState

/-- The cell STATUS (R22, R57, R80): for a present cell its record with its DRAINING mark, the touching cranes and the
runtime record; for another the mark not present, which is the absence byte of the active record, and the reset values
of R58 alone. The touching cranes are listed by number (DESIGN CHOICE, log entry 16). -/
def cellItems (s : State) (x : CellNo) : List Field :=
  match s.cellDecl x with
  | none => .u8 0 :: cellRecordItems CellRec.reset
  | some d =>
    .u8 1 :: cellDeclItems d ++ [flag (s.isDraining x)]
      ++ listed (fun c => [craneField c]) (allCranes.filter fun c => s.touches c x) ++ cellRecordItems (s.cell x)

/-! ### Wind -/

/-- A run count that a channel shows where it keeps it (R112, R160). -/
def keptRun (kept : Bool) (n : Nat) : List Field := mayBe (fun k => [.u8 k]) (if kept then some n else none)

/-- The run counts that a channel's status keeps (R112): the high run and the stuck run for VALID, the clear run for a
fault, none for DISABLED. Each of the three may be absent and has its presence byte (R160). -/
def runItems (k : ChanRec) : List Field :=
  let valid := k.status == .valid
  keptRun valid k.highRun ++ keptRun valid k.stuckRun
    ++ keptRun (k.status == .faultHigh || k.status == .faultStuck) k.clearRun

/-- One channel of the measurement state (R112). The settings waiting for its next gate, K and pulse filter, are
present or absent together and have one presence byte before the two of them (DESIGN CHOICE, log entry 16: R160 gives
each field that may be absent a byte of its own). -/
def channelItems (k : ChanRec) (waiting : Option CalSetting) : List Field :=
  calFields k.cal ++ mayBe calFields waiting ++ mayBe (fun n => [Field.u16 n]) k.last
    ++ mayBe (fun n => [Field.u16 n]) k.speed ++ [.u8 k.status.code] ++ runItems k

def speedItem (v : Option Nat) : List Field := mayBe (fun n => [Field.u16 n]) v

/-- The measurement state (R112). An invalid mean is sent as an absent one, and the samples left until the block
boundary are shown with a pending set alone, under its presence byte (DESIGN CHOICE, log entry 16). -/
def measItems (m : Meas) (loads : Loads) : List Field :=
  channelItems m.a (m.waiting.map (·.a)) ++ channelItems m.b (m.waiting.map (·.b)) ++ speedItem m.effective
    ++ [flag m.sensorCause] ++ speedItem m.gust ++ [.u8 m.ring.length, flag m.warmup, .u8 m.accCount]
    ++ speedItem m.meanRing.getLast? ++ speedItem m.mean ++ [.u8 m.meanRing.length] ++ thresholdFields m.active
    ++ mayBe (fun t => thresholdFields t ++ [.u8 (samplesLeft m)]) m.pendingSet
    ++ [loadField loads.calibration, loadField loads.threshold]

/-- The calm count of the present state as seconds, and the period it counts towards; the mark none in
CALM is their presence byte at 0 (R128; DESIGN CHOICE, log entry 16). -/
def calmItems (w : WindRec) (t : Thresholds) : List Field :=
  match w.state with
  | .calm => [.u8 0]
  | .alert => [.u8 1, .u16 (inUnits w.alertCount 4), .u16 t.alertCalm]
  | .hold => [.u8 1, .u16 (inUnits w.holdCount 4), .u16 t.holdCalm]
  | .stop => [.u8 1, .u16 (inUnits w.stopCount 4), .u16 t.stopCalm]
  | .vane => [.u8 1, .u16 (inUnits w.stopCount 4), .u16 t.stopCalm]

/-- The wind STATUS on a supervisor link (R112, R128). A stopped park timer is one byte 0, and the seconds left of a
running one follow one byte 1: the presence byte of a field that may be absent, with no byte for the timer's state
beside it (DESIGN CHOICE, log entry 16). -/
def windStatusItems (s : State) : List Field :=
  measItems s.meas s.store.loads ++ windItems s ++ [flag s.wind.manual, flag s.wind.ready]
    ++ calmItems s.wind s.meas.active ++ mayBe (fun t => [.u16 (secondsLeft t)]) s.wind.parkTimer
    ++ [flag s.map.params.holdoff, .u16 s.map.params.parkTimeout]

/-- The wind STATUS on a crane link (R112, R128). -/
def windStatusItemsCrane (s : State) : List Field :=
  speedItem s.meas.effective ++ speedItem s.meas.gust ++ speedItem s.meas.mean ++ windItems s ++ [flag s.wind.manual]

/-! ### Bookings -/

/-- The seconds from now to start + late limit while REFERRED or DUE, 0 when that time has come (R142). -/
def timeLeft (now : Nat) (b : Booking) : Option Nat :=
  if b.state = .referred ∨ b.state = .due then some (lateEnd b - now) else none

/-- The booking STATUS (R142): the whole record of R129 with the number first, though R142 names the items from the
crane on (DESIGN CHOICE, log entry 16). -/
def bookingItems (s : State) (b : Booking) : List Field :=
  [.u16 b.number, craneField b.crane] ++ windowFields b.start b.duration
    ++ [.u16 b.late, .u8 b.cls.code, flag b.inspect] ++ cellsField b.cells
    ++ [.u8 (portCode b.origin), .u8 b.state.code, flag b.overrun] ++ mayBe cellsField b.note
    ++ mayBe (fun n => [.u32 n]) (timeLeft s.clock.count b)

/-- One entry of the book list (R142). -/
def bookEntry (b : Booking) : List Field :=
  [.u16 b.number, craneField b.crane] ++ windowFields b.start b.duration ++ [.u8 b.state.code] ++ cellsField b.cells

/-- The book list STATUS (R142): on a crane link, the bookings of its crane, with the count of the whole book (DESIGN
CHOICE, log entry 16). -/
def bookListItems (s : State) (p : Port) : List Field :=
  listed bookEntry (s.book.live.filter (seenFrom p)) ++ [.u8 s.book.live.length, .u16 s.book.next]

/-! ### The request -/

/-- On link Cn a crane STATUS must name crane n (R164). -/
def mayAskCrane (p : Port) (c : Crane) : Bool :=
  match p with
  | .c n => n == c
  | .s _ => true

/-- The items of a STATUS, or its refusal (R164). R164 gives the number of a SITE, WIND or BOOK_LIST STATUS as 0 and no
refusal for another: the number is then ignored (DESIGN CHOICE, log entry 34). -/
def statusItems (s : State) (p : Port) (target n : Nat) : Except Reason (List Field) :=
  match target with
  | 0 => match p with
    | .c _ => .ok (siteItemsCrane s)
    | .s x => .ok (siteItems s x)
  | 1 => match craneOf n with
    | none => .error .badField
    | some c => if mayAskCrane p c then .ok (craneItems s c) else .error .badField
  | 2 => match cellOf n with
    | none => .error .badField
    | some x => .ok (cellItems s x)
  | 3 => match s.bookingSeen p n with
    | none => .error .noBooking
    | some b => .ok (bookingItems s b)
  | 4 => match p with
    | .c _ => .ok (windStatusItemsCrane s)
    | .s _ => .ok (windStatusItems s)
  | 5 => .ok (bookListItems s p)
  | _ => .error .badField

/-- STATUS (R164): it changes nothing but the port's overflow flag, which its response carries and clears (R162). -/
def doStatus (p : Port) (target n : Nat) (s : State) : State :=
  match statusItems s p target n with
  | .error why => s.refuse p .status why
  | .ok items =>
    (s.modPort p fun q => { q with overflow := false }).answer p .status (.status (s.port p).overflow items)

end Sys2Proof.Machine
end

