-- ==== Sys2Proof/Machine/Wire.lean ====
section
/-! DEFINITION. The frames the part sends (R158 to R162): the bytes of responses and notices, and what a port's
transmitter is sending. -/

namespace Sys2Proof.Machine

/-! ### Bytes (R158, R160) -/

def fieldBytes : Field → List Byte
  | .u8 n => [lowByte n]
  | .u16 n => be16 n
  | .u32 n => be32 n
  | .i8 v => [lowByte (signedBits 8 v)]
  | .i16 v => be16 (signedBits 16 v)

def fieldsBytes (l : List Field) : List Byte := l.flatMap fieldBytes

/-! ### Responses -/

/-- A booking's new state or its outcome, in one byte. -/
def nowCode : BookNow → Nat
  | .state b => b.code
  | .outcome o => o.code

/-- The reason of an outcome, where it has one (R130). -/
def nowReason : BookNow → Option Nat
  | .state _ => none
  | .outcome o => o.reason

/-- A booking's new state, or its outcome with its reason where the outcome has one (R130). -/
def nowFields (now : BookNow) : List Field := .u8 (nowCode now) :: mayBe (fun n => [.u8 n]) (nowReason now)

/-- The result fields of a response, in the order in which the rule of its request names them. UNCHANGED and the named
results of RESUME and COMMIT take one byte. -/
def resultFields : Result → List Field
  | .nothing => []
  | .unchanged => [.u8 0]
  | .duty d => [.u8 d.code]
  | .queued place holder => [.u8 place, flag holder.isSome] ++ mayBe (fun c => [craneField c]) holder
  | .already k => mayBe (fun e => [.u8 (EntryKind.code e)]) k
  | .released g => grantFields g
  | .booked n st start duration note =>
    [.u16 n, .u8 st.code] ++ windowFields start duration ++ mayBe cellsField note
  | .badCrane n => [.u8 n]
  | .badBookField f => [.u8 f.code]
  | .badCell n => [.u8 n]
  | .clockNow n => [.u32 n]
  | .overlap n c start duration => [.u16 n, craneField c] ++ windowFields start duration
  | .bookState b => [.u8 b.code]
  | .ended n now => [.u16 n, .u8 (nowCode now)]
  | .inhibits manual lines src => [linesField manual, linesField lines] ++ sourceFields src
  | .mask m => [classesField m]
  | .clockSet former new made lapsed returned => [.u32 former, .u32 new, .u8 made, .u8 lapsed, .u8 returned]
  | .windNow w c => [.u8 w.code, .u8 c.code]
  | .flagCleared => [.u8 0]
  | .resumedHold => [.u8 1]
  | .samplesLeft n => [.u8 n]
  | .badThreshold i => [.u8 i]
  | .stagedCounts cranes cells => [.u8 cranes, .u8 cells]
  | .mapInvalid f n => [.u8 f.code, .u8 n]
  | .committed cells => [.u8 0, .u8 cells]
  | .commitPending cells => [.u8 1, .u8 cells]
  | .status overflow items => items ++ [flag overflow]

/-- The outcome and reason code with which every response body begins (R159). -/
def responseHead (r : Response) : List Byte :=
  [lowByte r.outcome.code, lowByte ((r.reason.map Reason.code).getD 0)]

/-- Pieces of at most `size + 1` bytes. -/
def pieces (size : Nat) : Nat → List Byte → List (List Byte)
  | 0, _ => []
  | fuel + 1, bs => if bs.isEmpty then [] else bs.take (size + 1) :: pieces size fuel (bs.drop (size + 1))

/-- The parts of a response that does not fit in one body: part number and part count follow the reason code (R161). -/
def partFrames (r : Response) (bs : List Byte) : List (List Byte) :=
  let ps := pieces 114 16 bs
  ps.mapIdx fun i piece => frameBytes r.kind (responseHead r ++ [lowByte (i + 1), lowByte ps.length] ++ piece)

/-- The frames of a response (R158, R159, R161). -/
def responseFrames (r : Response) : List (List Byte) :=
  let bs := fieldsBytes (resultFields r.result)
  if bs.length ≤ 117 then [frameBytes r.kind (responseHead r ++ bs)] else partFrames r bs

/-! ### Notices -/

/-- The kind code of a notice (R160). -/
def noticeKind : Notice → Byte
  | .granted _ _ _ => 0x40
  | .waitExpired _ _ => 0x41
  | .withdrawn _ _ _ _ => 0x42
  | .recalled _ _ _ => 0x43
  | .released _ _ => 0x44
  | .booking _ _ _ _ _ _ => 0x45
  | .overrun _ _ _ _ => 0x46
  | .wind _ _ _ _ _ _ => 0x47
  | .inhibit _ _ _ => 0x48
  | .duty _ _ _ _ => 0x49
  | .input _ _ _ => 0x4A
  | .vaneLine _ _ => 0x4B
  | .vaneWithheld _ _ => 0x4C
  | .vaneFault _ _ _ _ => 0x4D
  | .parkLost _ _ => 0x4E
  | .notParked _ _ => 0x4F
  | .cell _ _ _ => 0x50
  | .recallOverdue _ _ _ => 0x51
  | .sensor _ _ _ _ => 0x52
  | .calibration _ _ => 0x53
  | .windTablePending _ _ => 0x54
  | .windTableActive _ => 0x54
  | .link _ _ _ => 0x55
  | .manualInhibit _ _ _ => 0x56
  | .mapDraining _ => 0x57
  | .mapCommitted _ _ => 0x58
  | .commitExpired => 0x59
  | .commitCancelled => 0x5A
  | .storeFault => 0x5B
  | .signalConfig _ _ => 0x5C
  | .clock _ _ _ => 0x5D
  | .authority _ _ => 0x5E
  | .started _ _ => 0x5F

/-- The body of a notice: the crane or cell concerned first, then the fields of its rule in the order they are named
(R159, R160). WITHDRAWN names its reason before the entry kind (R63, R74, R75). The port of WIND_TABLE, which PENDING
carries and ACTIVE does not (R110), has a presence byte (DESIGN CHOICE, log entry 16). WITHDRAWN carries the cell and
the entry kind that R74 names for reason LINK for the reasons DUTY and BOOKED as well, of which R75 and R63 name
nothing else (DESIGN CHOICE, log entry 38). WIND carries the six fields of R125 in all three kinds (DESIGN CHOICE, log
entry 36). -/
def noticeFields : Notice → List Field
  | .granted _ x k => [cellField x, .u8 k.code]
  | .waitExpired _ x => [cellField x]
  | .withdrawn _ x k why => [cellField x, .u8 why.code, .u8 k.code]
  | .recalled x n c => [cellField x, .u16 n, craneField c]
  | .released x why => [cellField x, .u8 why.code]
  | .booking n c former now by_ cells =>
    [craneField c, .u16 n] ++ mayBe (fun b => [.u8 (BookState.code b)]) former ++ nowFields now
      ++ mayBe (fun p => [.u8 (portCode p)]) by_ ++ mayBe cellsField cells
  | .overrun n c start duration => [craneField c, .u16 n] ++ windowFields start duration
  | .wind k former new cause manual ready =>
    [.u8 k.code, .u8 former.code, .u8 new.code, .u8 cause.code, flag manual, flag ready]
  | .inhibit c lines src => [craneField c, linesField lines] ++ sourceFields src
  | .duty c former new p => [craneField c, .u8 former.code, .u8 new.code, .u8 (portCode p)]
  | .input c i level => [craneField c, .u8 i.code, takenLevel level]
  | .vaneLine c level => [craneField c, flag level]
  | .vaneWithheld c cells => craneField c :: listed (fun w => cellField w.1 :: grantFields w.2) cells
  | .vaneFault c k line fb => [craneField c, .u8 k.code, flag line, takenLevel fb]
  | .parkLost c d => [craneField c, .u8 d.code]
  | .notParked c lift => craneField c :: mayBe (fun n => [.u16 n]) lift
  | .cell x g why => cellField x :: grantStateFields g ++ [.u8 why.code]
  | .recallOverdue x holder n => [cellField x, craneField holder, .u16 n]
  | .sensor ch former new anyValid =>
    [.u8 (match ch with
      | .a => 0
      | .b => 1), .u8 former.code, .u8 new.code, flag anyValid]
  | .calibration k p => calFields k.a ++ calFields k.b ++ [.u8 (portCode p)]
  | .windTablePending t p => .u8 0 :: thresholdFields t ++ mayBe (fun q => [.u8 (portCode q)]) (some p)
  | .windTableActive t => .u8 1 :: thresholdFields t ++ mayBe (fun q => [.u8 (portCode q)]) none
  | .link c former new => [craneField c, .u8 former.code, .u8 new.code]
  | .manualInhibit c m p => [craneField c, linesField m, .u8 (portCode p)]
  | .mapDraining cells => cellsField cells
  | .mapCommitted cells bookings => [.u8 cells, .u8 bookings]
  | .commitExpired => []
  | .commitCancelled => []
  | .storeFault => []
  | .signalConfig l g => .u8 (l.val + 1) :: sigFields g
  | .clock former new p => [.u32 former, .u32 new, .u8 (portCode p)]
  | .authority holder move => [.u8 (supCode holder), .u8 (moveCode move)]
  | .started cause loads => .u8 cause.code :: loadFields loads

def noticeFrame (n : Notice) : List Byte := frameBytes (noticeKind n) (fieldsBytes (noticeFields n))

/-- What a port's transmitter is sending (R161): the frames of its response, its oldest notice, or nothing. -/
def sending (q : PortRec) : List (List Byte) :=
  match q.tx with
  | .free => []
  | .response => (q.slot.map responseFrames).getD []
  | .notice => (q.notices.head?.map noticeFrame).toList

end Sys2Proof.Machine
end

