-- ==== Sys2Proof/Machine/Ports.lean ====
section
/-! DEFINITION. The link ports (R158, R161): the byte receiver, the receive buffer, the taking and judging of frames, and
the ends of sending. -/

namespace Sys2Proof.Machine

/-! ### Judging a request -/

/-- A request carried by crane links alone (R161). -/
def onCrane (p : Port) (k : ReqKind) (s : State) (f : Crane → State → State) : State :=
  match p with
  | .c c => f c s
  | .s _ => s.refuse p k .badKind

/-- A request carried by supervisor links alone (R161). -/
def onSup (p : Port) (k : ReqKind) (s : State) (f : Sup → State → State) : State :=
  match p with
  | .c _ => s.refuse p k .badKind
  | .s x => f x s

/-- A request marked "crane first", whose crane byte must suit the port (R160, R161). -/
def named (p : Port) (k : ReqKind) (who : Option Nat) (s : State) (f : State → State) : State :=
  if whoSuits p who then f s else s.refuse p k .badField

/-- A request goes to its owning block (R161). -/
def perform (p : Port) (r : Request) (s : State) : State :=
  match r with
  | .report r => onCrane p .report s fun c => doReport c r
  | .enter who x => named p .enter who s (doEnter p who x)
  | .leave who x => named p .leave who s (doLeave p who x)
  | .book who f => named p .book who s (doBook p who f)
  | .cancel n => doCancel p n s
  | .endLift => onCrane p .endLift s doEnd
  | .park who => named p .park who s (doPark p who)
  | .service who => named p .service who s (doService p who)
  | .oos who => named p .oos who s (doOos p who)
  | .status t n => doStatus p t n s
  | .noticeMask m => onSup p .noticeMask s fun x => doNoticeMask x m
  | .take => onSup p .take s doTake
  | .handover => onSup p .handover s doHandover
  | .restart => onSup p .restart s doRestart
  | .forceRelease x => onSup p .forceRelease s fun y => doForceRelease y x
  | .inhibitSet c m => onSup p .inhibitSet s fun x => doInhibitSet x c m
  | .inhibitClear c m => onSup p .inhibitClear s fun x => doInhibitClear x c m
  | .setSignal l g => onSup p .setSignal s fun x => doSetSignal x l g
  | .setInput c i e => onSup p .setInput s fun x => doSetInput x c i e
  | .rule n v => onSup p .rule s fun _ => doRule p n v
  | .abort n => onSup p .abort s fun _ => doAbort p n
  | .finish n => onSup p .finish s fun _ => doFinish p n
  | .setClock v => onSup p .setClock s fun _ => doSetClock p v
  | .siteStop => onSup p .siteStop s doSiteStop
  | .resume => onSup p .resume s doResume
  | .setWind t => onSup p .setWind s fun x => doSetWind x t
  | .setCal k => onSup p .setCal s fun x => doSetCal x k
  | .stageClear => onSup p .stageClear s doStageClear
  | .stageCopy => onSup p .stageCopy s doStageCopy
  | .stageCrane c d => onSup p .stageCrane s fun x => doStageCrane x c d
  | .stageCell n rs => onSup p .stageCell s fun x => doStageCell x n rs
  | .stageRemoveCell k => onSup p .stageRemoveCell s fun x => doStageRemoveCell x k
  | .stageSite v => onSup p .stageSite s fun x => doStageSite x v
  | .commit => onSup p .commit s doCommit
  | .commitCancel => onSup p .commitCancel s doCommitCancel

/-- The kind of the response to a frame of a kind the port does not carry (R158): 80H where it is no request kind. -/
def badKindReply (k : Byte) : Byte := if 1 ≤ k.toNat ∧ k.toNat ≤ 0x3F then k + 0x80 else 0x80

/-- A frame is judged (R159, R161). -/
def judge (p : Port) (f : Frame) (s : State) : State :=
  match f with
  | .request r => perform p r s
  | .badKind k => s.respond p ⟨badKindReply k, .refused, some .badKind, .nothing⟩
  | .badLength k => s.respond p ⟨k + 0x80, .refused, some .badField, .nothing⟩
  | .badReport => s

/-! ### The receive buffer -/

/-- The port takes the oldest frame in its buffer when its response slot is empty (R161). Once the response to a RESTART
has been sent, nothing is taken before the reset. -/
def takeFrame (p : Port) (s : State) : State :=
  if (s.port p).slot.isSome || s.restartReady then s
  else
    match (s.port p).buffer with
    | [] => s
    | f :: fs => judge p f (s.modPort p fun q => { q with buffer := fs })

/-- Frames are taken until the slot is full or the buffer empty: it holds at most two. -/
def takeFrames (p : Port) (s : State) : State := takeFrame p (takeFrame p s)

/-- A complete frame joins a buffer of fewer than two frames, or is discarded (R161). -/
def queueFrame (f : Frame) (q : PortRec) : PortRec :=
  if q.buffer.length < Config.rxBufferMax then { q with buffer := q.buffer ++ [f] } else q

/-- A complete frame at a port. -/
def deliver (p : Port) (f : Frame) (s : State) : State := takeFrames p (s.modPort p (queueFrame f))

/-- A request row: its frame completes at its port while the part runs. -/
def arrive (p : Port) (r : Request) (s : State) : State := whenRunning (deliver p (.request r)) s

/-! ### The byte receiver (R158) -/

/-- The CRC of a whole frame's bytes after the start byte, of which `n` are length, kind and body. -/
def crcMatches (n : Nat) (bytes : List Byte) : Bool := be16 (crc16 (bytes.take n)).toNat == bytes.drop n

/-- A frame whose CRC matches is complete; one whose CRC fails is discarded silently. -/
def frameEnds (p : Port) (bytes : List Byte) (s : State) : State :=
  match bytes with
  | len :: kind :: rest =>
    if crcMatches (len.toNat + 1) bytes then deliver p (decodeFrame p kind (rest.take (len.toNat - 1))) s else s
  | _ => s

def setRx (p : Port) (r : Option (List Byte)) (s : State) : State := s.modPort p fun q => { q with rx := r }

/-- One byte at a receiver (R158). -/
def rxByte (p : Port) (s : State) (b : Byte) : State :=
  match (s.port p).rx with
  | none => if b = 0xA5 then setRx p (some []) s else s
  | some [] => if 1 ≤ b.toNat ∧ b.toNat ≤ 120 then setRx p (some [b]) s else setRx p none s
  | some (len :: got) =>
    let all := len :: got ++ [b]
    if all.length < len.toNat + 3 then setRx p (some all) s else frameEnds p all (setRx p none s)

/-! ### The ends of sending -/

/-- The response is the OK of a RESTART (R166). -/
def answersRestart (r : Response) : Bool := r.kind == respKind .restart && r.outcome == .ok

/-- The response in the slot is the OK of a RESTART. -/
def restartAnswered (q : PortRec) : Bool := q.slot.any answersRestart

/-- A response has been sent (R161): the slot becomes empty and the port takes its next frame, but for the response to a
RESTART, after which the reset is to be taken (R166). -/
def responseEnds (p : Port) (s : State) : State :=
  if (s.port p).tx = .response then
    let ready := restartAnswered (s.port p)
    let s := s.modPort p fun q => { q with slot := none, tx := .free }
    if ready then { s with restartReady := true } else takeFrames p s
  else s

/-- A notice has been sent and leaves its queue (R162). -/
def noticeEnds (p : Port) (s : State) : State :=
  if (s.port p).tx = .notice then s.modPort p fun q => { q with notices := q.notices.tail, tx := .free } else s

end Sys2Proof.Machine
end

