-- ==== Sys2Proof/Machine/Measurement.lean ====
section
/-! DEFINITION. Wind measurement (chapter 6): pulses (R98, R99), the sample (R100 to R108, R110), and the judgement of the
wind state at a sample (R114 to R118, R124). -/

namespace Sys2Proof.Machine

/-! ### Pulses -/

/-- A pulse is counted by its channel's settings (R98): with the filter on, a high level of at least 200 µs. -/
def counted (k : ChanRec) (micros : Nat) : Bool := k.cal.k != 0 && (!k.cal.filter || 200 ≤ micros)

/-- The count saturates at 1023 (R99). -/
def pulse (k : ChanRec) (micros : Nat) : ChanRec :=
  if counted k micros then { k with count := min 1023 (k.count + 1) } else k

def pulseAt (m : Meas) (ch : Channel) (micros : Nat) : Meas :=
  match ch with
  | .a => { m with a := pulse m.a micros }
  | .b => { m with b := pulse m.b micros }

/-! ### Steps 1 and 2: speeds and channel status -/

/-- The speed of a gate count (R100, step 1). -/
def speedOf (n k : Nat) : Nat := min 999 (n * k / 64)

/-- The other channel judges a zero count (R102): VALID before the sample and at 50 dm/s or more in its gate. -/
def judges (other : ChanRec) : Bool := other.status == .valid && 50 ≤ speedOf other.count other.cal.k

/-- The gate ends (step 1): speed, last completed count, and a count from 0. -/
def endGate (k : ChanRec) : ChanRec :=
  { k with speed := some (speedOf k.count k.cal.k), last := some k.count, count := 0 }

/-- The run counts and the fault status of a VALID channel at gate count `n` (R101, R102). -/
def validRuns (k : ChanRec) (n : Nat) (judged : Bool) : ChanRec :=
  let high := if n = 1023 then k.highRun + 1 else 0
  let stuck := if n = 0 ∧ judged then k.stuckRun + 1 else 0
  if 4 ≤ high then { k with status := .faultHigh, highRun := 0, stuckRun := 0, clearRun := 0 }
  else if 120 ≤ stuck then { k with status := .faultStuck, highRun := 0, stuckRun := 0, clearRun := 0 }
  else { k with highRun := high, stuckRun := stuck }

/-- The clear run of a faulted channel (R101, R102). -/
def clearRuns (k : ChanRec) (clean : Bool) : ChanRec :=
  let run := if clean then k.clearRun + 1 else 0
  if 12 ≤ run then { k with status := .valid, clearRun := 0 } else { k with clearRun := run }

/-- Steps 1 and 2 for one channel; `judged` is the other channel's judgement from before the sample. -/
def gateChannel (k : ChanRec) (judged : Bool) : ChanRec :=
  match k.status with
  | .disabled => k
  | .valid => validRuns (endGate k) k.count judged
  | .faultHigh => clearRuns (endGate k) (k.count < 1023)
  | .faultStuck => clearRuns (endGate k) (0 < k.count)

/-- Steps 1 and 2 for both channels (R100). -/
def gateChannels (m : Meas) : Meas := { m with a := gateChannel m.a (judges m.b), b := gateChannel m.b (judges m.a) }

/-! ### Settings that take effect at the boundary (R108) -/

/-- A channel's record when its settings become `c`. -/
def applySetting (k : ChanRec) (c : CalSetting) : ChanRec :=
  if k.cal.k ≠ 0 ∧ c.k ≠ 0 then { k with cal := c } else ChanRec.reset c

def applyWaiting (m : Meas) : Meas :=
  match m.waiting with
  | none => m
  | some c => { m with a := applySetting m.a c.a, b := applySetting m.b c.b, waiting := none }

/-! ### Steps 4 to 6 -/

def anyValid (m : Meas) : Bool := m.a.status == .valid || m.b.status == .valid

/-- The speed with which a channel takes part in the effective sample (R104). -/
def partSpeed (k : ChanRec) : Option Nat := if k.status = .valid then k.speed else none

/-- The largest speed of the valid channels that have one (R104). -/
def largest (a b : Option Nat) : Option Nat :=
  match a, b with
  | some x, some y => some (max x y)
  | some x, none => some x
  | none, y => y

/-- Step 4 (R104). Where no valid channel has a speed the effective sample is 999 with the SENSOR-cause flag set, also
where both channels have been enabled at this gate boundary, a case R104 does not name (DESIGN CHOICE, log entry 37).
-/
def formEffective (m : Meas) : Meas :=
  let e := largest (partSpeed m.a) (partSpeed m.b)
  { m with effective := some (e.getD 999), sensorCause := e.isNone }

/-- A new entry joins a ring of at most `size` entries, from which the oldest leaves (R105, R106). -/
def pushRing (size : Nat) (ring : List Nat) (e : Nat) : List Nat :=
  if ring.length < size then ring ++ [e] else ring.tail ++ [e]

/-- The floor of an average (R105, R106). -/
def average (l : List Nat) : Nat := l.sum / l.length

/-- Step 5 (R105). -/
def formGust (m : Meas) : Meas :=
  let ring := pushRing 12 m.ring (m.effective.getD 999)
  { m with ring := ring, gust := some (average ring), warmup := m.warmup && decide (ring.length < 12) }

/-- The sample completes a block (R106). -/
def boundary (m : Meas) : Bool := 60 ≤ m.accCount + 1

/-- Step 6 (R106): the block accumulator, and at a boundary the mean and the threshold set (R110). -/
def formBlock (m : Meas) : Meas :=
  let sum := m.accSum + m.effective.getD 999
  if boundary m then
    let ring := pushRing 40 m.meanRing (sum / 60)
    { m with accSum := 0, accCount := 0, meanRing := ring, mean := some (average ring),
             active := m.pendingSet.getD m.active, pendingSet := none }
  else { m with accSum := sum, accCount := m.accCount + 1 }

/-- Steps 1 to 6 of a sample; the next gate begins at once (R99, R100). The waiting settings are applied after the
channels have been judged and before the effective sample is formed, so a channel whose K becomes 0 there has no part
in that sample (R108 names no step: DESIGN CHOICE, log entry 30). -/
def sampled (m : Meas) : Meas :=
  { formBlock (formGust (formEffective (applyWaiting (gateChannels m)))) with gateLeft := Config.gateMs }

/-! ### Notices of a sample -/

/-- A change of a channel's status sends SENSOR (R103). -/
def announceChannel (ch : Channel) (former new : ChanStatus) (valid : Bool) (s : State) : State :=
  if former = new then s else s.notifyClass .wind (.sensor ch former new valid)

/-- The changes of status between two measurement states (R103). -/
def announceChannels (old new : Meas) (s : State) : State :=
  announceChannel .b old.b.status new.b.status (anyValid new)
    (announceChannel .a old.a.status new.a.status (anyValid new) s)

/-- A pending set that becomes active is announced and stored (R110). -/
def announceTable (m : Meas) (s : State) : State :=
  match boundary m, m.pendingSet with
  | true, some t => startWrite (s.notifyClass .wind (.windTableActive t)) (.threshold t)
  | _, _ => s

/-! ### The wind state at a sample -/

/-- The highest state whose condition is met (R114). -/
def windMet (t : Thresholds) (g : Nat) (mean : Option Nat) : WindState :=
  if t.stopSet ≤ g ∨ mean.any (fun v => t.meanSet ≤ v) then .stop
  else if t.holdSet ≤ g then .hold
  else if t.alertSet ≤ g then .alert
  else .calm

/-- The gust meets the condition of a state (R114, R115). -/
def gustMeets (t : Thresholds) (g : Nat) : WindState → Bool
  | .calm => false
  | .alert => t.alertSet ≤ g
  | .hold => t.holdSet ≤ g
  | .stop => t.stopSet ≤ g
  | .vane => false

/-- The entry cause of a state entered by an upward move (R115). -/
def upCause (m : Meas) (g : Nat) (st : WindState) : WindCause :=
  if m.sensorCause then .sensor else if gustMeets m.active g st then .gust else .mean

/-- The calm condition of STOP and VANE (R116). -/
def stopCalm (m : Meas) (w : WindRec) (g : Nat) : Bool :=
  g < m.active.stopRel && m.mean.any (fun v => v < m.active.meanRel) && !w.manual

/-- The calm condition of the present state at a sample with the warm-up flag clear (R116). -/
def calmHolds (m : Meas) (w : WindRec) (g : Nat) : Bool :=
  !m.warmup &&
    match w.state with
    | .calm => false
    | .alert => g < m.active.alertRel
    | .hold => g < m.active.holdRel
    | .stop => stopCalm m w g
    | .vane => stopCalm m w g

/-- What a sample does to the wind state. -/
inductive WindStep where
  /-- An upward move (R114). -/
  | up (new : WindState) (cause : WindCause)
  /-- A downward move (R117, R118, R124). -/
  | down (new : WindState)
  /-- The resume-ready flag is set (R124). -/
  | ready (count : Nat)
  /-- The state stays; its calm count becomes `count`. -/
  | stay (count : Nat)
  deriving DecidableEq, Repr

/-- The calm count kept in a state (R116). -/
def calmCount (w : WindRec) : Nat :=
  match w.state with
  | .calm => 0
  | .alert => w.alertCount
  | .hold => w.holdCount
  | .stop => w.stopCount
  | .vane => w.stopCount

/-- The calm period of a state in samples (R113). -/
def calmPeriod (t : Thresholds) (st : WindState) : Nat :=
  match st with
  | .calm => 0
  | .alert => 4 * t.alertCalm
  | .hold => 4 * t.holdCalm
  | .stop => 4 * t.stopCalm
  | .vane => 4 * t.stopCalm

/-- The calm count has reached its period (R117, R118, R124). The move from VANE keeps the cause held in VANE (log
entry 31). -/
def calmReached (w : WindRec) (holdoff : Bool) (period : Nat) : WindStep :=
  match w.state with
  | .calm => .stay 0
  | .alert => .down .calm
  | .hold => .down .alert
  | .stop => .down .hold
  | .vane => if w.ready then .stay period else if holdoff then .ready period else .down .hold

/-- The calm count is updated (R116); in VANE with the flag set it is held at the period (R124). The manual stop flag
is judged as it stands at the sample: where a RESUME has cleared it since a SITE_STOP, the count goes on (R116 against
R119: DESIGN CHOICE, log entry 32). -/
def calmStep (m : Meas) (w : WindRec) (holdoff : Bool) (g : Nat) : WindStep :=
  let period := calmPeriod m.active w.state
  if !calmHolds m w g then .stay 0
  else if period ≤ calmCount w + 1 ∨ (w.state = .vane ∧ w.ready) then calmReached w holdoff period
  else .stay (calmCount w + 1)

/-- The judgement of a sample: upward first (R114), otherwise the calm count (R116). -/
def windStep (m : Meas) (w : WindRec) (holdoff : Bool) : WindStep :=
  match m.gust with
  | none => .stay (calmCount w)
  | some g =>
    let met := windMet m.active g m.mean
    if windRank w.state < windRank met then .up met (upCause m g met) else calmStep m w holdoff g

def setCount (w : WindRec) (n : Nat) : WindRec :=
  match w.state with
  | .calm => w
  | .alert => { w with alertCount := n }
  | .hold => { w with holdCount := n }
  | .stop => { w with stopCount := n }
  | .vane => { w with stopCount := n }

/-- In VANE a failed calm condition withdraws the resume-ready flag (R124). -/
def staysAt (s : State) (n : Nat) : State :=
  let s := s.setWind (setCount s.wind n)
  if s.wind.state = .vane ∧ n = 0 then withdrawReady s else s

/-- The resume-ready flag is set, with its notice (R124), which carries the fields of kind CHANGE: the present state
twice, the cause and both flags (DESIGN CHOICE, log entry 36). -/
def becomesReady (s : State) (n : Nat) : State :=
  let s := s.setWind { setCount s.wind n with ready := true }
  s.notifyClass .wind (.wind .resumeReady s.wind.state s.wind.state s.wind.cause s.wind.manual s.wind.ready)

def applyStep (s : State) : WindStep → State
  | .up .stop cause => enterStop s cause
  | .up new cause => moveWind s new cause none
  | .down new => moveWind s new s.wind.cause none
  | .ready n => becomesReady s n
  | .stay n => staysAt s n

/-! ### The sample -/

/-- The sample's outcome for the wind state machine. -/
def sampleStep (s : State) : WindStep := windStep (sampled s.meas) s.wind s.map.params.holdoff

/-- A sample, taken whole (R100): its notices, its measurement state, and the wind state judged on it (R107). -/
def takeSample (s0 : State) : State :=
  let gated := gateChannels s0.meas
  let s := announceChannels gated (applyWaiting gated) (announceChannels s0.meas gated s0)
  let s := announceTable s0.meas (s.setMeas (sampled s0.meas))
  conclude s0 (applyStep s (sampleStep s0))

/-- A sample at which an event comes about; where the gate in progress does not bring it about, nothing happens. -/
def sampleIf (occurs : Bool) (s : State) : State := if occurs then takeSample s else s

def channel (m : Meas) : Channel → ChanRec
  | .a => m.a
  | .b => m.b

/-- The channel's status passes from `former` to `new` at step 2 of the sample that ends the gate. -/
def statusMoves (m : Meas) (ch : Channel) (former new : ChanStatus → Bool) : Bool :=
  former (channel m ch).status && new (channel (gateChannels m) ch).status

end Sys2Proof.Machine
end

