-- ==== Sys2Proof/Machine/Timers.lean ====
section
/-! DEFINITION. The timers that run out (R29, R67, R77, R91, R94, R123), the clock second (R143, R147), the debounced
inputs (R38 to R41, R163). A timer's run-out takes effect where the timer runs with nothing left. -/

namespace Sys2Proof.Machine

/-! ### Links -/

/-- The silence limit of a LIVE link runs out (R29, R30). -/
def silenceEnds (c : Crane) (s : State) : State :=
  if (s.crane c).link = .live ∧ silentFor (s.crane c) s.map.params.silence then
    dropLink s c (silenceFall s.map.params)
  else s

/-- The lost limit of a STALE link runs out (R29, R30). -/
def lostEnds (c : Crane) (s : State) : State :=
  if (s.crane c).link = .stale ∧ silentFor (s.crane c) (s.map.params.lost * 1000) then dropLink s c .lost else s

/-! ### Cells -/

/-- The crane has an ENTRY request whose wait timer has nothing left. -/
def waitOver (c : Crane) (l : List Entry) : Bool := l.contains (.entry c 0)

/-- The wait timer of an ENTRY request runs out (R67). -/
def waitEnds (x : CellNo) (c : Crane) (s : State) : State :=
  if waitOver c (s.cell x).list then
    conclude s ((s.modCell x fun k => { k with list := withoutRequest c k.list }).notify (.c c) (.waitExpired c x))
  else s

/-- The booking number of the claim at the head of a list. -/
def headBooking (l : List Entry) : Nat :=
  match l.head? with
  | some (.claim n _ _) => n
  | _ => 0

/-- Notice RECALL_OVERDUE names the cell, the holder and the claim's booking (R77). -/
def tellOverdue (s : State) (x : CellNo) : State :=
  match (s.cell x).grant with
  | some g => s.notifyClass .zone (.recallOverdue x g.holder (headBooking (s.cell x).list))
  | none => s

/-- The recall timer runs out (R77). -/
def recallEnds (x : CellNo) (s : State) : State :=
  if (s.cell x).recallState = .running 0 then
    conclude s (tellOverdue (s.modCell x fun k => { k with recallState := .overdue }) x)
  else s

/-! ### Site -/

/-- NOT_PARKED goes to one declared crane that is IN_SERVICE (R123). -/
def tellNotParked (s : State) (c : Crane) : State :=
  if s.declared c ∧ (s.crane c).duty = .inService then
    s.notifyBoth c .crane (.notParked c (s.crane c).lift)
  else s

/-- The park timer runs out in STOP (R123). -/
def parkTimerEnds (s : State) : State :=
  if s.wind.state = .stop ∧ s.wind.parkTimer = some 0 then
    conclude s (allCranes.foldl tellNotParked (moveWind s .vane .timeout none))
  else s

/-- The commit wait timer expires (R18). -/
def commitTimerEnds (s : State) : State :=
  if s.map.commit = .pending 0 then endCommit s .commitExpired else s

/-- The clock counts a second while it is set and below its top (R143). -/
def clockRuns (k : Clock) : Bool := k.isSet && k.count < Config.clockMax

/-- A clock second with its checks (R143, R147). -/
def secondPasses (s : State) : State :=
  if clockRuns s.clock then
    compose s (secondChecks (s.clock.count + 1) (s.setClock ⟨s.clock.count + 1, true, 1000⟩))
  else s

/-- While a reset is taken the clock counts on, and the book is empty (R143). -/
def countSecond (s : State) : State :=
  if clockRuns s.clock then s.setClock ⟨s.clock.count + 1, true, 1000⟩ else s

/-! ### Outputs -/

/-- The kind of fault a run-out of the feedback timer raises (R91). -/
def faultKind : Check → Option VaneFaultKind
  | .releaseWait 0 => some .notReleased
  | .applyWait 0 => some .notApplied
  | _ => none

/-- The feedback timer runs out (R91). -/
def feedbackTimerEnds (c : Crane) (s : State) : State :=
  match faultKind (s.out c).check with
  | none => s
  | some k =>
    let t := (s.modCrane c fun r => { r with vaneFault := true }).modOut c fun o => { o with check := .idle }
    compose s (t.notifyBoth c .crane (.vaneFault c k (s.out c).vane (fbAsserted s c)))

/-- A pulse ends (R94). -/
def pulseStops (r : SigRec) : SigRec :=
  if r.cfg.mode = .pulse ∧ r.phase = some 0 then { r with drive := .inactive, phase := none } else r

/-- A flash phase ends and the other begins (R94). -/
def flashTurns (r : SigRec) : SigRec :=
  if r.cfg.mode = .flash ∧ r.phase = some 0 then
    { r with drive := if r.drive = .active then .inactive else .active, phase := some Config.flashMs }
  else r

/-! ### Inputs -/

def levelOf (b : Bool) : Level := if b then .asserted else .notAsserted

/-- An edge selection includes a direction (R40). -/
def includesEdge (sel : EdgeSel) (rising : Bool) : Bool :=
  match sel, rising with
  | .none, _ => false
  | .both, _ => true
  | .rising, r => r
  | .falling, r => !r

/-- Notice INPUT at an edge whose direction the selection includes (R40). A first taking is no edge (R39). -/
def tellEdge (c : Crane) (i : Input) (sel : EdgeSel) (old : Level) (level : Bool) (s : State) : State :=
  if old ≠ .unsettled ∧ includesEdge sel level then s.notifyBoth c .crane (.input c i level) else s

/-- A duty in which the crane stands parked (R37, R41). -/
def standsParked (d : Duty) : Bool := d == .parked || d == .outOfService

/-- PARK_LOST at a fall of PARK_SW, and at a first taking as NOT_ASSERTED, of a crane that stands parked (R39, R41). -/
def tellParkLost (c : Crane) (level : Bool) (s : State) : State :=
  if level = false ∧ standsParked (s.crane c).duty then s.notifyBoth c .crane (.parkLost c (s.crane c).duty) else s

/-- A level of PARK_SW is taken (R38, R39). -/
def parkSwTaken (c : Crane) (level : Bool) (s : State) : State :=
  let k := s.crane c
  if k.parkSw = levelOf level then s
  else
    let t := s.modCrane c fun r => { r with parkSw := levelOf level }
    compose s (tellParkLost c level (tellEdge c .parkSw k.parkSel k.parkSw level t))

/-- A level of VANE_FB is taken (R38, R39, R90). -/
def vaneFbTaken (c : Crane) (level : Bool) (s : State) : State :=
  let k := s.crane c
  if k.vaneFb = levelOf level then s
  else
    let t := s.modCrane c fun r => { r with vaneFb := levelOf level }
    compose s (feedbackEvent (tellEdge c .vaneFb k.vaneSel k.vaneFb level t) c false)

end Sys2Proof.Machine
end

