-- ==== Sys2Proof/Machine/Resets.lean ====
section
/-! DEFINITION. The resets and start-up (R166, R167, and each block's own reset rules), and the loss of supply (R165). -/

namespace Sys2Proof.Machine

/-! ### While a reset is taken (R167, step 1) -/

/-- The motion lines are asserted (R86); VANE_RELEASE is de-asserted at power-on and held otherwise (R89). -/
def heldOut (cause : ResetCause) (o : OutRec) : OutRec :=
  { o with lines := everyMotion, vane := if cause = .power then false else o.vane }

/-- SIG1..SIG4 are undriven (R95). -/
def heldSig (r : SigRec) : SigRec := { r with drive := .undriven, phase := none }

/-- A port emptied by a reset, with its default mask (R162, R166). -/
def freshPorts : Vector PortRec 10 :=
  (Vector.replicate 10 (PortRec.reset noClasses)).set 8 (PortRec.reset everyClass)

/-- A reset is taken (R166, R167). -/
def takeReset (cause : ResetCause) (s : State) : State :=
  { s with phase := .resetting, cause := cause, restartReady := false, outs := s.outs.map (heldOut cause),
           sigs := s.sigs.map heldSig, ports := freshPorts }

/-- A power-on reset (R166) replaces a reset that is being taken. -/
def powerUp (s : State) : State := takeReset .power s

/-- A panel RESET (R166). One taken while a power-on reset is being taken leaves that reset (log entry 12). -/
def panelPressed (s : State) : State :=
  match s.phase with
  | .running => takeReset .panel s
  | .resetting => if s.cause = .power then s else takeReset .panel s
  | .unpowered => s

/-- The reset of a RESTART whose response has been sent (R166). -/
def restartTaken (s : State) : State :=
  if s.phase = .running ∧ s.restartReady then takeReset .command s else s

/-- The supply fails (R165): a write in progress may leave its section bad, and nothing runs. -/
def supplyFails (corrupt : Bool) (s : State) : State :=
  { s with phase := .unpowered, restartReady := false, store := storeLoses corrupt s.store }

/-! ### Start-up (R167, steps 2 to 6) -/

/-- The load results (R20, R95, R111): a RESTART does not read the map and site options sections. -/
def loadsAt (cause : ResetCause) (k : Store) : Loads :=
  { map := if cause = .command then k.loads.map else k.map.isSome,
    options := if cause = .command then k.loads.options else k.options.isSome,
    calibration := k.calibration.isSome, threshold := k.threshold.isSome, signals := k.signals.isSome }

/-- The store fault flag is kept at RESTART alone (R166). -/
def storeAt (cause : ResetCause) (k : Store) : Store :=
  { k with fault := if cause = .command then k.fault else false, loads := loadsAt cause k }

/-- The site map unit after a reset (R20). -/
def mapAt (cause : ResetCause) (u : MapUnit) (k : Store) : MapUnit :=
  { active := if cause = .command then u.active else k.map,
    params := if cause = .command then u.params else k.options.getD SiteParams.default,
    staged := MapBody.empty, stagedParams := SiteParams.default, commit := .idle,
    draining := Vector.replicate 64 false }

/-- A crane's record after a reset (R23, R37): PARKED and OUT_OF_SERVICE are kept but at power-on, where the crane is
declared in the active map. -/
def craneAt (cause : ResetCause) (active : Option MapBody) (c : Crane) (k : CraneRec) : CraneRec :=
  { CraneRec.reset with
    duty := if cause ≠ .power ∧ standsParked k.duty ∧ (declIn active c).isSome then k.duty else .undeclared }

/-- The wind state record after a reset (R126, R127). -/
def windAt (cause : ResetCause) (w : WindRec) (parkTimeout : Nat) : WindRec :=
  if cause ≠ .power ∧ (w.state = .stop ∨ w.state = .vane) then
    ⟨w.state, w.cause, w.manual, false, 0, 0, 0, if w.state = .stop then some (parkTimeout * 1000) else none⟩
  else WindRec.reset

/-- The site clock after a reset (R143). -/
def clockAt (cause : ResetCause) (k : Clock) : Clock := if cause = .power then ⟨0, false, 1000⟩ else k

/-- The output unit's record of a crane after a reset (R85, R88, R89, R91), before the lines are composed. -/
def outAt (o : OutRec) : OutRec :=
  { o with src := { o.src with manual := noMotion }, composed := false, withheld := [], check := .idle }

/-- Steps 2 and 3 of start-up (R167). A reset that returns authority from S2 to S1 sends no notice AUTHORITY, since no
request moved it (R163; DESIGN CHOICE, log entry 35). -/
def loadState (s : State) : State :=
  let m := mapAt s.cause s.map s.store
  { s with
    phase := .running
    restartReady := false
    map := m
    cranes := Vector.ofFn fun c => craneAt s.cause m.active c (s.crane c)
    envs := Vector.replicate 8 EnvRec.reset
    cells := Vector.replicate 64 CellRec.reset
    outs := s.outs.map outAt
    meas := Meas.reset (s.store.calibration.getD Cal.default) (s.store.threshold.getD defaultThresholds)
    wind := windAt s.cause s.wind m.params.parkTimeout
    book := ⟨[], 1⟩
    clock := clockAt s.cause s.clock
    holder := .s1
    takeKey := .unsettled
    store := storeAt s.cause s.store
    ports := freshPorts }

/-- A crane's motion lines composed without notice (R86). -/
def composeQuiet (s : State) (c : Crane) : State :=
  let src := sourceSets s c
  s.modOut c fun o => { o with src := src, lines := unionOf src }

/-- The configurations the lines take (R95). -/
def sigConfigs (k : Store) : Vector SigCfg 4 := k.signals.getD (Vector.replicate 4 SigCfg.default)

/-- Step 5 of start-up (R95, R167): the sources are formed and every line is driven from its source. -/
def applySignals (s : State) : State :=
  let now := sourcesOf s
  { s with sources := now, sigs := (sigConfigs s.store).map fun g => driveFresh g (sourceValue now g.source) }

/-- Start-up (R167). STARTED goes to both supervisor links whatever their masks (R162). -/
def startUp (s : State) : State :=
  let s := loadState s
  let s := allCranes.foldl formTouch s
  let s := applySignals (allCranes.foldl composeQuiet s)
  let n := Notice.started s.cause s.store.loads
  ((s.notify (.s .s1) n).notify (.s .s2) n).transmit

/-- Start-up follows a reset once the store write state is IDLE (R165, R167). -/
def startIfIdle (s : State) : State :=
  if s.phase = .resetting ∧ storeIdle s.store then startUp s else s

end Sys2Proof.Machine
end

