-- ==== Sys2Proof/Machine/EventRows.lean ====
section
/-! DEFINITION. The event rows of the opcode table: link events, resets, inputs, wind events, timers and the store. -/

namespace Sys2Proof.Machine

/-- A frame of a kind the port does not carry arrives (R161). -/
def badKindArrives (p : Port) (f : Frame) (s : State) : State :=
  match f with
  | .badKind k => deliver p (.badKind k) s
  | _ => s

/-- The gate that ends brings the channel from VALID to FAULT_HIGH (R101). -/
def becomesHigh (m : Meas) (ch : Channel) : Bool := statusMoves m ch (· == .valid) (· == .faultHigh)

/-- The gate that ends brings the channel from VALID to FAULT_STUCK (R102). -/
def becomesStuck (m : Meas) (ch : Channel) : Bool := statusMoves m ch (· == .valid) (· == .faultStuck)

/-- The gate that ends brings the channel from a fault to VALID (R101, R102). -/
def becomesClear (m : Meas) (ch : Channel) : Bool := statusMoves m ch isFault (· == .valid)

/-- The sample moves the wind state down from `st`. -/
def movesDown (s : State) (st : WindState) : Bool :=
  s.wind.state == st && match sampleStep s with
    | .down _ => true
    | _ => false

/-- The sample brings the stop calm count of VANE to its period (R124): the flag is set, or the site leaves VANE. -/
def vaneCalms (s : State) : Bool :=
  s.wind.state == .vane && match sampleStep s with
    | .down _ => true
    | .ready _ => true
    | _ => false

/-- A clock second while the part runs (R147) or is being reset (R143). -/
def secondRow (s : State) : State :=
  match s.phase with
  | .running => whenRunning secondPasses s
  | .resetting => countSecond s
  | .unpowered => s

/-- A write's end while the part runs or is being reset (R165). -/
def writeRow (good : Bool) (s : State) : State :=
  match s.phase with
  | .running => whenRunning (writeEnds good) s
  | .resetting => writeEnds good s
  | .unpowered => s

/-- BAD_KIND (R161): a complete frame of a kind the port does not carry. A frame of any other kind is no such event. -/
def execBadKind (p : Port) (kind : Byte) (body : List Byte) (s : State) : Host.Outcome State Fault Refusal :=
  .next (whenRunning (badKindArrives p (decodeFrame p kind body)) s)

/-- FRAME_RECEIVED (R158): the bytes reach the receiver one after another. -/
def execFrameReceived (p : Port) (bytes : List Byte) (s : State) : Host.Outcome State Fault Refusal :=
  .next (whenRunning (fun t => bytes.foldl (rxByte p) t) s)

/-- FRAME_IDLE_TIMEOUT (R158): an IN_FRAME receiver discards its partial frame and returns to HUNTING. -/
def execFrameIdleTimeout (p : Port) (s : State) : Host.Outcome State Fault Refusal :=
  .next (whenRunning (setRx p none) s)

/-- RESPONSE_SENT (R161, R166). -/
def execResponseSent (p : Port) (s : State) : Host.Outcome State Fault Refusal := .next (whenRunning (responseEnds p) s)

/-- NOTICE_SENT (R162). -/
def execNoticeSent (p : Port) (s : State) : Host.Outcome State Fault Refusal := .next (whenRunning (noticeEnds p) s)

/-- POWER_ON_RESET (R166, R167). -/
def execPowerOnReset (s : State) : Host.Outcome State Fault Refusal := .next (powerUp s)

/-- PANEL_RESET (R166, R167). -/
def execPanelReset (s : State) : Host.Outcome State Fault Refusal := .next (panelPressed s)

/-- RESTART_RESET (R166, R167). -/
def execRestartReset (s : State) : Host.Outcome State Fault Refusal := .next (restartTaken s)

/-- START_UP (R167). -/
def execStartUp (s : State) : Host.Outcome State Fault Refusal := .next (startIfIdle s)

/-- PARK_SW_EDGE (R38, R39, R41). -/
def execParkSwEdge (c : Crane) (level : Bool) (s : State) : Host.Outcome State Fault Refusal :=
  .next (whenRunning (parkSwTaken c level) s)

/-- VANE_FB_EDGE (R38, R39, R90). -/
def execVaneFbEdge (c : Crane) (level : Bool) (s : State) : Host.Outcome State Fault Refusal :=
  .next (whenRunning (vaneFbTaken c level) s)

/-- TAKE_KEY_TAKEN (R163). -/
def execTakeKeyTaken (level : Bool) (s : State) : Host.Outcome State Fault Refusal :=
  .next (whenRunning (fun t => { t with takeKey := levelOf level }) s)

/-- ANEM_PULSE (R98, R99). -/
def execAnemPulse (ch : Channel) (micros : Nat) (s : State) : Host.Outcome State Fault Refusal :=
  .next (whenRunning (fun t => t.setMeas (pulseAt t.meas ch micros)) s)

/-- SAMPLE (R100). -/
def execSample (s : State) : Host.Outcome State Fault Refusal := .next (whenRunning takeSample s)

/-- FAULT_HIGH (R101): the sample at which the channel enters FAULT_HIGH. -/
def execFaultHigh (ch : Channel) (s : State) : Host.Outcome State Fault Refusal :=
  .next (whenRunning (fun t => sampleIf (becomesHigh t.meas ch) t) s)

/-- FAULT_STUCK (R102): the sample at which the channel enters FAULT_STUCK. -/
def execFaultStuck (ch : Channel) (s : State) : Host.Outcome State Fault Refusal :=
  .next (whenRunning (fun t => sampleIf (becomesStuck t.meas ch) t) s)

/-- CHANNEL_CLEAR_RUN_REACHED (R101, R102): the sample at which a faulted channel returns to VALID. -/
def execChannelClearRunReached (ch : Channel) (s : State) : Host.Outcome State Fault Refusal :=
  .next (whenRunning (fun t => sampleIf (becomesClear t.meas ch) t) s)

/-- BLOCK_COMPLETE (R106): the sample that completes a block. -/
def execBlockComplete (s : State) : Host.Outcome State Fault Refusal :=
  .next (whenRunning (fun t => sampleIf (boundary t.meas) t) s)

/-- ALERT_CALM_REACHED (R117): the sample that moves ALERT down to CALM. -/
def execAlertCalmReached (s : State) : Host.Outcome State Fault Refusal :=
  .next (whenRunning (fun t => sampleIf (movesDown t .alert) t) s)

/-- HOLD_CALM_REACHED (R117): the sample that moves HOLD down to ALERT. -/
def execHoldCalmReached (s : State) : Host.Outcome State Fault Refusal :=
  .next (whenRunning (fun t => sampleIf (movesDown t .hold) t) s)

/-- STOP_CALM_REACHED (R118): the sample that moves STOP down to HOLD. -/
def execStopCalmReached (s : State) : Host.Outcome State Fault Refusal :=
  .next (whenRunning (fun t => sampleIf (movesDown t .stop) t) s)

/-- RESUME_READY (R124): the sample at which the calm count of VANE reaches its period. -/
def execResumeReady (s : State) : Host.Outcome State Fault Refusal :=
  .next (whenRunning (fun t => sampleIf (vaneCalms t) t) s)

/-- PARK_TIMEOUT (R123). -/
def execParkTimeout (s : State) : Host.Outcome State Fault Refusal := .next (whenRunning parkTimerEnds s)

/-- SILENCE_LIMIT_EXPIRY (R29, R30). -/
def execSilenceLimitExpiry (c : Crane) (s : State) : Host.Outcome State Fault Refusal :=
  .next (whenRunning (silenceEnds c) s)

/-- LOST_LIMIT_EXPIRY (R29, R30). -/
def execLostLimitExpiry (c : Crane) (s : State) : Host.Outcome State Fault Refusal := .next (whenRunning (lostEnds c) s)

/-- WAIT_EXPIRED (R67). -/
def execWaitExpired (x : CellNo) (c : Crane) (s : State) : Host.Outcome State Fault Refusal :=
  .next (whenRunning (waitEnds x c) s)

/-- RECALL_OVERDUE (R77). -/
def execRecallOverdue (x : CellNo) (s : State) : Host.Outcome State Fault Refusal :=
  .next (whenRunning (recallEnds x) s)

/-- CLOCK_SECOND (R143, R147). -/
def execClockSecond (s : State) : Host.Outcome State Fault Refusal := .next (secondRow s)

/-- COMMIT_EXPIRED (R18). -/
def execCommitExpired (s : State) : Host.Outcome State Fault Refusal := .next (whenRunning commitTimerEnds s)

/-- STORE_WRITE_DONE (R165). -/
def execStoreWriteDone (good : Bool) (s : State) : Host.Outcome State Fault Refusal := .next (writeRow good s)

/-- VANE_FAULT (R91). -/
def execVaneFault (c : Crane) (s : State) : Host.Outcome State Fault Refusal :=
  .next (whenRunning (feedbackTimerEnds c) s)

/-- PULSE_END (R94). -/
def execPulseEnd (l : SigLine) (s : State) : Host.Outcome State Fault Refusal :=
  .next (whenRunning (fun t => t.modSig l pulseStops) s)

/-- FLASH_PHASE (R94). -/
def execFlashPhase (l : SigLine) (s : State) : Host.Outcome State Fault Refusal :=
  .next (whenRunning (fun t => t.modSig l flashTurns) s)

/-- START_BYTE (R158): the byte A5H at a receiver. -/
def execStartByte (p : Port) (s : State) : Host.Outcome State Fault Refusal :=
  .next (whenRunning (fun t => rxByte p t 0xA5) s)

/-- LOSS_OF_SUPPLY (R165). -/
def execLossOfSupply (corrupt : Bool) (s : State) : Host.Outcome State Fault Refusal := .next (supplyFails corrupt s)

end Sys2Proof.Machine
end

