-- ==== Sys2Proof/Machine/RequestRows.lean ====
section
/-! DEFINITION. The request rows of the opcode table: each is its frame completing at its port (R161), taken at once
where the port is free to take it. -/

namespace Sys2Proof.Machine

/-- REPORT (R25 to R28). -/
def execReport (p : Port) (r : RawReport) (s : State) : Host.Outcome State Fault Refusal :=
  .next (arrive p (.report r) s)

/-- ENTER (R65, R66). -/
def execEnter (p : Port) (who : Option Nat) (cell : Nat) (s : State) : Host.Outcome State Fault Refusal :=
  .next (arrive p (.enter who cell) s)

/-- LEAVE (R73). -/
def execLeave (p : Port) (who : Option Nat) (cell : Nat) (s : State) : Host.Outcome State Fault Refusal :=
  .next (arrive p (.leave who cell) s)

/-- BOOK (R132 to R136). -/
def execBook (p : Port) (who : Option Nat) (f : BookFields) (s : State) : Host.Outcome State Fault Refusal :=
  .next (arrive p (.book who f) s)

/-- CANCEL (R139). -/
def execCancel (p : Port) (number : Nat) (s : State) : Host.Outcome State Fault Refusal :=
  .next (arrive p (.cancel number) s)

/-- END (R155). -/
def execEndLift (p : Port) (s : State) : Host.Outcome State Fault Refusal := .next (arrive p .endLift s)

/-- PARK (R32, R34, R36). -/
def execPark (p : Port) (who : Option Nat) (s : State) : Host.Outcome State Fault Refusal :=
  .next (arrive p (.park who) s)

/-- SERVICE (R32, R33, R36). -/
def execService (p : Port) (who : Option Nat) (s : State) : Host.Outcome State Fault Refusal :=
  .next (arrive p (.service who) s)

/-- OOS (R32, R35, R36). -/
def execOos (p : Port) (who : Option Nat) (s : State) : Host.Outcome State Fault Refusal :=
  .next (arrive p (.oos who) s)

/-- STATUS (R164). -/
def execStatus (p : Port) (target number : Nat) (s : State) : Host.Outcome State Fault Refusal :=
  .next (arrive p (.status target number) s)

/-- NOTICE_MASK (R162). -/
def execNoticeMask (p : Port) (m : Classes) (s : State) : Host.Outcome State Fault Refusal :=
  .next (arrive p (.noticeMask m) s)

/-- TAKE (R163). -/
def execTake (p : Port) (s : State) : Host.Outcome State Fault Refusal := .next (arrive p .take s)

/-- HANDOVER (R163). -/
def execHandover (p : Port) (s : State) : Host.Outcome State Fault Refusal := .next (arrive p .handover s)

/-- RESTART (R166). -/
def execRestart (p : Port) (s : State) : Host.Outcome State Fault Refusal := .next (arrive p .restart s)

/-- FORCE_RELEASE (R78). -/
def execForceRelease (p : Port) (cell : Nat) (s : State) : Host.Outcome State Fault Refusal :=
  .next (arrive p (.forceRelease cell) s)

/-- INHIBIT_SET (R85). -/
def execInhibitSet (p : Port) (crane : Nat) (m : Lines) (s : State) : Host.Outcome State Fault Refusal :=
  .next (arrive p (.inhibitSet crane m) s)

/-- INHIBIT_CLEAR (R85). -/
def execInhibitClear (p : Port) (crane : Nat) (m : Lines) (s : State) : Host.Outcome State Fault Refusal :=
  .next (arrive p (.inhibitClear crane m) s)

/-- SETSIGNAL (R92). -/
def execSetSignal (p : Port) (line : Nat) (cfg : RawSignal) (s : State) : Host.Outcome State Fault Refusal :=
  .next (arrive p (.setSignal line cfg) s)

/-- SETINPUT (R40). -/
def execSetInput (p : Port) (crane input sel : Nat) (s : State) : Host.Outcome State Fault Refusal :=
  .next (arrive p (.setInput crane input sel) s)

/-- RULE (R137). -/
def execRule (p : Port) (number ruling : Nat) (s : State) : Host.Outcome State Fault Refusal :=
  .next (arrive p (.rule number ruling) s)

/-- ABORT (R140). -/
def execAbort (p : Port) (number : Nat) (s : State) : Host.Outcome State Fault Refusal :=
  .next (arrive p (.abort number) s)

/-- FINISH (R156). -/
def execFinish (p : Port) (number : Nat) (s : State) : Host.Outcome State Fault Refusal :=
  .next (arrive p (.finish number) s)

/-- SETCLOCK (R144). -/
def execSetClock (p : Port) (value : Nat) (s : State) : Host.Outcome State Fault Refusal :=
  .next (arrive p (.setClock value) s)

/-- SITE_STOP (R119). -/
def execSiteStop (p : Port) (s : State) : Host.Outcome State Fault Refusal := .next (arrive p .siteStop s)

/-- RESUME (R120). -/
def execResume (p : Port) (s : State) : Host.Outcome State Fault Refusal := .next (arrive p .resume s)

/-- SETWIND (R109, R110). -/
def execSetWind (p : Port) (t : Thresholds) (s : State) : Host.Outcome State Fault Refusal :=
  .next (arrive p (.setWind t) s)

/-- SETCAL (R108). -/
def execSetCal (p : Port) (k : RawCal) (s : State) : Host.Outcome State Fault Refusal := .next (arrive p (.setCal k) s)

/-- STAGE_CLEAR (R7). -/
def execStageClear (p : Port) (s : State) : Host.Outcome State Fault Refusal := .next (arrive p .stageClear s)

/-- STAGE_COPY (R7). -/
def execStageCopy (p : Port) (s : State) : Host.Outcome State Fault Refusal := .next (arrive p .stageCopy s)

/-- STAGE_CRANE (R8). -/
def execStageCrane (p : Port) (crane : Nat) (d : Option Decl) (s : State) : Host.Outcome State Fault Refusal :=
  .next (arrive p (.stageCrane crane d) s)

/-- STAGE_CELL (R9). -/
def execStageCell (p : Port) (first : Nat) (recs : List RawRecord) (s : State) : Host.Outcome State Fault Refusal :=
  .next (arrive p (.stageCell first recs) s)

/-- STAGE_REMOVE_CELL (R9). -/
def execStageRemoveCell (p : Port) (cell : Nat) (s : State) : Host.Outcome State Fault Refusal :=
  .next (arrive p (.stageRemoveCell cell) s)

/-- STAGE_SITE (R10). -/
def execStageSite (p : Port) (v : RawParams) (s : State) : Host.Outcome State Fault Refusal :=
  .next (arrive p (.stageSite v) s)

/-- COMMIT (R11 to R14). -/
def execCommit (p : Port) (s : State) : Host.Outcome State Fault Refusal := .next (arrive p .commit s)

/-- COMMIT_CANCEL (R18). -/
def execCommitCancel (p : Port) (s : State) : Host.Outcome State Fault Refusal := .next (arrive p .commitCancel s)

end Sys2Proof.Machine
end

