-- ==== Sys2Proof/Machine/Dispatch.lean ====
section
/-! DEFINITION. The meaning of every row of the opcode table, one call each. -/

namespace Sys2Proof.Machine

def exec (i : Instr) (s : State) : Host.Outcome State Fault Refusal :=
  match i with
  | .report p r => Sys2Proof.Machine.execReport p r s
  | .enter p who cell => Sys2Proof.Machine.execEnter p who cell s
  | .leave p who cell => Sys2Proof.Machine.execLeave p who cell s
  | .book p who f => Sys2Proof.Machine.execBook p who f s
  | .cancel p number => Sys2Proof.Machine.execCancel p number s
  | .endLift p => Sys2Proof.Machine.execEndLift p s
  | .park p who => Sys2Proof.Machine.execPark p who s
  | .service p who => Sys2Proof.Machine.execService p who s
  | .oos p who => Sys2Proof.Machine.execOos p who s
  | .status p target number => Sys2Proof.Machine.execStatus p target number s
  | .noticeMask p m => Sys2Proof.Machine.execNoticeMask p m s
  | .take p => Sys2Proof.Machine.execTake p s
  | .handover p => Sys2Proof.Machine.execHandover p s
  | .restart p => Sys2Proof.Machine.execRestart p s
  | .forceRelease p cell => Sys2Proof.Machine.execForceRelease p cell s
  | .inhibitSet p crane m => Sys2Proof.Machine.execInhibitSet p crane m s
  | .inhibitClear p crane m => Sys2Proof.Machine.execInhibitClear p crane m s
  | .setSignal p line cfg => Sys2Proof.Machine.execSetSignal p line cfg s
  | .setInput p crane input sel => Sys2Proof.Machine.execSetInput p crane input sel s
  | .rule p number ruling => Sys2Proof.Machine.execRule p number ruling s
  | .abort p number => Sys2Proof.Machine.execAbort p number s
  | .finish p number => Sys2Proof.Machine.execFinish p number s
  | .setClock p value => Sys2Proof.Machine.execSetClock p value s
  | .siteStop p => Sys2Proof.Machine.execSiteStop p s
  | .resume p => Sys2Proof.Machine.execResume p s
  | .setWind p t => Sys2Proof.Machine.execSetWind p t s
  | .setCal p k => Sys2Proof.Machine.execSetCal p k s
  | .stageClear p => Sys2Proof.Machine.execStageClear p s
  | .stageCopy p => Sys2Proof.Machine.execStageCopy p s
  | .stageCrane p crane d => Sys2Proof.Machine.execStageCrane p crane d s
  | .stageCell p first recs => Sys2Proof.Machine.execStageCell p first recs s
  | .stageRemoveCell p cell => Sys2Proof.Machine.execStageRemoveCell p cell s
  | .stageSite p v => Sys2Proof.Machine.execStageSite p v s
  | .commit p => Sys2Proof.Machine.execCommit p s
  | .commitCancel p => Sys2Proof.Machine.execCommitCancel p s
  | .badKind p kind body => Sys2Proof.Machine.execBadKind p kind body s
  | .frameReceived p bytes => Sys2Proof.Machine.execFrameReceived p bytes s
  | .frameIdleTimeout p => Sys2Proof.Machine.execFrameIdleTimeout p s
  | .responseSent p => Sys2Proof.Machine.execResponseSent p s
  | .noticeSent p => Sys2Proof.Machine.execNoticeSent p s
  | .powerOnReset => Sys2Proof.Machine.execPowerOnReset s
  | .panelReset => Sys2Proof.Machine.execPanelReset s
  | .restartReset => Sys2Proof.Machine.execRestartReset s
  | .startUp => Sys2Proof.Machine.execStartUp s
  | .parkSwEdge c level => Sys2Proof.Machine.execParkSwEdge c level s
  | .vaneFbEdge c level => Sys2Proof.Machine.execVaneFbEdge c level s
  | .takeKeyTaken level => Sys2Proof.Machine.execTakeKeyTaken level s
  | .anemPulse ch micros => Sys2Proof.Machine.execAnemPulse ch micros s
  | .sample => Sys2Proof.Machine.execSample s
  | .faultHigh ch => Sys2Proof.Machine.execFaultHigh ch s
  | .faultStuck ch => Sys2Proof.Machine.execFaultStuck ch s
  | .channelClearRunReached ch => Sys2Proof.Machine.execChannelClearRunReached ch s
  | .blockComplete => Sys2Proof.Machine.execBlockComplete s
  | .alertCalmReached => Sys2Proof.Machine.execAlertCalmReached s
  | .holdCalmReached => Sys2Proof.Machine.execHoldCalmReached s
  | .stopCalmReached => Sys2Proof.Machine.execStopCalmReached s
  | .resumeReady => Sys2Proof.Machine.execResumeReady s
  | .parkTimeout => Sys2Proof.Machine.execParkTimeout s
  | .silenceLimitExpiry c => Sys2Proof.Machine.execSilenceLimitExpiry c s
  | .lostLimitExpiry c => Sys2Proof.Machine.execLostLimitExpiry c s
  | .waitExpired x c => Sys2Proof.Machine.execWaitExpired x c s
  | .recallOverdue x => Sys2Proof.Machine.execRecallOverdue x s
  | .clockSecond => Sys2Proof.Machine.execClockSecond s
  | .commitExpired => Sys2Proof.Machine.execCommitExpired s
  | .storeWriteDone good => Sys2Proof.Machine.execStoreWriteDone good s
  | .vaneFault c => Sys2Proof.Machine.execVaneFault c s
  | .pulseEnd l => Sys2Proof.Machine.execPulseEnd l s
  | .flashPhase l => Sys2Proof.Machine.execFlashPhase l s
  | .startByte p => Sys2Proof.Machine.execStartByte p s
  | .lossOfSupply corrupt => Sys2Proof.Machine.execLossOfSupply corrupt s

end Sys2Proof.Machine
end

