-- ==== Sys2Proof/Machine/Tick.lean ====
section
/-! DEFINITION. Time on an empty queue (log entry 4): the timed event that is due, or 10 ms that pass. -/

namespace Sys2Proof.Machine

/-! ### The event that is due -/

/-- An event of the list, if the condition holds. -/
def dueIf (b : Bool) (i : Instr) : Option Instr := if b then some i else none

def linkDue (s : State) (c : Crane) : Option Instr :=
  match (s.crane c).link with
  | .live => dueIf (silentFor (s.crane c) s.map.params.silence) (.silenceLimitExpiry c)
  | .stale => dueIf (silentFor (s.crane c) (s.map.params.lost * 1000)) (.lostLimitExpiry c)
  | .none => none
  | .lost => none

def waitDue (s : State) (x : CellNo) : Option Instr :=
  allCranes.findSome? fun c => dueIf (waitOver c (s.cell x).list) (.waitExpired x c)

def recallDue (s : State) (x : CellNo) : Option Instr :=
  dueIf ((s.cell x).recallState == .running 0) (.recallOverdue x)

def vaneDue (s : State) (c : Crane) : Option Instr := dueIf (faultKind (s.out c).check).isSome (.vaneFault c)

def signalDue (s : State) (l : SigLine) : Option Instr :=
  if (s.sig l).phase = some 0 then
    match (s.sig l).cfg.mode with
    | .pulse => some (.pulseEnd l)
    | .flash => some (.flashPhase l)
    | .level => none
  else none

/-- The clock second that ends now (R143). -/
def secondDue (s : State) : Option Instr := dueIf (clockRuns s.clock && s.clock.secLeft == 0) .clockSecond

/-- The timed event of a running part that is due, in a fixed order. -/
def runningDue (s : State) : Option Instr :=
  dueIf s.restartReady .restartReset
    <|> allCranes.findSome? (linkDue s)
    <|> allCells.findSome? (waitDue s)
    <|> allCells.findSome? (recallDue s)
    <|> dueIf (s.map.commit == .pending 0) .commitExpired
    <|> dueIf (s.wind.state == .stop && s.wind.parkTimer == some 0) .parkTimeout
    <|> allCranes.findSome? (vaneDue s)
    <|> allLines.findSome? (signalDue s)
    <|> dueIf (s.meas.gateLeft == 0) .sample
    <|> secondDue s

/-- While a reset is taken the site clock alone runs on (R143). -/
def dueEvent (s : State) : Option Instr :=
  match s.phase with
  | .running => runningDue s
  | .resetting => secondDue s
  | .unpowered => none

/-! ### Ten milliseconds -/

/-- A timer counts down. -/
def less (n : Nat) : Nat := n - Config.tickMs

def lessOf (t : Option Nat) : Option Nat := t.map less

def tickEntry : Entry → Entry
  | .entry c left => .entry c (less left)
  | .claim n c t => .claim n c t
  | .auto c => .auto c

def tickRecall : Recall → Recall
  | .running left => .running (less left)
  | .idle => .idle
  | .overdue => .overdue

def tickCell (k : CellRec) : CellRec :=
  { k with list := k.list.map tickEntry, recallState := tickRecall k.recallState }

/-- The time since last report counts up to 3600 s (R23). -/
def tickCrane (k : CraneRec) : CraneRec :=
  { k with since := k.since.map fun t => min Config.sinceMax (t + Config.tickMs) }

def tickCheck : Check → Check
  | .releaseWait left => .releaseWait (less left)
  | .applyWait left => .applyWait (less left)
  | .idle => .idle

def tickCommit : CommitState → CommitState
  | .pending left => .pending (less left)
  | .idle => .idle

def tickClock (k : Clock) : Clock := if clockRuns k then { k with secLeft := less k.secLeft } else k

/-- Ten milliseconds of a running part. -/
def tickRunning (s : State) : State :=
  { s with
    map := { s.map with commit := tickCommit s.map.commit }
    cranes := s.cranes.map tickCrane
    cells := s.cells.map tickCell
    outs := s.outs.map fun o => { o with check := tickCheck o.check }
    sigs := s.sigs.map fun r => { r with phase := lessOf r.phase }
    meas := { s.meas with gateLeft := less s.meas.gateLeft }
    wind := { s.wind with parkTimer := lessOf s.wind.parkTimer }
    clock := tickClock s.clock }

/-- Ten milliseconds. -/
def tick (s : State) : State :=
  match s.phase with
  | .running => tickRunning s
  | .resetting => s.setClock (tickClock s.clock)
  | .unpowered => s

end Sys2Proof.Machine
end

