-- ==== Sys2Proof/WellFormed.lean ====
section
/-! DEFINITION. Which commands the links and lines can carry: every number of a request fits the bytes R159 and R160
give it, the crane byte stands on supervisor links alone, the port carries the kind, and the body has at most 119 bytes
(R158). A well-formed request may still be refused by its rule. -/

namespace Sys2Proof

def fits8 (n : Nat) : Bool := n < 256
def fits16 (n : Nat) : Bool := n < 65536
def fits32 (n : Nat) : Bool := n < 4294967296

/-- The crane byte of a "crane first" request: present on a supervisor link, absent on a crane link (R160). -/
def whoFits : Port → Option Nat → Bool
  | .c _, w => w.isNone
  | .s _, some n => fits8 n
  | .s _, none => false

def RawReport.fits (r : RawReport) : Bool :=
  fits16 r.theta && decide (-32768 ≤ r.omega ∧ r.omega ≤ 32767) && fits16 r.r && decide (-128 ≤ r.v ∧ r.v ≤ 127)
    && fits16 r.h && fits8 r.doubt

def RawMember.fits (m : RawMember) : Bool :=
  decide (m.crane < 16 ∧ m.role < 16 ∧ m.start < 4096 ∧ m.len < 4096 ∧ m.rMin < 1024 ∧ m.rMax < 1024
    ∧ m.clearance < 4096)

def RawRecord.fits (r : RawRecord) : Bool := decide (r.members.length < 16) && r.members.all RawMember.fits

def Decl.fits (d : Decl) : Bool :=
  fits16 d.jib && fits16 d.hookMax && fits16 d.park && fits16 d.reaction && fits8 d.slewDec && fits8 d.trolDec
    && fits8 d.slewMargin && fits8 d.radMargin && fits8 d.windFactor && fits8 d.vanePermit

def Thresholds.fits (t : Thresholds) : Bool :=
  fits16 t.alertSet && fits16 t.alertRel && fits16 t.holdSet && fits16 t.holdRel && fits16 t.stopSet
    && fits16 t.stopRel && fits16 t.meanSet && fits16 t.meanRel && fits16 t.alertCalm && fits16 t.holdCalm
    && fits16 t.stopCalm

/-- Every number of the request fits the bytes of R159 and R160. -/
def Request.fieldsFit (p : Port) : Request → Bool
  | .report r => r.fits
  | .enter w x => whoFits p w && fits8 x
  | .leave w x => whoFits p w && fits8 x
  | .book w f =>
    whoFits p w && fits32 f.start && fits16 f.duration && fits16 f.late && fits8 f.cls && fits8 f.inspect
      && fits8 f.cells.length && f.cells.all fits8
  | .cancel n => fits16 n
  | .endLift => true
  | .park w => whoFits p w
  | .service w => whoFits p w
  | .oos w => whoFits p w
  | .status t n => fits8 t && fits16 n
  | .noticeMask _ => true
  | .take => true
  | .handover => true
  | .restart => true
  | .forceRelease x => fits8 x
  | .inhibitSet c _ => fits8 c
  | .inhibitClear c _ => fits8 c
  | .setSignal l g => fits8 l && fits8 g.enable && fits8 g.source && fits8 g.sense && fits8 g.mode
  | .setInput c i e => fits8 c && fits8 i && fits8 e
  | .rule n r => fits16 n && fits8 r
  | .abort n => fits16 n
  | .finish n => fits16 n
  | .setClock v => fits32 v
  | .siteStop => true
  | .resume => true
  | .setWind t => t.fits
  | .setCal k => fits16 k.kA && fits8 k.filterA && fits16 k.kB && fits8 k.filterB
  | .stageClear => true
  | .stageCopy => true
  | .stageCrane c d => fits8 c && d.all Decl.fits
  | .stageCell n rs => fits8 n && fits8 rs.length && rs.all RawRecord.fits
  | .stageRemoveCell x => fits8 x
  | .stageSite v =>
    fits16 v.silence && fits8 v.lost && fits8 v.enterWait && fits16 v.recallLimit && fits16 v.parkTimeout
      && fits16 v.commitWait && fits8 v.endHold && fits8 v.holdoff
  | .commit => true
  | .commitCancel => true

/-- A request that a frame at the port can carry. -/
def Request.wellFormed (p : Port) (r : Request) : Bool :=
  p.carries r.kind && r.fieldsFit p && decide ((requestBody r).length ≤ 119)

/-- The request of a request row, with its port. -/
def Instr.request : Instr → Option (Port × Request)
  | .report p r => some (p, .report r)
  | .enter p w x => some (p, .enter w x)
  | .leave p w x => some (p, .leave w x)
  | .book p w f => some (p, .book w f)
  | .cancel p n => some (p, .cancel n)
  | .endLift p => some (p, .endLift)
  | .park p w => some (p, .park w)
  | .service p w => some (p, .service w)
  | .oos p w => some (p, .oos w)
  | .status p t n => some (p, .status t n)
  | .noticeMask p m => some (p, .noticeMask m)
  | .take p => some (p, .take)
  | .handover p => some (p, .handover)
  | .restart p => some (p, .restart)
  | .forceRelease p x => some (p, .forceRelease x)
  | .inhibitSet p c m => some (p, .inhibitSet c m)
  | .inhibitClear p c m => some (p, .inhibitClear c m)
  | .setSignal p l g => some (p, .setSignal l g)
  | .setInput p c i e => some (p, .setInput c i e)
  | .rule p n r => some (p, .rule n r)
  | .abort p n => some (p, .abort n)
  | .finish p n => some (p, .finish n)
  | .setClock p v => some (p, .setClock v)
  | .siteStop p => some (p, .siteStop)
  | .resume p => some (p, .resume)
  | .setWind p t => some (p, .setWind t)
  | .setCal p k => some (p, .setCal k)
  | .stageClear p => some (p, .stageClear)
  | .stageCopy p => some (p, .stageCopy)
  | .stageCrane p c d => some (p, .stageCrane c d)
  | .stageCell p n rs => some (p, .stageCell n rs)
  | .stageRemoveCell p x => some (p, .stageRemoveCell x)
  | .stageSite p v => some (p, .stageSite v)
  | .commit p => some (p, .commit)
  | .commitCancel p => some (p, .commitCancel)
  | .badKind _ _ _ => none
  | .frameReceived _ _ => none
  | .frameIdleTimeout _ => none
  | .responseSent _ => none
  | .noticeSent _ => none
  | .powerOnReset => none
  | .panelReset => none
  | .restartReset => none
  | .startUp => none
  | .parkSwEdge _ _ => none
  | .vaneFbEdge _ _ => none
  | .takeKeyTaken _ => none
  | .anemPulse _ _ => none
  | .sample => none
  | .faultHigh _ => none
  | .faultStuck _ => none
  | .channelClearRunReached _ => none
  | .blockComplete => none
  | .alertCalmReached => none
  | .holdCalmReached => none
  | .stopCalmReached => none
  | .resumeReady => none
  | .parkTimeout => none
  | .silenceLimitExpiry _ => none
  | .lostLimitExpiry _ => none
  | .waitExpired _ _ => none
  | .recallOverdue _ => none
  | .clockSecond => none
  | .commitExpired => none
  | .storeWriteDone _ => none
  | .vaneFault _ => none
  | .pulseEnd _ => none
  | .flashPhase _ => none
  | .startByte _ => none
  | .lossOfSupply _ => none

/-- A BAD_KIND event is a frame of a kind the port does not carry, with a body of at most 119 bytes (R158, R161). -/
def badKindFits (p : Port) (kind : Byte) (body : List Byte) : Bool :=
  decide (body.length ≤ 119) && (ReqKind.ofCode kind).all fun k => !p.carries k

/-- A command that can come about. -/
def Instr.wellFormed (i : Instr) : Bool :=
  match i, i.request with
  | .badKind p k b, _ => badKindFits p k b
  | _, some (p, r) => r.wellFormed p
  | _, none => true

end Sys2Proof
end

