-- ==== Sys2Proof/Safety.lean ====
section
/-! DEFINITION. The terms in which claims speak: when a port attends to a frame, what a response is, the rules over the
whole machine that every step keeps, and what an event leaves alone. -/

namespace Sys2Proof.Machine

/-! ### Ports and responses -/

/-- The port takes the next complete frame at once (R161): the part runs, no reset is awaited, the response slot and
the buffer are empty. -/
def attends (s : State) (p : Port) : Prop :=
  s.phase = .running ∧ s.restartReady = false ∧ (s.port p).slot = none ∧ (s.port p).buffer = []

/-- The row of the opcode table for a request at a port. -/
def requestRow (p : Port) : Request → Instr
  | .report r => .report p r
  | .enter w x => .enter p w x
  | .leave w x => .leave p w x
  | .book w f => .book p w f
  | .cancel n => .cancel p n
  | .endLift => .endLift p
  | .park w => .park p w
  | .service w => .service p w
  | .oos w => .oos p w
  | .status t n => .status p t n
  | .noticeMask m => .noticeMask p m
  | .take => .take p
  | .handover => .handover p
  | .restart => .restart p
  | .forceRelease x => .forceRelease p x
  | .inhibitSet c m => .inhibitSet p c m
  | .inhibitClear c m => .inhibitClear p c m
  | .setSignal l g => .setSignal p l g
  | .setInput c i e => .setInput p c i e
  | .rule n r => .rule p n r
  | .abort n => .abort p n
  | .finish n => .finish p n
  | .setClock v => .setClock p v
  | .siteStop => .siteStop p
  | .resume => .resume p
  | .setWind t => .setWind p t
  | .setCal k => .setCal p k
  | .stageClear => .stageClear p
  | .stageCopy => .stageCopy p
  | .stageCrane c d => .stageCrane p c d
  | .stageCell n rs => .stageCell p n rs
  | .stageRemoveCell x => .stageRemoveCell p x
  | .stageSite v => .stageSite p v
  | .commit => .commit p
  | .commitCancel => .commitCancel p

/-- The requests that a supervisor link may send only with site authority (the table of R163). -/
def authorityOnly : ReqKind → Bool
  | .enter | .leave | .park | .service | .oos | .handover | .restart | .forceRelease | .inhibitSet | .inhibitClear
  | .setSignal | .setInput | .rule | .abort | .finish | .setClock | .siteStop | .resume | .setWind | .setCal
  | .stageClear | .stageCopy | .stageCrane | .stageCell | .stageRemoveCell | .stageSite | .commit | .commitCancel => true
  | .report | .book | .cancel | .endLift | .status | .noticeMask | .take => false

/-- The response in a port's slot. -/
def responds (s : State) (p : Port) (k : ReqKind) (o : RespOutcome) (why : Option Reason) (r : Result) : Prop :=
  (s.port p).slot = some ⟨respKind k, o, why, r⟩

/-! ### Checks taken in order -/

/-- Of checks taken in order, the first whose condition fails is named; none is where all hold. -/
def namesFirst {α : Type} : List (Prop × α) → Option α → Prop
  | [], r => r = none
  | (ok, name) :: rest, r => (¬ok → r = some name) ∧ (ok → namesFirst rest r)

/-- A level of a threshold set is in its range (R109). -/
def levelInRange (n : Nat) : Prop := 10 ≤ n ∧ n ≤ 990

/-- The checks of R109 in their order, with the value that each names where it fails, numbered from 0 in the order of the
table. Which of two compared values is named is the model's choice (log entry 11). -/
def thresholdChecks (t : Thresholds) : List (Prop × Nat) :=
  [(levelInRange t.alertSet, 0), (levelInRange t.alertRel, 1), (levelInRange t.holdSet, 2), (levelInRange t.holdRel, 3),
    (levelInRange t.stopSet, 4), (levelInRange t.stopRel, 5), (levelInRange t.meanSet, 6), (levelInRange t.meanRel, 7),
    (t.alertRel < t.alertSet, 1), (t.holdRel < t.holdSet, 3), (t.stopRel < t.stopSet, 5), (t.meanRel < t.meanSet, 7),
    (t.alertSet ≤ t.holdSet, 2), (t.holdSet ≤ t.stopSet, 4), (10 ≤ t.alertCalm ∧ t.alertCalm ≤ 3600, 8),
    (10 ≤ t.holdCalm ∧ t.holdCalm ≤ 3600, 9), (60 ≤ t.stopCalm ∧ t.stopCalm ≤ 3600, 10)]

/-- The ranges of R133 in their order, with the field that each names where it fails. -/
def bookFieldChecks (f : BookFields) : List (Prop × BookField) :=
  [(60 ≤ f.duration ∧ f.duration ≤ 7200, .duration), (f.late < f.duration, .lateLimit), (f.cls ≤ 1, .loadClass),
    (f.inspect ≤ 1, .inspectFlag), (1 ≤ f.cells.length ∧ f.cells.length ≤ 4, .cellCount),
    (∀ n ∈ f.cells, 1 ≤ n ∧ n ≤ 64, .cellNumber), (f.cells.Nodup, .cellRepeat),
    (f.start + f.duration ≤ 4294967295, .window)]

/-- A declaration within the ranges of R2. -/
def declWithin (d : Decl) : Prop :=
  (100 ≤ d.jib ∧ d.jib ≤ 900) ∧ (100 ≤ d.hookMax ∧ d.hookMax ≤ 3000) ∧ d.park ≤ d.jib ∧ d.reaction ≤ 2000
    ∧ (1 ≤ d.slewDec ∧ d.slewDec ≤ 255) ∧ (1 ≤ d.trolDec ∧ d.trolDec ≤ 63) ∧ d.slewMargin ≤ 63 ∧ d.radMargin ≤ 63
    ∧ d.windFactor ≤ 255 ∧ d.vanePermit ≤ 1

/-- The map declares a crane of this number so. -/
def declares (m : MapBody) (n : Nat) (e : Decl) : Prop := ∃ c : Crane, craneNo c = n ∧ m.decls[c] = some e

/-- The members of a cell record pass check 2 of R11: two or three, declared, each crane once. -/
def membersWithin (m : MapBody) (d : CellDecl) : Prop :=
  (d.members.length = 2 ∨ d.members.length = 3) ∧ (∀ k ∈ d.members, ∃ e, declares m k.crane e)
    ∧ (d.members.map (·.crane)).Nodup

/-- The spans of a cell record pass check 3 of R11. -/
def spansWithin (d : CellDecl) : Prop := ∀ k ∈ d.members, k.start ≤ 4095 ∧ 1 ≤ k.len ∧ k.len ≤ 2048

/-- The bands and clearances of a cell record pass check 4 of R11. -/
def bandsWithin (m : MapBody) (d : CellDecl) : Prop :=
  ∀ k ∈ d.members, ∀ lo hi clearance, k.role = .line lo hi clearance →
    lo ≤ hi ∧ ∀ e, declares m k.crane e → hi ≤ e.jib ∧ clearance ≤ e.hookMax

/-- The cells of a map of which the crane is a member. -/
def cellsOfCrane (m : MapBody) (c : Crane) : List CellNo :=
  allCells.filter fun x => (m.cells[x]).any fun d => d.members.any fun k => k.crane == craneNo c

/-- The check of R11 fails at the crane (RANGE, LIMIT) or cell (the others) of this number. -/
def checkFails (m : MapBody) (f : MapFailure) (n : Nat) : Prop :=
  let cell := fun ok : CellDecl → Prop => ∃ (x : CellNo) (d : CellDecl), cellNo x = n ∧ m.cells[x] = some d ∧ ¬ok d
  let crane := fun ok : Crane → Decl → Prop => ∃ (c : Crane) (d : Decl), craneNo c = n ∧ m.decls[c] = some d ∧ ¬ok c d
  match f with
  | .range => crane fun _ d => declWithin d
  | .members => cell (membersWithin m)
  | .span => cell spansWithin
  | .band => cell (bandsWithin m)
  | .limit => crane fun c _ => (cellsOfCrane m c).length ≤ 24
  | .vane => cell fun d => vaneConflict m d = false

/-- The place of a check in R11's order. -/
def checkPlace : MapFailure → Nat
  | .range => 1
  | .members => 2
  | .span => 3
  | .band => 4
  | .limit => 5
  | .vane => 6

/-- The first failure of R11: every check before it passes everywhere, and it passes at every lower number. -/
def failsFirst (m : MapBody) (f : MapFailure) (n : Nat) : Prop :=
  checkFails m f n ∧ (∀ g j, checkPlace g < checkPlace f → ¬checkFails m g j) ∧ ∀ j, j < n → ¬checkFails m f j

/-- The map passes the six checks of R11. -/
def mapValid (m : MapBody) : Prop := ∀ f n, ¬checkFails m f n

/-! ### What an event leaves alone -/

/-- The queue of commands, the phase, the reset registers, the measurement state, the clock and the authority. -/
def keepsSite (s t : State) : Prop :=
  t.pending = s.pending ∧ t.phase = s.phase ∧ t.cause = s.cause ∧ t.restartReady = s.restartReady ∧ t.meas = s.meas
    ∧ t.clock = s.clock ∧ t.holder = s.holder ∧ t.takeKey = s.takeKey

/-- Every port but for its notices and its transmitter, and but for the response slot of `p`; notices are only added
(R162). -/
def keepsPorts (p : Option Port) (s t : State) : Prop :=
  ∀ q, (t.port q).rx = (s.port q).rx ∧ (t.port q).buffer = (s.port q).buffer ∧ (t.port q).mask = (s.port q).mask
    ∧ (s.port q).notices <+: (t.port q).notices ∧ (some q ≠ p → (t.port q).slot = (s.port q).slot)

/-- The map unit, the store, the wind record and the signal configurations. -/
def keepsPlant (s t : State) : Prop :=
  t.map = s.map ∧ t.store = s.store ∧ t.wind = s.wind ∧ ∀ l, (t.sig l).cfg = (s.sig l).cfg

/-- A DUE booking names the crane. -/
def dueForCrane (s : State) (c : Crane) : Prop := ∃ b ∈ s.book.live, b.state = .due ∧ b.crane = c

/-- A DUE booking names the cell. -/
def dueForCell (s : State) (x : CellNo) : Prop := ∃ b ∈ s.book.live, b.state = .due ∧ x ∈ b.cells

/-- The records of the cranes but `except`, apart from the vane fault flag (R91), and the bookings of a crane that a
DUE booking names (R151). -/
def keepsCranes (except : Option Crane) (s t : State) : Prop :=
  ∀ c, some c ≠ except →
    (t.crane c).report = (s.crane c).report ∧ (t.crane c).clamp = (s.crane c).clamp
      ∧ (t.crane c).link = (s.crane c).link ∧ (t.crane c).since = (s.crane c).since
      ∧ (t.crane c).duty = (s.crane c).duty ∧ (t.crane c).parkSw = (s.crane c).parkSw
      ∧ (t.crane c).vaneFb = (s.crane c).vaneFb ∧ (t.crane c).parkSel = (s.crane c).parkSel
      ∧ (t.crane c).vaneSel = (s.crane c).vaneSel
      ∧ (¬dueForCrane s c → (t.crane c).lift = (s.crane c).lift ∧ (t.crane c).due = (s.crane c).due)

/-- The records of the cells but `except` and but those that a DUE booking names (R151). -/
def keepsCells (except : CellNo → Prop) (s t : State) : Prop :=
  ∀ x, ¬except x → ¬dueForCell s x → t.cell x = s.cell x

/-- The bookings but for DUE ones (R151). -/
def keepsBook (s t : State) : Prop :=
  t.book.next = s.book.next ∧ ∀ n b, s.booking n = some b → b.state ≠ .due → t.booking n = some b

/-- The grant is still there; its kind is the same, or BOOKED where the holder's own booking has been admitted (R151).
-/
def stillHeld (t : State) (x : CellNo) (g : Grant) : Prop :=
  ∃ kind, (t.cell x).grant = some ⟨g.holder, kind⟩ ∧ (kind = g.kind ∨ kind = .booked)

/-- Every HELD cell keeps its holder. -/
def keepsHolders (s t : State) : Prop := ∀ x g, (s.cell x).grant = some g → stillHeld t x g

/-- No claim of the booking is left, listed or covered, and it is not the crane's due booking (R64, R152). -/
def claimsGone (t : State) (n : Nat) (c : Crane) : Prop :=
  (t.crane c).due ≠ some n ∧ ∀ x, (t.cell x).covered ≠ some n ∧ ∀ e ∈ (t.cell x).list, isClaimOf n e = false

/-! ### Conditions of the requests that name a crane and a cell -/

/-- A request marked "crane first" names crane `c` at the port (R160): its own on a crane link, the crane of its crane
byte on a supervisor link. -/
def namesCrane (p : Port) (who : Option Nat) (c : Crane) : Prop :=
  match p with
  | .c n => who = none ∧ n = c
  | .s _ => who = some (craneNo c)

/-- Checks 1 and 2 of R65, which R32 and R73 share. -/
def linkAllows (s : State) (p : Port) : Prop := s.authorized p = true ∧ s.noMapLink p = false

/-- Every check of R65 passes. -/
def mayEnter (s : State) (p : Port) (c : Crane) (x : CellNo) : Prop :=
  linkAllows s p ∧ s.declared c = true ∧ s.present x = true ∧ (s.member x c).isSome ∧ s.windBars = false
    ∧ s.isDraining x = false ∧ (s.crane c).link = .live ∧ (s.crane c).duty = .inService ∧ s.holds c x = false
    ∧ hasEntry c (s.cell x).list = false

/-- A notice has joined the queue of a port; at a full queue it is discarded and the overflow flag stands (R162). -/
def told (t : State) (p : Port) (n : Notice) : Prop :=
  n ∈ (t.port p).notices ∨ (16 ≤ (t.port p).notices.length ∧ (t.port p).overflow = true)

/-- Notice WIND of kind CHANGE has gone to link Cn of every declared crane and to the supervisor links whose mask enables
class WIND (R125). -/
def windTold (s t : State) (former new : WindState) (cause : WindCause) (manual ready : Bool) : Prop :=
  let n := Notice.wind .change former new cause manual ready
  (∀ c, s.declared c = true → told t (.c c) n) ∧ ∀ y, (s.port (.s y)).mask.wind = true → told t (.s y) n

/-- Notice BOOKING has gone to link Cn of the booking's crane, and to the supervisor links whose mask enables class
BOOKING or from which the booking came (R130). The port is named for CANCEL and FINISH alone (log entry 20). -/
def bookingTold (s t : State) (b : Booking) (former : Option BookState) (now : BookNow) (by_ : Option Port := none)
    (cells : Option (List CellNo) := none) : Prop :=
  let n := Notice.booking b.number b.crane former now by_ cells
  told t (.c b.crane) n ∧ ∀ y, (s.port (.s y)).mask.booking = true ∨ b.origin = .s y → told t (.s y) n

/-- The admission of a booking within the event has sent notice BOOKING, with the cell list (R151). -/
def admissionTold (s t : State) (b : Booking) : Prop :=
  bookStateOf t b.number = some .admitted → bookingTold s t b (some .due) (.state .admitted) none (some b.cells)

/-- Notice OVERRUN has gone to link Cn of the booking's crane and to the supervisor links of class BOOKING (R154). -/
def overrunTold (s t : State) (b : Booking) : Prop :=
  let n := Notice.overrun b.number b.crane b.start b.duration
  told t (.c b.crane) n ∧ ∀ y, (s.port (.s y)).mask.booking = true → told t (.s y) n

/-- Notice INHIBIT has gone to link Cn of each crane whose set of asserted lines the event has changed (R81). -/
def inhibitsTold (s t : State) : Prop :=
  ∀ c, (t.out c).lines ≠ (s.out c).lines → told t (.c c) (.inhibit c (t.out c).lines (t.out c).src)

/-! ### Claims and recall -/

/-- The booking number and the crane of a claim at the head of a list. -/
def claimAt (l : List Entry) : Option (Nat × Crane) :=
  match l with
  | .claim n c _ :: _ => some (n, c)
  | _ => none

/-- The booking is the one of its number, DUE, and names the cell. -/
def dueNaming (s : State) (x : CellNo) (b : Booking) : Prop :=
  s.booking b.number = some b ∧ b.state = .due ∧ x ∈ b.cells

/-- The claims of a cell, covered or listed, are those of DUE bookings that name it (R63, R64, R148). -/
def cellClaimsDue (s : State) (x : CellNo) : Prop :=
  (∀ n ∈ (s.cell x).covered, ∃ b ∈ s.book.live, dueNaming s x b ∧ b.number = n)
    ∧ ∀ e ∈ (s.cell x).list, isRequest e = true
        ∨ ∃ b ∈ s.book.live, dueNaming s x b ∧ e = .claim b.number b.crane b.start

/-- The cell's recall once it is tested with the grant `g` over the list `l` (R76): one that stood IDLE starts where
the head is the claim of another crane and the kind is not BOOKED, with notice RECALL; any other stays as it stood. -/
def recallTested (s t : State) (x : CellNo) (g : Grant) (l : List Entry) (stood : Recall) : Prop :=
  match claimAt l with
  | some (n, d) =>
    if d ≠ g.holder ∧ g.kind ≠ .booked ∧ stood = .idle then
      (t.cell x).recallState = .running (s.map.params.recallLimit * 1000) ∧ told t (.c g.holder) (.recalled x n d)
        ∧ ∀ y, (s.port (.s y)).mask.zone = true → told t (.s y) (.recalled x n d)
    else (t.cell x).recallState = stood
  | none => (t.cell x).recallState = stood

/-- The conditions of R149 that do not concern the listed cells. -/
def craneReadyFor (s : State) (b : Booking) : Prop :=
  (s.crane b.crane).link = .live ∧ (s.crane b.crane).duty = .inService ∧ (s.crane b.crane).lift = none
    ∧ (s.wind.state = .calm ∨ (s.wind.state = .alert ∧ b.cls = .normal))

/-- The conditions of R149 on a DUE booking, as they stand. -/
def canBeAdmitted (s : State) (b : Booking) : Prop :=
  craneReadyFor s b ∧ ∀ x ∈ b.cells, s.isDraining x = false
    ∧ (s.holds b.crane x = true ∨ ((s.cell x).grant = none ∧ s.othersTouch b.crane x = false))
    ∧ ((s.cell x).covered = some b.number ∨ headClaim b.number (s.cell x).list = true)

/-- No booking that names the cell is left DUE with every condition of its admission met (R150). -/
def noneLeftReady (t : State) (x : CellNo) : Prop :=
  ∀ n b, t.booking n = some b → b.state = .due → x ∈ b.cells → ¬canBeAdmitted t b

/-- The booking of the number was admitted within the event, and the cell is BOOKED to the crane (R151): the claim has
left the list `l`, or is no longer the covered claim `k`, and the recall has ended (R77). -/
def enteredBooked (t : State) (x : CellNo) (n : Nat) (c : Crane) (l : List Entry) (k : Option Nat) : Prop :=
  bookStateOf t n = some .admitted
    ∧ t.cell x = { grant := some ⟨c, .booked⟩, covered := k.filter (· != n), list := withoutClaim n l, recallState := .idle }

/-! ### Releases -/

/-- The list of a cell as a release leaves it: the covered claim of the cell is placed in it (R64). -/
def freedList (s : State) (x : CellNo) : List Entry :=
  match (s.cell x).covered.bind fun n => (s.booking n).map fun b => Entry.claim n b.crane b.start with
  | some e => placeEntry e (s.cell x).list
  | none => (s.cell x).list

/-- The cell is FREE with its list, and its recall has ended (R77). -/
def staysFree (t : State) (x : CellNo) (l : List Entry) : Prop :=
  (t.cell x).grant = none ∧ (t.cell x).list = l ∧ (t.cell x).recallState = .idle

/-- A claim at the head of a FREE cell waits for its admission, or its booking is admitted within the event and the cell
is BOOKED to its crane (R68, R150, R151). -/
def claimWaitsOrEnters (t : State) (x : CellNo) (n : Nat) (d : Crane) (l : List Entry) : Prop :=
  (bookStateOf t n = some .due ∧ staysFree t x l) ∨ enteredBooked t x n d l none

/-- A request of crane `c` at the head of a FREE cell is granted where no bar stands and no other crane touches the cell
(R68). A claim of another crane that so becomes the head starts the recall (R76); the booking of a claim of the same
crane waits, or is admitted within the event (R150, R151). -/
def headServed (s t : State) (x : CellNo) (c : Crane) (k : GrantKind) (e : Entry) (rest : List Entry) : Prop :=
  if s.barred x = false ∧ t.othersTouch c x = false then
    told t (.c c) (.granted c x k)
      ∧ (((t.cell x).grant = some ⟨c, k⟩ ∧ (t.cell x).list = rest ∧ recallTested s t x ⟨c, k⟩ rest .idle)
        ∨ match claimAt rest with
          | some (n, d) => d = c ∧ enteredBooked t x n c rest none
          | none => False)
  else staysFree t x (e :: rest)

/-- A FREE cell whose head has just become `l.head?` (R68): an empty list leaves it FREE, a request is granted where
nothing bars it, a claim waits for its admission or its booking is admitted, and no booking of the cell is left ready.
-/
def newHeadServed (s t : State) (x : CellNo) (l : List Entry) : Prop :=
  match l with
  | [] => staysFree t x []
  | e :: rest =>
    cellClaimsDue s x →
      noneLeftReady t x ∧
        match e with
        | .claim n d _ => claimWaitsOrEnters t x n d (e :: rest)
        | .entry c _ => headServed s t x c .entry e rest
        | .auto c => headServed s t x c .auto e rest

/-- What becomes of a released cell (R64, R68, R76, R77): its recall ends, its covered claim is placed and the head of
the list is served. -/
def freedAndServed (s t : State) (x : CellNo) : Prop :=
  cellClaimsDue s x → (t.cell x).covered = none ∧ newHeadServed s t x (freedList s x)

/-- What becomes of a BOOKED cell that the booking release leaves with its crane as ENTRY (R157): its list and its
covered claim stay, and a claim of another crane at its head starts the recall (R76); or a DUE booking of the crane that
claims the cell, covered or at its head, is admitted on it within the event (R150). -/
def keptAsEntry (s t : State) (x : CellNo) (c : Crane) : Prop :=
  let k := s.cell x
  cellClaimsDue s x →
    noneLeftReady t x
      ∧ (((t.cell x).grant = some ⟨c, .entry⟩ ∧ (t.cell x).list = k.list ∧ (t.cell x).covered = k.covered
          ∧ recallTested s t x ⟨c, .entry⟩ k.list k.recallState)
        ∨ ∃ n ∈ k.covered.toList ++ ((claimAt k.list).map Prod.fst).toList, enteredBooked t x n c k.list k.covered)

/-! ### Entries and claims that leave a list -/

/-- A HELD cell with a new head (R62, R76): it keeps its grant and its covered claim; the recall of an ENTRY or AUTO
grant starts where the new head is the claim of another crane. -/
def heldWithNewHead (s t : State) (x : CellNo) (g : Grant) (l : List Entry) : Prop :=
  (t.cell x).grant = some g ∧ (t.cell x).list = l ∧ (t.cell x).covered = (s.cell x).covered
    ∧ recallTested s t x g l (s.cell x).recallState

/-- No DUE booking can be admitted on a HELD cell with this list (R149): none names the cell, or none is covered there
and the head is no claim of the holder. -/
def noAdmissionOn (s : State) (x : CellNo) (g : Grant) (l : List Entry) : Prop :=
  ¬dueForCell s x
    ∨ (cellClaimsDue s x ∧ (s.cell x).covered = none ∧ ∀ n d u, l.head? = some (.claim n d u) → d ≠ g.holder)

/-- What becomes of a cell whose grant is left alone and whose list entries leave, down to `l` (R62, R68): the holder
and the other requests of a HELD cell stay, and a new head is served. `lost` says that a touch set has lost the cell,
so that the head of a FREE one is served though it stands. -/
def listLeft (s t : State) (x : CellNo) (l : List Entry) (lost : Prop) : Prop :=
  (∀ g, (s.cell x).grant = some g →
    (∃ kind, (t.cell x).grant = some ⟨g.holder, kind⟩) ∧ (t.cell x).list.filter isRequest = l.filter isRequest
      ∧ (noAdmissionOn s x g l →
          (l.head? = (s.cell x).list.head? → t.cell x = { s.cell x with list := l })
            ∧ (l.head? ≠ (s.cell x).list.head? → heldWithNewHead s t x g l)))
  ∧ ((s.cell x).grant = none → (s.cell x).covered = none → (s.cell x).recallState = .idle →
      (l.head? = (s.cell x).list.head? → ¬lost → ¬dueForCell s x → t.cell x = { s.cell x with list := l })
      ∧ (l.head? ≠ (s.cell x).list.head? ∨ lost → newHeadServed s t x l))

/-- What becomes of a cell from whose list the request of a crane has left, with every touch set as it was (R62, R67,
R68): the list closes up, and a new head is served. -/
def requestLeft (s t : State) (x : CellNo) (c : Crane) : Prop :=
  let l := withoutRequest c (s.cell x).list
  (l.head? = (s.cell x).list.head? → t.cell x = { s.cell x with list := l }) ∧ listLeft s t x l False

/-- A list without the claims of the bookings whose numbers are gone. -/
def withoutClaims (gone : Nat → Bool) (l : List Entry) : List Entry :=
  l.filter fun e => match e with
    | .claim n _ _ => !gone n
    | _ => true

/-- The number is that of a DUE booking that satisfies `p`. -/
def dueWhere (s : State) (p : Booking → Bool) (n : Nat) : Bool :=
  (s.booking n).any fun b => b.state == .due && p b

/-- What becomes of a cell from which the claims of the bookings `gone` are withdrawn (R62, R64): the requests and the
other claims stay in their order. A HELD cell keeps its holder, and a recall that a claim gone from the head stood for
ends (R77), to start anew where the new head is the claim of another crane (R76). Of a FREE cell a new head is served
(R68). A DUE booking that is left may be admitted on the cell within the event (R150). -/
def claimsLeft (s t : State) (x : CellNo) (gone : Nat → Bool) : Prop :=
  let k := s.cell x
  let l := withoutClaims gone k.list
  let covered := k.covered.filter fun n => !gone n
  let headGone := l.head? ≠ k.list.head?
  cellClaimsDue s x →
    (headGone → noneLeftReady t x)
    ∧ (∀ g ∈ k.grant,
        ((t.cell x).grant = some g ∧ (t.cell x).list = l ∧ (t.cell x).covered = covered
            ∧ (headGone → recallTested s t x g l .idle) ∧ (¬headGone → (t.cell x).recallState = k.recallState))
          ∨ ∃ n ∈ covered.toList ++ ((claimAt l).map Prod.fst).toList, enteredBooked t x n g.holder l covered)
    ∧ (k.grant = none → covered = none →
        (headGone → newHeadServed s t x l)
        ∧ (¬headGone → t.cell x = { k with list := l, covered := none }
            ∨ match claimAt l with
              | some (n, d) => enteredBooked t x n d l none
              | none => False))

/-! ### Changes of touch set -/

/-- The cell has left the crane's touch set (R54). -/
def leftTouch (s t : State) (c : Crane) (x : CellNo) : Prop := x ∈ touchCells (s.env c) ∧ x ∉ touchCells (t.env c)

/-- An occasion of auto-take (R70): an OPEN cell that has joined the touch set of a LIVE crane IN_SERVICE, or any of
that set where `whole` holds, and which the crane neither holds nor waits for. -/
def triesAutoTake (s t : State) (c : Crane) (whole : Prop) (x : CellNo) : Prop :=
  (∃ d, s.cellDecl x = some d ∧ d.guarded = false) ∧ (t.crane c).link = .live ∧ (t.crane c).duty = .inService
    ∧ x ∈ touchCells (t.env c) ∧ (whole ∨ x ∉ touchCells (s.env c)) ∧ s.holds c x = false
    ∧ hasEntry c (s.cell x).list = false

/-- What auto-take leaves of a cell (R70): the grant where nothing stands against it, an AUTO request at the tail
otherwise. -/
def autoTaken (s t : State) (c : Crane) (x : CellNo) : Prop :=
  if (s.cell x).grant = none ∧ s.barred x = false ∧ (s.cell x).list = [] ∧ t.othersTouch c x = false then
    t.cell x = { s.cell x with grant := some ⟨c, .auto⟩ } ∧ told t (.c c) (.granted c x .auto)
  else t.cell x = { s.cell x with list := (s.cell x).list ++ [.auto c] }

/-- What a change of the crane's touch set leaves of the cells (R54, R68, R70 to R72). Of a cell that has left it an
AUTO grant of the crane is released and served, and an AUTO request of the crane leaves; a cell of the new set that no
DUE booking names is auto-taken on its occasion and left otherwise. -/
def touchServed (s t : State) (c : Crane) (whole : Prop) : Prop :=
  ∀ x, (leftTouch s t c x → (s.cell x).grant = some ⟨c, .auto⟩ → hasEntry c (s.cell x).list = false →
      freedAndServed s t x)
    ∧ (leftTouch s t c x → (s.cell x).grant ≠ some ⟨c, .auto⟩ → listLeft s t x (withoutAuto c (s.cell x).list) True)
    ∧ (¬dueForCell s x → triesAutoTake s t c whole x → autoTaken s t c x)
    ∧ (¬dueForCell s x → ¬triesAutoTake s t c whole x → ¬leftTouch s t c x → t.cell x = s.cell x)

/-! ### The end of a commit -/

/-- What the end of a pending commit leaves of the cells (R18, R68): every HELD cell keeps its holder, and what no DUE
booking names is left, but that the head of a FREE cell whose mark clears is served. -/
def marksCleared (s t : State) : Prop :=
  keepsHolders s t
    ∧ keepsCells (fun x => s.isDraining x = true ∧ (s.cell x).grant = none ∧ (s.cell x).list ≠ []) s t
    ∧ ∀ x e rest, s.isDraining x = true → ¬dueForCell s x → (s.cell x).grant = none → (s.cell x).list = e :: rest →
        let kind := if isAutoEntry e then GrantKind.auto else .entry
        if isRequest e = true ∧ s.windBars = false ∧ s.othersTouch (entryCrane e) x = false then
          (t.cell x).grant = some ⟨entryCrane e, kind⟩ ∧ (t.cell x).list = rest
            ∧ told t (.c (entryCrane e)) (.granted (entryCrane e) x kind)
        else t.cell x = s.cell x

/-- An activation leaves the request in its list (R14, R30, R54, R71): the crane's link does not fall from LIVE, and
the crane of an AUTO request keeps its touch of the cell and, in a differing cell, is a member of it in the new map,
where it is OPEN. -/
def survivesActivation (s t : State) (x : CellNo) (e : Entry) : Bool :=
  let c := entryCrane e
  isRequest e && ((s.crane c).link != .live || (t.crane c).link == .live)
    && (!isAutoEntry e
      || ((!(differing s.map).contains x || (t.cellDecl x).any fun d => !d.guarded && (membership d c).isSome)
        && !(s.touches c x && !t.touches c x)))

/-- The requests `l` stay in the list of the cell in their order, but for a first one whose crane has been granted the
cell (R62, R68). -/
def requestsStay (t : State) (x : CellNo) (l : List Entry) : Prop :=
  l.Sublist (t.cell x).list
    ∨ ∃ e rest, l = e :: rest ∧ t.holds (entryCrane e) x = true ∧ rest.Sublist (t.cell x).list

/-! ### Admission -/

/-- The conditions of R149 on one listed cell, as it stands before the booking becomes DUE and its claims are placed
(R63): the crane holds it, or it is FREE, no other crane touches it, and no request but the crane's own is in its list.
-/
def cellReadyFor (s : State) (b : Booking) (x : CellNo) : Prop :=
  s.isDraining x = false
    ∧ (s.holds b.crane x = true
      ∨ ((s.cell x).grant = none ∧ s.othersTouch b.crane x = false ∧ withoutRequest b.crane (s.cell x).list = []))

/-- The conditions of R149 on a booking that becomes DUE. -/
def readyFor (s : State) (b : Booking) : Prop := craneReadyFor s b ∧ ∀ x ∈ b.cells, cellReadyFor s b x

/-- What an admission leaves (R151): every listed cell is BOOKED to the crane, its claims are gone and its recalls
ended, the booking is the crane's current lift. -/
def admittedNow (t : State) (b : Booking) : Prop :=
  bookStateOf t b.number = some .admitted ∧ (t.crane b.crane).lift = some b.number ∧ (t.crane b.crane).due = none
    ∧ ∀ x ∈ b.cells, (t.cell x).grant = some ⟨b.crane, .booked⟩ ∧ (t.cell x).recallState = .idle
      ∧ (t.cell x).covered ≠ some b.number ∧ ∀ e ∈ (t.cell x).list, isClaimOf b.number e = false

/-- A booking that became DUE and was not admitted (R148, R149): it keeps a claim on every listed cell. -/
def dueNow (t : State) (b : Booking) : Prop :=
  bookStateOf t b.number = some .due ∧ (t.crane b.crane).due = some b.number
    ∧ ∀ x ∈ b.cells, (t.cell x).covered = some b.number ∨ ∃ e ∈ (t.cell x).list, isClaimOf b.number e = true

/-- What a booking's becoming DUE leaves, where no other DUE booking names its crane or its cells, as R135 and R148
have it: it is admitted within the event exactly where it is ready. -/
def dueOrAdmitted (s t : State) (b : Booking) : Prop :=
  ¬dueForCrane s b.crane → (∀ x ∈ b.cells, ¬dueForCell s x ∧ cellClaimsDue s x) →
    (readyFor s b → admittedNow t b) ∧ (¬readyFor s b → dueNow t b)

/-! ### The clock -/

/-- A booking in ADMITTED or LANDING as a judgement at the clock value `now` leaves it (R154). -/
def markedAt (now : Nat) (b : Booking) : Booking :=
  if b.start + b.duration ≤ now then { b with overrun := true } else b

/-- The booking is in the book, DUE, or ADMITTED within the judgement at `now` (R148 to R151). -/
def dueOrAdmittedAt (t : State) (now : Nat) (b : Booking) : Prop :=
  t.booking b.number = some { b with state := .due }
    ∨ t.booking b.number = some (markedAt now { b with state := .admitted })

/-- What a judgement of the book at a clock value that has moved up to `now` leaves of the bookings whose late limit
does not end them (R145, R147). -/
def bookJudgedAt (now : Nat) (s t : State) : Prop :=
  ∀ n b, s.booking n = some b →
    (b.state = .referred → now < b.start + b.late → t.booking n = some b)
      ∧ (b.state = .booked → now < b.start → t.booking n = some b)
      ∧ (b.state = .booked → b.start ≤ now → now < b.start + b.late → dueOrAdmittedAt t now { b with note := none })
      ∧ (b.state = .due → now < b.start + b.late → dueOrAdmittedAt t now b)
      ∧ (b.state = .admitted ∨ b.state = .landing → t.booking n = some (markedAt now b))
      ∧ (b.state = .inspect → t.booking n = some b)

/-! ### Rules over the whole machine -/

/-- The motion lines (R81 to R86): while the part runs, each source asserts the set its rule gives and each crane's
lines are the union of the six; while a reset is taken every line is asserted. -/
def linesCurrent (s : State) : Prop :=
  match s.phase with
  | .running => ∀ c, (s.out c).src = sourceSets s c ∧ (s.out c).lines = unionOf (s.out c).src
  | .resetting => ∀ c, (s.out c).lines = everyMotion
  | .unpowered => True

/-- The vane release lines (R87, R89): once a line has been composed after a reset, it is asserted exactly while the
four conditions of R87 hold. -/
def vaneCurrent (s : State) : Prop :=
  s.phase = .running → ∀ c, (s.out c).composed = true →
    (s.out c).vane = (vaneEligible s c && (jibHeld s c).isEmpty)

/-- One channel within its bounds (R99 to R102). -/
def chanBounded (k : ChanRec) : Prop :=
  k.count ≤ 1023 ∧ k.last.all (· ≤ 1023) ∧ k.speed.all (· ≤ 999) ∧ k.highRun < 4 ∧ k.stuckRun < 120 ∧ k.clearRun < 12

/-- The measurement state within its bounds (R99 to R106). -/
def measBounded (m : Meas) : Prop :=
  chanBounded m.a ∧ chanBounded m.b ∧ m.effective.all (· ≤ 999) ∧ m.ring.length ≤ 12 ∧ (∀ e ∈ m.ring, e ≤ 999)
    ∧ m.gust.all (· ≤ 999) ∧ m.accCount < 60 ∧ m.accSum ≤ 999 * m.accCount ∧ m.meanRing.length ≤ 40
    ∧ (∀ e ∈ m.meanRing, e ≤ 999) ∧ m.mean.all (· ≤ 999)

/-- A receiver in IN_FRAME holds fewer bytes than its frame (R158). -/
def rxBounded : Option (List Byte) → Prop
  | none => True
  | some [] => True
  | some (len :: got) => 1 ≤ len.toNat ∧ len.toNat ≤ 120 ∧ got.length + 1 < len.toNat + 3

/-- A port within its bounds (R158, R161, R162): it sends a response only from its slot and a notice only from its
queue. -/
def portBounded (q : PortRec) : Prop :=
  rxBounded q.rx ∧ q.buffer.length ≤ 2 ∧ q.notices.length ≤ 16 ∧ (q.tx = .response → q.slot.isSome)
    ∧ (q.tx = .notice → q.notices ≠ [])

def portsBounded (s : State) : Prop := ∀ p, portBounded (s.port p)

/-- The lift book (R129, R131, R135, R142): at most 96 live bookings, under numbers that are unique and in range, in
order of start and number, with every late limit inside its window and no two of them in conflict. -/
def bookBounded (k : Book) : Prop :=
  k.live.length ≤ 96 ∧ (k.live.map (·.number)).Nodup ∧ (∀ b ∈ k.live, 1 ≤ b.number ∧ b.number ≤ 65535)
    ∧ 1 ≤ k.next ∧ k.next ≤ 65535 ∧ k.live.Pairwise (fun a b => bookingBefore a b = true)
    ∧ (∀ b ∈ k.live, b.late < b.duration)
    ∧ k.live.Pairwise (fun a b => conflicts a.crane a.cells a.start a.duration b = false)

/-- The crane table names bookings as R23 has it: a current lift is a booking of the crane in ADMITTED, LANDING or
INSPECT, a due booking one in DUE. -/
def liftsUnderWay (s : State) : Prop :=
  ∀ c, (∀ n ∈ (s.crane c).lift, ∃ b ∈ s.booking n, b.crane = c ∧ underWay b.state = true)
    ∧ ∀ n ∈ (s.crane c).due, ∃ b ∈ s.booking n, b.crane = c ∧ b.state = .due

/-- The states of the bookings of a running part suit the clock (R138, R147, R148): a BOOKED booking's start lies
ahead, a DUE one's has come, and the late limit of a REFERRED or DUE one has not. -/
def bookTimely (s : State) : Prop :=
  s.phase = .running → ∀ b ∈ s.book.live,
    (b.state = .booked → s.clock.count < b.start) ∧ (b.state = .due → b.start ≤ s.clock.count)
      ∧ (b.state = .due ∨ b.state = .referred → s.clock.count < b.start + b.late)

/-- Every claim in the cell table is that of a DUE booking that names its cell. -/
def claimsDue (s : State) : Prop := ∀ x, cellClaimsDue s x

/-- The lift book with what the crane table, the cell table and the clock say of it. -/
def bookSound (s : State) : Prop := bookBounded s.book ∧ liftsUnderWay s ∧ claimsDue s ∧ bookTimely s

/-- A signal line is driven as its configuration and the value of its source have it (R92, R94). -/
def sigFollows (k : Sources) (r : SigRec) : Prop :=
  (r.cfg.enabled = false → r.drive = .undriven ∧ r.phase = none)
    ∧ (r.cfg.enabled = true → r.cfg.mode = .level →
        r.drive = (if sourceValue k r.cfg.source then .active else .inactive) ∧ r.phase = none)
    ∧ (r.cfg.enabled = true → r.cfg.mode = .pulse → r.drive = (if r.phase.isSome then .active else .inactive))
    ∧ (r.cfg.enabled = true → r.cfg.mode = .flash →
        if sourceValue k r.cfg.source then r.drive ≠ .undriven ∧ r.phase.isSome = true
        else r.drive = .inactive ∧ r.phase = none)

/-- The signal sources and lines of a running part (R93, R94): each source holds its present value, and each line
follows its source. -/
def signalsCurrent (s : State) : Prop :=
  s.phase = .running → s.sources = sourcesOf s ∧ ∀ l, sigFollows s.sources (s.sig l)

end Sys2Proof.Machine
end

