-- ==== Sys2Proof/Certificates/Slice0/Obligations.lean ====
section
/-! DEFINITION. The statements for the provers. Each names the rule of the spec it speaks of; a statement about every
state speaks of states no run reaches as well. -/

open Sys2Proof Sys2Proof.Machine

/-! ### The machine -/

/-- A step takes the command at the front of the queue and runs it on the rest. -/
def Obligations.StepRunsTheFrontCommand : Prop :=
  ∀ (c : Instr) (rest : List Instr) (s : State),
    step { s with pending := c :: rest } = exec c { s with pending := rest }

/-- The rules over the whole machine hold right after reset, of a part whose store holds nothing (log entry 1). -/
def Obligations.WholeMachineRulesHoldAtReset : Prop :=
  linesCurrent State.reset ∧ vaneCurrent State.reset ∧ measBounded State.reset.meas ∧ portsBounded State.reset
    ∧ bookSound State.reset ∧ signalsCurrent State.reset

/-- R81 to R86: every step leaves each motion line the union of its six sources. R93, R94: every step leaves each
signal source at its present value and each signal line driven as its mode and its source have it. Lines and sources
are composed once for each event (log entry 8). -/
def Obligations.MotionLinesFollowTheirSources : Prop :=
  (∀ s t : State, linesCurrent s → step s = .next t → linesCurrent t)
    ∧ ∀ s t : State, signalsCurrent s → step s = .next t → signalsCurrent t

/-- R87, R89: every step leaves each vane release line, once composed after a reset, asserted exactly while its four
conditions hold. -/
def Obligations.VaneReleaseFollowsItsConditions : Prop :=
  ∀ s t : State, vaneCurrent s → step s = .next t → vaneCurrent t

/-- R99 to R106: every step keeps counts, runs, speeds, rings and the accumulator within their bounds. -/
def Obligations.MeasurementStaysBounded : Prop :=
  ∀ s t : State, measBounded s.meas → step s = .next t → measBounded t.meas

/-- R158, R161, R162: every step keeps each port's receiver, buffer, queue and transmitter within their bounds. -/
def Obligations.PortsStayBounded : Prop :=
  ∀ s t : State, portsBounded s → step s = .next t → portsBounded t

/-- R23, R129, R131, R135, R138, R142, R148: every step keeps at most 96 live bookings, under unique numbers 1..65535,
in order of start and number, no two in conflict; it keeps the bookings that the crane table names in the states R23
gives them, and the state of every booking suited to the clock. -/
def Obligations.BookStaysBounded : Prop :=
  ∀ s t : State, bookSound s → step s = .next t → bookSound t

/-- R69, R149: a step that begins and ends with the wind state STOP or VANE gives no crane a cell it did not hold. -/
def Obligations.NoCellIsGainedUnderStopOrVane : Prop :=
  ∀ s t : State, step s = .next t → s.windBars = true → t.windBars = true →
    ∀ x g, (t.cell x).grant = some g → ∃ g0, (s.cell x).grant = some g0 ∧ g0.holder = g.holder

/-- R82, R83, R84: what the lines of a running part show while they follow their sources. -/
def Obligations.UnsafeCranesAreInhibited : Prop :=
  ∀ (s : State) (c : Crane), s.phase = .running → linesCurrent s →
    (((s.crane c).link ≠ .live ∨ (s.crane c).duty ≠ .inService ∨ s.noMap = true ∨ s.wind.state = .vane) →
      (s.out c).lines = everyMotion)
    ∧ ∀ x m, (x, m) ∈ (s.env c).touch → s.holds c x = false → linesUnion (s.out c).lines m = (s.out c).lines

/-! ### Links and frames (chapter 10) -/

/-- R158 to R160: the body that spells a request at a port is decoded there to that request. -/
def Obligations.RequestBodyDecodesToItsRequest : Prop :=
  ∀ (p : Port) (r : Request), r.wellFormed p = true → decodeFrame p r.kind.code (requestBody r) = .request r

/-- R158, R161: the bytes of a request's frame, received by a hunting receiver, are the request. -/
def Obligations.ReceivedFrameRunsItsRequest : Prop :=
  ∀ (p : Port) (r : Request) (s : State), r.wellFormed p = true → (s.port p).rx = none →
    ∃ t, exec (.frameReceived p (frameBytes r.kind.code (requestBody r))) s = .next t
      ∧ exec (requestRow p r) s = .next t

/-- R158: START_BYTE takes a hunting receiver into IN_FRAME; FRAME_IDLE_TIMEOUT returns a receiver to HUNTING with its
partial frame discarded; a frame whose CRC-16 does not match is discarded silently. -/
def Obligations.ReceiverEntersAndLeavesAFrame : Prop :=
  ∀ (p : Port) (s : State), s.phase = .running →
    (∀ (kind hi lo : Byte) (body : List Byte), (s.port p).rx = none → body.length ≤ 119 →
      [hi, lo] ≠ be16 (crc16 (lowByte (body.length + 1) :: kind :: body)).toNat →
      exec (.frameReceived p (0xA5 :: lowByte (body.length + 1) :: kind :: body ++ [hi, lo])) s = .next s.transmit)
    ∧ ((s.port p).rx = none → exec (.startByte p) s = .next (s.modPort p fun q => { q with rx := some [] }).transmit)
    ∧ exec (.frameIdleTimeout p) s = .next (s.modPort p fun q => { q with rx := none }).transmit

/-- R161: a port that attends takes a request at once; every request but a crane's REPORT puts one response of its kind
in the slot; receivers, buffers and the phase are left. That the frame is taken within the event that completes it is
the model's choice (log entry 2). -/
def Obligations.AttendedRequestIsAnsweredOnce : Prop :=
  ∀ (p : Port) (r : Request) (s : State), attends s p →
    ∃ t, exec (requestRow p r) s = .next t
      ∧ t.pending = s.pending ∧ t.phase = .running ∧ t.cause = s.cause ∧ t.restartReady = false
      ∧ (∀ q, (t.port q).rx = (s.port q).rx ∧ (t.port q).buffer = (s.port q).buffer)
      ∧ ((r.kind ≠ .report ∨ ∃ x, p = .s x) → ∃ o why item, responds t p r.kind o why item)

/-- R161: a frame of a kind the port does not carry is answered BAD_KIND, with kind 80H where it is no request kind. -/
def Obligations.KindsNotCarriedAreAnsweredBadKind : Prop :=
  ∀ (p : Port) (s : State), attends s p →
    (∀ kind body, badKindFits p kind body = true →
      exec (.badKind p kind body) s =
        .next (s.respond p ⟨if 1 ≤ kind.toNat ∧ kind.toNat ≤ 0x3F then kind + 0x80 else 0x80, .refused, some .badKind,
          .nothing⟩).transmit)
    ∧ ∀ r : Request, p.carries r.kind = false → exec (requestRow p r) s = .next (s.refuse p r.kind .badKind).transmit

/-- R163: an authority-only request from the supervisor link that does not hold authority is refused NOT_AUTHORITY and
changes nothing else. That NOT_AUTHORITY comes before a BAD_FIELD or COMMIT_PENDING that fits as well, where a rule
gives its refusals no order (a SETINPUT with a crane, an input or a selection out of range, R40, and the requests of R8
to R10, R85, R92, R108 and R109), is the model's choice (log entry 28). -/
def Obligations.NonHolderIsRefusedAuthority : Prop :=
  ∀ (x : Sup) (r : Request) (s : State), attends s (.s x) → x ≠ s.holder → authorityOnly r.kind = true →
    r.fieldsFit (.s x) = true → exec (requestRow (.s x) r) s = .next (s.refuse (.s x) r.kind .notAuthority).transmit

/-- R161, R162, R166: at a port whose slot is full a frame joins a buffer of fewer than two frames, and is discarded
otherwise. Once a response has been sent it leaves its slot, and the port takes the oldest frame of its buffer; the OK
of a RESTART makes its reset ready; a notice that has been sent leaves its queue. That a frame is taken within the
event that frees its port, and none between a RESTART's response and its reset, is the model's choice (log entries 2
and 21). -/
def Obligations.FramesWaitAndSentFramesLeaveThePort : Prop :=
  ∀ (p : Port) (s : State), s.phase = .running →
    (∀ r : Request, (s.port p).slot.isSome →
      exec (requestRow p r) s =
        .next (s.modPort p fun q =>
          if q.buffer.length < 2 then { q with buffer := q.buffer ++ [.request r] } else q).transmit)
    ∧ ((s.port p).tx = .response → restartAnswered (s.port p) = false → s.restartReady = false → (s.port p).buffer = [] →
      exec (.responseSent p) s = .next (s.modPort p fun q => { q with slot := none, tx := .free }).transmit)
    ∧ (∀ r : Request, (s.port p).tx = .response → restartAnswered (s.port p) = false → s.restartReady = false →
        (s.port p).buffer = [.request r] → (r.kind ≠ .report ∨ ∃ x, p = .s x) →
        exec (.responseSent p) s =
          .next (perform p r (s.modPort p fun q => { q with slot := none, tx := .free, buffer := [] })).transmit)
    ∧ ((s.port p).tx = .response → restartAnswered (s.port p) = true →
        exec (.responseSent p) s =
          .next { s.modPort p fun q => { q with slot := none, tx := .free } with restartReady := true }.transmit)
    ∧ ((s.port p).tx = .notice →
        exec (.noticeSent p) s = .next (s.modPort p fun q => { q with notices := q.notices.tail, tx := .free }).transmit)

/-- R40, R162, R163, R166: NOTICE_MASK replaces the port's mask; TAKE and HANDOVER move the authority, with notice
AUTHORITY to both supervisor links; TAKE_KEY_TAKEN takes the level of the key; RESTART is answered OK; SETINPUT puts an
edge selection in a crane's record. -/
def Obligations.MasksAuthorityKeyAndEdgeSelections : Prop :=
  (∀ (level : Bool) (s : State), s.phase = .running →
    exec (.takeKeyTaken level) s =
      .next { s with takeKey := if level then .asserted else .notAsserted }.transmit)
  ∧ ∀ (x : Sup) (s : State), attends s (.s x) →
    let told := fun (y : Sup) (m : AuthorityMove) =>
      (({ s with holder := y }).notify (.s .s1) (.authority y m)).notify (.s .s2) (.authority y m)
    (∀ m, exec (.noticeMask (.s x) m) s =
        .next ((s.modPort (.s x) fun q => { q with mask := m }).answer (.s x) .noticeMask (.mask m)).transmit)
    ∧ (x = s.holder → exec (.take (.s x)) s = .next (s.answer (.s x) .take .unchanged).transmit)
    ∧ (x ≠ s.holder → s.takeKey = .asserted →
        exec (.take (.s x)) s = .next ((told x .take).answer (.s x) .take .nothing).transmit)
    ∧ (x ≠ s.holder → s.takeKey ≠ .asserted → exec (.take (.s x)) s = .next (s.refuse (.s x) .take .key).transmit)
    ∧ (x = s.holder →
        exec (.handover (.s x)) s =
          .next ((told (otherSup x) .handover).answer (.s x) .handover .nothing).transmit)
    ∧ (x = s.holder → exec (.restart (.s x)) s = .next (s.answer (.s x) .restart .nothing).transmit)
    ∧ (∀ (c : Crane) (n : Nat) (e : EdgeSel), x = s.holder → edgeSelOf n = some e →
        exec (.setInput (.s x) (craneNo c) 0 n) s =
            .next ((s.modCrane c fun k => { k with parkSel := e }).answer (.s x) .setInput .nothing).transmit
        ∧ exec (.setInput (.s x) (craneNo c) 1 n) s =
            .next ((s.modCrane c fun k => { k with vaneSel := e }).answer (.s x) .setInput .nothing).transmit)
    ∧ (∀ n i e : Nat, x = s.holder → (n < 1 ∨ 8 < n ∨ 1 < i ∨ 3 < e) →
        exec (.setInput (.s x) n i e) s = .next (s.refuse (.s x) .setInput .badField).transmit)

/-- R164, R162: STATUS changes nothing but the overflow flag of its port, which its response carries and clears;
targets out of range, and a crane that a crane link may not ask for, are refused BAD_FIELD, and a booking the port does
not see NO_BOOKING. That a refused STATUS leaves the flag, and that the number of a SITE, WIND or
BOOK_LIST STATUS is ignored, is the model's choice (log entries 17 and 34). -/
def Obligations.StatusOnlyReads : Prop :=
  ∀ (p : Port) (target n : Nat) (s : State), attends s p →
    (∀ items, statusItems s p target n = .ok items →
      exec (.status p target n) s =
        .next ((s.modPort p fun q => { q with overflow := false }).answer p .status
          (.status (s.port p).overflow items)).transmit)
    ∧ (target > 5 ∨ (target = 1 ∧ (n < 1 ∨ 8 < n)) ∨ (target = 2 ∧ (n < 1 ∨ 64 < n))
          ∨ (target = 1 ∧ ∃ c, p = .c c ∧ n ≠ craneNo c) →
        exec (.status p target n) s = .next (s.refuse p .status .badField).transmit)
    ∧ (target = 3 → (∀ b, s.booking n = some b → ∃ c, p = .c c ∧ b.crane ≠ c) →
        exec (.status p target n) s = .next (s.refuse p .status .noBooking).transmit)
    ∧ (target = 0 ∨ target = 4 ∨ target = 5 ∨ (target = 2 ∧ 1 ≤ n ∧ n ≤ 64)
          ∨ (target = 1 ∧ 1 ≤ n ∧ n ≤ 8 ∧ ∀ c, p = .c c → n = craneNo c) →
        ∃ t o items, exec (.status p target n) s = .next t ∧ responds t p .status .ok none (.status o items))

/-! ### The site map (chapter 1) -/

/-- R7: STAGE_CLEAR and STAGE_COPY. -/
def Obligations.StageClearAndCopyReplaceTheStagedMap : Prop :=
  ∀ (x : Sup) (s : State), attends s (.s x) → x = s.holder → s.map.commit = .idle →
    (exec (.stageClear (.s x)) s =
      .next ((s.setMap { s.map with staged := MapBody.empty, stagedParams := SiteParams.default }).answer (.s x)
        .stageClear (.stagedCounts 0 0)).transmit)
    ∧ (∀ m, s.map.active = some m →
        exec (.stageCopy (.s x)) s =
          .next ((s.setMap { s.map with staged := m, stagedParams := s.map.params }).answer (.s x) .stageCopy
            (.stagedCounts (allCranes.filter fun c => (m.decls[c]).isSome).length
              (allCells.filter fun k => (m.cells[k]).isSome).length)).transmit)
    ∧ (s.map.active = none →
        exec (.stageCopy (.s x)) s =
          .next ((s.setMap { s.map with staged := MapBody.empty, stagedParams := s.map.params }).answer (.s x)
            .stageCopy (.stagedCounts 0 0)).transmit)

/-- R6, R8, R9: STAGE_CRANE, STAGE_CELL and STAGE_REMOVE_CELL put and remove single records of the staged map, whatever
their fields; cells n to n + k − 1 take the records of a STAGE_CELL in order. A crane or cell number, a record count or
a role out of range is refused BAD_FIELD. While a commit is pending every staging request is refused COMMIT_PENDING. -/
def Obligations.StagingPutsAndRemovesRecords : Prop :=
  ∀ (x : Sup) (s : State), attends s (.s x) → x = s.holder →
    (∀ left n d recs v, s.map.commit = .pending left →
      ∀ i k, (i, k) ∈ [(Instr.stageClear (.s x), ReqKind.stageClear), (.stageCopy (.s x), .stageCopy),
          (.stageCrane (.s x) n d, .stageCrane), (.stageCell (.s x) n recs, .stageCell),
          (.stageRemoveCell (.s x) n, .stageRemoveCell), (.stageSite (.s x) v, .stageSite)] →
        exec i s = .next (s.refuse (.s x) k .commitPending).transmit)
    ∧ (s.map.commit = .idle →
    (∀ n d, n < 1 ∨ 8 < n → exec (.stageCrane (.s x) n d) s = .next (s.refuse (.s x) .stageCrane .badField).transmit)
    ∧ (∀ n, n < 1 ∨ 64 < n →
        exec (.stageRemoveCell (.s x) n) s = .next (s.refuse (.s x) .stageRemoveCell .badField).transmit)
    ∧ (∀ (n : Nat) (recs : List RawRecord),
        n < 1 ∨ 64 < n ∨ recs.length < 1 ∨ 4 < recs.length ∨ 65 < n + recs.length
          ∨ (∃ r ∈ recs, ∃ m ∈ r.members, 1 < m.role) →
        exec (.stageCell (.s x) n recs) s = .next (s.refuse (.s x) .stageCell .badField).transmit)
    ∧ (∀ (c : Crane) (d : Option Decl),
      exec (.stageCrane (.s x) (craneNo c) d) s =
        .next ((s.setMap { s.map with staged := { s.map.staged with decls := s.map.staged.decls.set c d } }).answer
          (.s x) .stageCrane .nothing).transmit)
    ∧ (∀ k : CellNo,
        exec (.stageRemoveCell (.s x) (cellNo k)) s =
          .next ((s.setMap { s.map with staged := { s.map.staged with cells := s.map.staged.cells.set k none } }).answer
            (.s x) .stageRemoveCell .nothing).transmit)
    ∧ (∀ (k : CellNo) (recs : List RawRecord) (ds : List CellDecl), 1 ≤ recs.length → recs.length ≤ 4 →
        cellNo k + recs.length ≤ 65 → recordsStored recs = some ds →
        ∃ t, exec (.stageCell (.s x) (cellNo k) recs) s = .next t ∧ responds t (.s x) .stageCell .ok none .nothing
          ∧ t.map.staged.decls = s.map.staged.decls ∧ t.map.active = s.map.active ∧ t.map.params = s.map.params
          ∧ t.map.stagedParams = s.map.stagedParams ∧ t.map.commit = .idle ∧ t.map.draining = s.map.draining
          ∧ (∀ j : CellNo, t.map.staged.cells[j] =
              if cellNo k ≤ cellNo j ∧ cellNo j < cellNo k + recs.length then ds[cellNo j - cellNo k]?
              else s.map.staged.cells[j])
          ∧ t.cells = s.cells ∧ t.cranes = s.cranes ∧ t.envs = s.envs ∧ t.outs = s.outs ∧ t.sigs = s.sigs
          ∧ t.wind = s.wind ∧ t.book = s.book ∧ t.store = s.store ∧ keepsSite s t ∧ keepsPorts (some (.s x)) s t))

/-- R10: STAGE_SITE replaces the staged site parameters where every one is in its range of R5, and is refused BAD_FIELD
otherwise, with the staged parameters unchanged. -/
def Obligations.StageSiteIsRangeCheckedWhenStaged : Prop :=
  ∀ (x : Sup) (v : RawParams) (s : State), attends s (.s x) → x = s.holder → s.map.commit = .idle →
    let inRange := 200 ≤ v.silence ∧ v.silence ≤ 3000 ∧ v.silence % 10 = 0 ∧ 2 ≤ v.lost ∧ v.lost ≤ 60
      ∧ 5 ≤ v.enterWait ∧ v.enterWait ≤ 255 ∧ 10 ≤ v.recallLimit ∧ v.recallLimit ≤ 600 ∧ 60 ≤ v.parkTimeout
      ∧ v.parkTimeout ≤ 1800 ∧ 30 ≤ v.commitWait ∧ v.commitWait ≤ 1800 ∧ v.endHold ≤ 2 ∧ v.holdoff ≤ 1
    (inRange →
      exec (.stageSite (.s x) v) s =
        .next ((s.setMap
          { s.map with stagedParams :=
            { silence := v.silence, lost := v.lost, enterWait := v.enterWait, recallLimit := v.recallLimit,
              parkTimeout := v.parkTimeout, commitWait := v.commitWait,
              endHold := if v.endHold = 0 then .none else if v.endHold = 1 then .heavy else .all,
              holdoff := v.holdoff == 1 } }).answer (.s x) .stageSite .nothing).transmit)
    ∧ (¬inRange → exec (.stageSite (.s x) v) s = .next (s.refuse (.s x) .stageSite .badField).transmit)

/-- R12: a cell has a vane conflict exactly in the two cases of the rule. -/
def Obligations.VaneConflictIsTheRuleOfTwoReleasedCranes : Prop :=
  ∀ (m : MapBody) (d : CellDecl),
    let permits := fun k : Member => ∃ e, declOfNumber m k.crane = some e ∧ e.vanePermit = 1
    vaneConflict m d = true ↔
      (∃ (i j : Nat) (a b : Member), i < j ∧ d.members[i]? = some a ∧ d.members[j]? = some b ∧ permits a ∧ permits b
          ∧ a.role = .jib ∧ b.role = .jib)
      ∨ (∃ a ∈ d.members, ∃ b ∈ d.members, permits a ∧ a.role = .jib ∧ ∃ lo hi clearance e, b.role = .line lo hi clearance
          ∧ declOfNumber m b.crane = some e ∧ e.vanePermit = 1 ∧ lo ≤ e.park ∧ e.park ≤ hi)

/-- R11, R13: a COMMIT while a commit is pending is refused COMMIT_PENDING; a COMMIT of a staged map that fails a check
is refused MAP_INVALID with the first failure: the first of the six checks that fails anywhere, at the lowest crane or
cell number at which it fails (`failsFirst`, `checkFails`). One that passes them all while a differing cell is in use
becomes pending, marks the differing cells DRAINING and starts the commit wait. -/
def Obligations.CommitIsRefusedOrBecomesPending : Prop :=
  ∀ (x : Sup) (s : State), attends s (.s x) → x = s.holder →
    (∀ left, s.map.commit = .pending left →
      exec (.commit (.s x)) s = .next (s.refuse (.s x) .commit .commitPending).transmit)
    ∧ (s.map.commit = .idle →
    (∀ f n, failsFirst s.map.staged f n →
      exec (.commit (.s x)) s = .next (s.refuse (.s x) .commit .mapInvalid (.mapInvalid f n)).transmit)
    ∧ (mapValid s.map.staged → drained s (differing s.map) = false →
        exec (.commit (.s x)) s =
          .next (((s.setMap
            { s.map with commit := .pending (s.map.params.commitWait * 1000),
                         draining := Vector.ofFn fun k => (differing s.map).contains k }).notifyClass .site
              (.mapDraining (differing s.map))).answer (.s x) .commit
                (.commitPending (differing s.map).length)).transmit))

/-- R13 to R15, R19: a COMMIT that finds every differing cell empty activates the staged map at once. The bookings of a
removed crane, and those naming a removed cell or a changed cell of which their crane is no longer a member, are
cancelled; the others stay. The touch set of every declared crane is brought to the new map: a LIVE or STALE crane
keeps the cells of its report set of which it is still a member, a STALE one with every differing cell that has it as a
member (the link is that after R31's comparison, log entry 26). Every HELD cell keeps its holder, but for an AUTO grant
on a cell that its crane's touch set has left; AUTO requests leave a changed cell that is GUARDED in the new map or of
which their crane is no longer a member; the other requests stay in their order, unless their crane's link falls or an
AUTO one loses its touch, and a first one may be granted; the claims of the bookings that stay, stay until admitted.
What of the AUTO requests that step 1 of R14 removes a crane is told whose link then falls is the model's choice (log
entry 39) and not stated. -/
def Obligations.CommitActivatesTheStagedMap : Prop :=
  ∀ (x : Sup) (s : State), attends s (.s x) → x = s.holder → s.map.commit = .idle → mapValid s.map.staged →
    drained s (differing s.map) = true →
    ∃ t, exec (.commit (.s x)) s = .next t
      ∧ responds t (.s x) .commit .ok none (.committed (differing s.map).length)
      ∧ t.map = { active := some s.map.staged, params := s.map.stagedParams, staged := s.map.staged,
                  stagedParams := s.map.stagedParams, commit := .idle, draining := Vector.replicate 64 false }
      ∧ t.store = beginWrite (beginWrite s.store (.map s.map.staged)) (.options s.map.stagedParams)
      ∧ (∀ k, (cellIn s.map.active k).isSome → (s.map.staged.cells[k]).isNone → t.cell k = CellRec.reset)
      ∧ (∀ c, s.declared c = true → (s.map.staged.decls[c]).isNone → t.crane c = CraneRec.reset)
      ∧ (let cancelled : Booking → Prop := fun b => (s.map.staged.decls[b.crane]).isNone
            ∨ ∃ k ∈ b.cells, k ∈ differing s.map ∧ (cellIn s.map.active k).isSome
                ∧ memberIn (some s.map.staged) k b.crane = none;
          (∀ n b, s.booking n = some b → cancelled b → t.booking n = none)
          ∧ (∀ k n c u, Entry.claim n c u ∈ (s.cell k).list → (∀ d ∈ s.book.live, d.number = n → ¬cancelled d) →
              Entry.claim n c u ∈ (t.cell k).list ∨ bookStateOf t n = some .admitted)
          ∧ (∀ n b, s.booking n = some b → b.state ≠ .due → (∀ d ∈ s.book.live, d.number = n → ¬cancelled d) →
              t.booking n = some b))
      ∧ (∀ c, t.declared c = false → touchCells (t.env c) = [])
      ∧ (∀ c, t.declared c = true →
          let kept := (s.env c).reportSet.map fun old => allCells.filter fun k =>
            (memberIn (some s.map.staged) k c).isSome
              && (old.contains k || ((t.crane c).link == .stale && (differing s.map).contains k))
          if (t.crane c).duty = .outOfService then touchCells (t.env c) = oosSet (some s.map.staged) c
          else if (t.crane c).link = .live ∨ (t.crane c).link = .stale then
            (t.env c).reportSet = kept ∧ touchCells (t.env c) = kept.getD []
          else touchCells (t.env c) = memberCells (some s.map.staged) c)
      ∧ (∀ k g, (s.cell k).grant = some g → ¬(g.kind = .auto ∧ leftTouch s t g.holder k) → stillHeld t k g)
      ∧ (∀ k d c, k ∈ differing s.map → (cellIn s.map.active k).isSome → s.map.staged.cells[k] = some d →
          d.guarded = true ∨ membership d c = none → Entry.auto c ∉ (t.cell k).list)
      ∧ (∀ k, requestsStay t k ((s.cell k).list.filter (survivesActivation s t k)))
      ∧ keepsSite s t ∧ keepsPorts (some (.s x)) s t

/-- R18, R68: COMMIT_CANCEL and the expiry of the commit wait abandon a pending commit: every mark clears, both maps
stay, every HELD cell keeps its holder, and the head of a FREE cell whose mark clears is served (`marksCleared`). The
expiry is taken where the timer has nothing left (log entry 5). -/
def Obligations.PendingCommitIsAbandoned : Prop :=
  ∀ s : State,
    (∀ x left, attends s (.s x) → x = s.holder → s.map.commit = .pending left →
      ∃ t, exec (.commitCancel (.s x)) s = .next t ∧ responds t (.s x) .commitCancel .ok none .nothing
        ∧ t.map = { s.map with commit := .idle, draining := Vector.replicate 64 false }
        ∧ t.store = s.store ∧ t.wind = s.wind ∧ t.envs = s.envs ∧ keepsSite s t ∧ keepsPorts (some (.s x)) s t
        ∧ keepsCranes none s t ∧ keepsBook s t ∧ marksCleared s t)
    ∧ (∀ x, attends s (.s x) → x = s.holder → s.map.commit = .idle →
        exec (.commitCancel (.s x)) s = .next (s.refuse (.s x) .commitCancel .noCommit).transmit)
    ∧ (s.phase = .running → s.map.commit = .pending 0 →
        ∃ t, exec .commitExpired s = .next t
          ∧ t.map = { s.map with commit := .idle, draining := Vector.replicate 64 false }
          ∧ t.store = s.store ∧ t.wind = s.wind ∧ t.envs = s.envs ∧ keepsSite s t ∧ keepsPorts none s t
          ∧ keepsCranes none s t ∧ keepsBook s t ∧ marksCleared s t)

/-! ### Cranes, reports and duty (chapter 2) -/

/-- R25 to R28, R44, R51, R54, R68, R70 to R72: an accepted REPORT is clamped and stored, makes the link LIVE and
reforms the envelope and the touch set. OPEN cells that join the touch set, or all of it where the link has become
LIVE, are auto-taken; AUTO grants and AUTO requests of cells that leave it go (`touchServed`). A REPORT of a crane that
is not declared is ignored. That the GRANTED of an auto-take carries the cell and the kind is the model's choice (log
entry 38). -/
def Obligations.ReportIsStoredAndFormsTheTouchSet : Prop :=
  ∀ (c : Crane) (r : RawReport) (s : State), attends s (.c c) →
    (s.declared c = false → exec (.report (.c c) r) s = .next s.transmit)
    ∧ ∀ d, s.decl c = some d → s.map.commit = .idle →
        ∃ t, exec (.report (.c c) r) s = .next t
          ∧ (t.crane c).report = some (clampedReport d r) ∧ (t.crane c).clamp = clampFlagsOf d r
          ∧ (t.crane c).since = some 0 ∧ (t.crane c).link = .live
          ∧ (t.crane c).duty = (s.crane c).duty ∧ (t.crane c).parkSw = (s.crane c).parkSw
          ∧ (t.crane c).vaneFb = (s.crane c).vaneFb
          ∧ (t.env c).env = some (envelopeOf d (clampedReport d r) s.gustNow)
          ∧ (t.env c).reportSet =
              some (reportSetOf s.map.active c (envelopeOf d (clampedReport d r) s.gustNow) (clampedReport d r))
          ∧ some (touchCells (t.env c)) =
              (if (s.crane c).duty = .outOfService then some (oosSet s.map.active c) else (t.env c).reportSet)
          ∧ touchServed s t c ((s.crane c).link ≠ .live)
          ∧ (∀ e, e ≠ c → t.env e = s.env e)
          ∧ keepsSite s t ∧ keepsPorts none s t ∧ keepsPlant s t ∧ keepsCranes (some c) s t ∧ keepsBook s t
          ∧ keepsCells (fun x => x ∈ touchCells (s.env c) ∨ x ∈ touchCells (t.env c)) s t

/-- R26: what is stored of each field, and the four clamp flags. -/
def Obligations.ReportFieldsAreBroughtIntoRange : Prop :=
  ∀ (d : Decl) (r : RawReport),
    let k := clampedReport d r
    let f := clampFlagsOf d r
    k.theta < 4096 ∧ k.theta % 4096 = r.theta % 4096
    ∧ (-255 ≤ k.omega ∧ k.omega ≤ 255 ∧ (-255 ≤ r.omega ∧ r.omega ≤ 255 → k.omega = r.omega))
    ∧ (r.omega < -255 → k.omega = -255) ∧ (255 < r.omega → k.omega = 255)
    ∧ (-40 ≤ k.v ∧ k.v ≤ 40 ∧ (-40 ≤ r.v ∧ r.v ≤ 40 → k.v = r.v)) ∧ (r.v < -40 → k.v = -40) ∧ (40 < r.v → k.v = 40)
    ∧ k.r ≤ d.jib ∧ (r.r ≤ d.jib → k.r = r.r) ∧ (d.jib < r.r → k.r = d.jib)
    ∧ k.h ≤ d.hookMax ∧ (r.h ≤ d.hookMax → k.h = r.h) ∧ (d.hookMax < r.h → k.h = d.hookMax)
    ∧ (f.omega = true ↔ k.omega ≠ r.omega) ∧ (f.v = true ↔ k.v ≠ r.v) ∧ (f.r = true ↔ k.r ≠ r.r)
    ∧ (f.h = true ↔ k.h ≠ r.h)

/-- R33 to R36, R53, R54, R68, R70 to R72, R75: SERVICE, PARK and OOS past their conditions change the duty of the
crane they concern and hand it on: the touch set is formed for the new duty. At SERVICE every OPEN cell that the LIVE
crane touches is auto-taken, and AUTO grants and requests go with their touch (`touchServed`). A crane that becomes
PARKED or OUT_OF_SERVICE keeps the cells it still touches and its BOOKED cells, loses every other one, which is served,
and has no request left; a list with a new head is served (`listLeft`). Notice DUTY is sent.
That the GRANTED of an auto-take carries the cell and the kind is the model's choice (log entry 38). -/
def Obligations.DutyRequestsChangeTheDuty : Prop :=
  ∀ (p : Port) (w : Option Nat) (c : Crane) (s : State), attends s p → namesCrane p w c → linkAllows s p →
    s.declared c = true → s.map.commit = .idle →
    let moves := fun (i : Instr) (k : ReqKind) (d : Duty) =>
      ∃ t, exec i s = .next t ∧ responds t p k .ok none (.duty d) ∧ (t.crane c).duty = d
        ∧ (t.env c).reportSet =
            (match (s.crane c).link, s.decl c, (s.crane c).report with
              | .live, some g, some r => some (reportSetOf s.map.active c (envelopeOf g r s.gustNow) r)
              | _, _, _ => (s.env c).reportSet)
        ∧ touchCells (t.env c) =
            (if d = .outOfService then oosSet s.map.active c
              else if (s.crane c).link = .live ∨ (s.crane c).link = .stale then (t.env c).reportSet.getD []
              else memberCells s.map.active c)
        ∧ (d ≠ .inService → ∀ x, requestOf c (t.cell x).list = none
            ∧ (t.holds c x = true ↔ s.holds c x = true
                ∧ ((s.cell x).grant = some ⟨c, .booked⟩ ∨ x ∈ touchCells (t.env c))
                ∧ ¬((s.cell x).grant = some ⟨c, .auto⟩ ∧ x ∈ touchCells (s.env c) ∧ x ∉ touchCells (t.env c))))
        ∧ (d = .inService → touchServed s t c True)
        ∧ (d ≠ .inService → ∀ x,
            (s.holds c x = true → t.holds c x = false → hasEntry c (s.cell x).list = false → freedAndServed s t x)
            ∧ ((s.holds c x = true → t.holds c x = true) →
                listLeft s t x (withoutRequest c (s.cell x).list) (leftTouch s t c x)))
        ∧ told t (.c c) (.duty c (s.crane c).duty d p)
        ∧ (t.crane c).report = (s.crane c).report ∧ (t.crane c).clamp = (s.crane c).clamp
        ∧ (t.crane c).link = (s.crane c).link ∧ (t.crane c).since = (s.crane c).since
        ∧ (t.crane c).parkSw = (s.crane c).parkSw ∧ (t.crane c).vaneFb = (s.crane c).vaneFb
        ∧ (∀ e, e ≠ c → t.env e = s.env e) ∧ t.map = s.map ∧ t.store = s.store
        ∧ keepsSite s t ∧ keepsPorts (some p) s t ∧ keepsCranes (some c) s t ∧ keepsBook s t
    ((s.crane c).duty ≠ .inService → s.wind.state ≠ .vane → (s.crane c).vaneFb ≠ .asserted →
      moves (.service p w) .service .inService)
    ∧ ((s.crane c).duty ≠ .parked → (s.crane c).duty ≠ .outOfService → (s.crane c).parkSw = .asserted →
        s.liftInProgress c = false → moves (.park p w) .park .parked)
    ∧ ((s.crane c).duty ≠ .outOfService → (s.crane c).parkSw = .asserted → s.liftInProgress c = false →
        moves (.oos p w) .oos .outOfService)

/-- R32 to R35: the refusals of SERVICE, PARK and OOS in their order, a crane number outside 1..8 on a supervisor link
among them, and UNCHANGED for a crane already in the duty asked for; none changes anything. -/
def Obligations.DutyRequestsAreRefusedInOrder : Prop :=
  ∀ (p : Port) (w : Option Nat) (c : Crane) (s : State), attends s p → namesCrane p w c →
    let refused := fun (i : Instr) (k : ReqKind) (why : Reason) => exec i s = .next (s.refuse p k why).transmit
    (∀ i k d, (i, k, d) ∈ [(Instr.service p w, ReqKind.service, Duty.inService), (.park p w, .park, .parked),
        (.oos p w, .oos, .outOfService)] →
      (s.authorized p = false → refused i k .notAuthority)
      ∧ (s.authorized p = true → s.noMapLink p = true → refused i k .noMap)
      ∧ (linkAllows s p → s.declared c = false → refused i k .noCrane)
      ∧ (linkAllows s p → s.declared c = true → (s.crane c).duty = d →
          exec i s = .next (s.answer p k .unchanged).transmit))
    ∧ (∀ y n, p = .s y → linkAllows s p → n < 1 ∨ 8 < n →
        refused (.service p (some n)) .service .badField ∧ refused (.park p (some n)) .park .badField
          ∧ refused (.oos p (some n)) .oos .badField)
    ∧ (linkAllows s p → s.declared c = true →
        ((s.crane c).duty ≠ .inService → s.wind.state = .vane → refused (.service p w) .service .wind)
        ∧ ((s.crane c).duty ≠ .inService → s.wind.state ≠ .vane → (s.crane c).vaneFb = .asserted →
            refused (.service p w) .service .brake)
        ∧ ((s.crane c).duty = .outOfService → refused (.park p w) .park .duty)
        ∧ ((s.crane c).duty ≠ .outOfService → (s.crane c).duty ≠ .parked → (s.crane c).parkSw ≠ .asserted →
            refused (.park p w) .park .notParked)
        ∧ ((s.crane c).duty ≠ .outOfService → (s.crane c).duty ≠ .parked → (s.crane c).parkSw = .asserted →
            s.liftInProgress c = true → refused (.park p w) .park .inProgress)
        ∧ ((s.crane c).duty ≠ .outOfService → (s.crane c).parkSw ≠ .asserted → refused (.oos p w) .oos .notParked)
        ∧ ((s.crane c).duty ≠ .outOfService → (s.crane c).parkSw = .asserted → s.liftInProgress c = true →
            refused (.oos p w) .oos .inProgress))

/-- R29, R30, R52, R59, R68, R72, R74: the silence limit of a LIVE link and the lost limit of a STALE link run out,
each where the time since last report has reached it (log entry 5). The crane keeps its grants (but an AUTO grant on a
cell that has left its touch set, R72), its covered claims and its listed claims; its touch set stays its report set at
STALE and becomes every member cell at LOST, unless it is OUT_OF_SERVICE. Its requests leave every list, and a list
with a new head is served; every other grant and entry stays (`listLeft`). Notice LINK goes to the supervisors of class
CRANE, WITHDRAWN reason LINK to the crane for each request but an AUTO one that has left with its touch (R71), and
INHIBIT to each crane whose lines change. That WITHDRAWN carries the cell, the reason and the kind, in that order, is
the model's choice in part (log entry 38). -/
def Obligations.SilentLinksFallToStaleAndLost : Prop :=
  ∀ (c : Crane) (s : State), s.phase = .running → s.map.commit = .idle →
    let falls := fun (i : Instr) (l : LinkState) =>
      ∃ t, exec i s = .next t ∧ (t.crane c).link = l ∧ (t.out c).lines = everyMotion
        ∧ (∀ x, requestOf c (t.cell x).list = none)
        ∧ (∀ x k, (s.cell x).grant = some ⟨c, k⟩ → ¬(k = .auto ∧ leftTouch s t c x) →
            (t.cell x).grant = some ⟨c, k⟩ ∧ (t.cell x).covered = (s.cell x).covered)
        ∧ (∀ x n u b, Entry.claim n c u ∈ (s.cell x).list → s.booking n = some b → b.crane = c →
            Entry.claim n c u ∈ (t.cell x).list)
        ∧ (∀ x, ¬((s.cell x).grant = some ⟨c, .auto⟩ ∧ leftTouch s t c x) →
            listLeft s t x (withoutRequest c (s.cell x).list) (leftTouch s t c x))
        ∧ touchCells (t.env c) =
            (if s.declared c = false then []
              else if (s.crane c).duty = .outOfService then oosSet s.map.active c
              else if l = .stale then (s.env c).reportSet.getD []
              else memberCells s.map.active c)
        ∧ (t.crane c).report = (s.crane c).report ∧ (t.crane c).since = (s.crane c).since
        ∧ (t.crane c).duty = (s.crane c).duty ∧ (t.env c).reportSet = (s.env c).reportSet
        ∧ (∀ e, e ≠ c → t.env e = s.env e)
        ∧ (∀ y, (s.port (.s y)).mask.crane = true → told t (.s y) (.link c (s.crane c).link l))
        ∧ (∀ x e, requestOf c (s.cell x).list = some e → ¬(isAutoEntry e = true ∧ leftTouch s t c x) →
            told t (.c c) (.withdrawn c x (entryKind e) .link))
        ∧ inhibitsTold s t
        ∧ keepsSite s t ∧ keepsPorts none s t ∧ keepsPlant s t ∧ keepsCranes (some c) s t ∧ keepsBook s t
    (∀ ms, (s.crane c).link = .live → (s.crane c).since = some ms → s.map.params.silence ≤ ms →
      falls (.silenceLimitExpiry c) (if s.map.params.silence < s.map.params.lost * 1000 then .stale else .lost))
    ∧ (∀ ms, (s.crane c).link = .stale → (s.crane c).since = some ms → s.map.params.lost * 1000 ≤ ms →
        falls (.lostLimitExpiry c) .lost)

/-- R38 to R41, R87, R88, R90, R91: a level of PARK_SW or VANE_FB is taken. An edge that the selection includes sends
INPUT, a fall of PARK_SW of a crane that stands parked sends PARK_LOST; the duty is unchanged. At a level of PARK_SW
the vane release is composed: it is asserted while the crane is eligible and no other crane holds a cell of which it is
a JIB member, and the withheld cells are those so held. At a change of the line, and at a level of VANE_FB, the
feedback check moves: to IDLE where line and feedback agree, with the vane fault flag cleared, and otherwise to the
wait of the line. That the withheld cells stand by number, and that their list is compared by cell and holder, is the
model's choice (log entries 16 and 15), and so is that VANE_FAULT of kind CLEARED carries the two levels (log entry
38). -/
def Obligations.InputLevelsAreTakenWithTheirNotices : Prop :=
  ∀ (c : Crane) (level : Bool) (s : State), s.phase = .running →
    ((s.crane c).parkSw ≠ levelOf level →
      ∃ t, exec (.parkSwEdge c level) s = .next t ∧ (t.crane c).parkSw = levelOf level
        ∧ (t.crane c).duty = (s.crane c).duty ∧ (t.crane c).link = (s.crane c).link
        ∧ (t.crane c).vaneFb = (s.crane c).vaneFb ∧ (t.crane c).report = (s.crane c).report
        ∧ ((s.crane c).parkSw ≠ .unsettled → includesEdge (s.crane c).parkSel level = true →
            told t (.c c) (.input c .parkSw level))
        ∧ (level = false → standsParked (s.crane c).duty = true → told t (.c c) (.parkLost c (s.crane c).duty))
        ∧ (t.out c).composed = true ∧ (t.out c).vane = (vaneEligible t c && (jibHeld t c).isEmpty)
        ∧ (t.out c).withheld =
            (if vaneEligible t c = true then (jibHeld t c).map fun w => (w.1, w.2.holder) else [])
        ∧ ((t.out c).withheld ≠ [] → (t.out c).withheld ≠ (s.out c).withheld →
            told t (.c c) (.vaneWithheld c (jibHeld t c)))
        ∧ ((t.out c).vane = (s.out c).vane →
            (t.out c).check = (s.out c).check ∧ (t.crane c).vaneFault = (s.crane c).vaneFault)
        ∧ ((t.out c).vane ≠ (s.out c).vane →
            let agree : Prop := (t.out c).vane = true ↔ (s.crane c).vaneFb = .asserted
            told t (.c c) (.vaneLine c (t.out c).vane)
            ∧ (agree → (t.out c).check = .idle ∧ (t.crane c).vaneFault = false)
            ∧ (¬agree → (t.out c).check = (if (t.out c).vane = true then .releaseWait 10000 else .applyWait 10000)
                ∧ (t.crane c).vaneFault = (s.crane c).vaneFault))
        ∧ t.map = s.map ∧ t.cells = s.cells ∧ t.envs = s.envs ∧ t.wind = s.wind ∧ t.book = s.book ∧ t.store = s.store
        ∧ keepsSite s t ∧ keepsPorts none s t ∧ keepsCranes (some c) s t)
    ∧ ((s.crane c).vaneFb ≠ levelOf level →
        ∃ t, exec (.vaneFbEdge c level) s = .next t ∧ (t.crane c).vaneFb = levelOf level
          ∧ (t.crane c).duty = (s.crane c).duty ∧ (t.crane c).link = (s.crane c).link
          ∧ (t.crane c).parkSw = (s.crane c).parkSw ∧ (t.crane c).report = (s.crane c).report
          ∧ ((s.crane c).vaneFb ≠ .unsettled → includesEdge (s.crane c).vaneSel level = true →
              told t (.c c) (.input c .vaneFb level))
          ∧ (vaneCurrent s → (t.out c).vane = (s.out c).vane
              ∧ ((s.out c).vane = level → (t.out c).check = .idle ∧ (t.crane c).vaneFault = false
                  ∧ ((s.crane c).vaneFault = true → told t (.c c) (.vaneFault c .cleared level level)))
              ∧ ((s.out c).vane ≠ level → (t.crane c).vaneFault = (s.crane c).vaneFault
                  ∧ ((s.out c).check = .idle →
                      (t.out c).check = if (s.out c).vane = true then .releaseWait 10000 else .applyWait 10000)))
          ∧ t.map = s.map ∧ t.cells = s.cells ∧ t.envs = s.envs ∧ t.wind = s.wind ∧ t.book = s.book
          ∧ t.store = s.store ∧ keepsSite s t ∧ keepsPorts none s t ∧ keepsCranes (some c) s t)

/-! ### Envelopes (chapter 3) -/

/-- R45 to R49: the bounds of an envelope formed from a declaration in range and a stored report. -/
def Obligations.EnvelopesStayWithinTheirBounds : Prop :=
  ∀ (d : Decl) (r : Report) (g : Nat), declInRange d = true → r.theta < 4096 → -255 ≤ r.omega → r.omega ≤ 255 →
    -40 ≤ r.v → r.v ≤ 40 → r.r ≤ d.jib → g ≤ 999 →
    let e := envelopeOf d r g
    e.lead ≤ 33023 ∧ d.slewMargin ≤ e.margin ∧ e.margin ≤ 512 ∧ e.margin ≤ e.forward ∧ e.forward ≤ 1024
      ∧ e.angStart < 4096 ∧ 1 ≤ e.angLen ∧ e.angLen ≤ 4096 ∧ (r.doubtAngle = false → e.angLen ≤ 1537)
      ∧ (r.omega = 0 → e.lead = 0 ∧ (r.doubtAngle = false → e.angLen = 2 * e.margin + 1))
      ∧ e.radLo ≤ e.radHi ∧ e.radHi ≤ d.jib ∧ (r.doubtRadius = false → e.radLo ≤ r.r ∧ r.r ≤ e.radHi)
      ∧ (r.doubtRadius = true → e.radLo = 0 ∧ e.radHi = d.jib)
      ∧ withinArc r.theta e.angStart e.angLen = true

/-- R55: the slew closing motions of a member's span. -/
def Obligations.SlewClosingMotionsFollowTheCentre : Prop :=
  ∀ (m : Member) (rep : Option Report),
    let centre := (m.start + (m.len - 1) / 2) % 4096
    let closing := closingMotions rep m
    (rep = none → closing.slewL = true ∧ closing.slewR = true)
    ∧ ∀ r, rep = some r → r.theta < 4096 →
        let d := ((centre : Int) - r.theta) % 4096
        (r.doubtAngle = true ∨ d = 0 ∨ d = 2048 → closing.slewL = true ∧ closing.slewR = true)
        ∧ (r.doubtAngle = false → 1 ≤ d → d ≤ 2047 → closing.slewL = false ∧ closing.slewR = true)
        ∧ (r.doubtAngle = false → 2049 ≤ d → d ≤ 4095 → closing.slewL = true ∧ closing.slewR = false)

/-! ### Cells (chapter 4) -/

/-- R65: a refused ENTER names the first check that fails and changes nothing. -/
def Obligations.EnterIsRefusedByItsFirstFailingCheck : Prop :=
  ∀ (p : Port) (w : Option Nat) (n : Nat) (s : State), attends s p → whoSuits p w = true →
    let refused := fun (why : Reason) (item : Result) =>
      exec (.enter p w n) s = .next (s.refuse p .enter why item).transmit
    (s.authorized p = false → refused .notAuthority .nothing)
    ∧ (s.authorized p = true → s.noMapLink p = true → refused .noMap .nothing)
    ∧ (linkAllows s p → craneNamed p w = none ∨ n < 1 ∨ 64 < n → refused .badField .nothing)
    ∧ ∀ (c : Crane) (x : CellNo) (why : Reason), linkAllows s p → craneNamed p w = some c → n = cellNo x →
        firstRefusal
          [(!s.declared c, .noCrane), (!s.present x, .noCell), ((s.member x c).isNone, .notMember),
            (s.wind.state == .stop || s.wind.state == .vane, .wind), (s.isDraining x, .draining),
            ((s.crane c).link != .live, .link), ((s.crane c).duty != .inService, .duty),
            (s.holds c x || (requestOf c (s.cell x).list).isSome, .already),
            (hasClaim c (s.cell x).list, .booked)] = some why →
        refused why (if why = .already then .already ((requestOf c (s.cell x).list).map entryKind) else .nothing)

/-- R66: an ENTER that passes its checks is granted at once where the cell is FREE, its list empty and no other crane
touches it. -/
def Obligations.EnterIsGrantedWhenTheCellIsClear : Prop :=
  ∀ (p : Port) (w : Option Nat) (c : Crane) (x : CellNo) (s : State), attends s p → namesCrane p w c →
    mayEnter s p c x → (s.cell x).grant = none → (s.cell x).list = [] → (s.cell x).covered = none →
    s.othersTouch c x = false → s.map.commit = .idle →
    ∃ t, exec (.enter p w (cellNo x)) s = .next t ∧ responds t p .enter .granted none .nothing
      ∧ (t.cell x).grant = some ⟨c, .entry⟩ ∧ (t.cell x).list = []
      ∧ ((s.port (.c c)).notices.length < 16 → Notice.granted c x .entry ∈ (t.port (.c c)).notices)
      ∧ t.envs = s.envs ∧ keepsSite s t ∧ keepsPorts (some p) s t ∧ keepsPlant s t ∧ keepsCranes none s t
      ∧ keepsBook s t ∧ keepsCells (· = x) s t

/-- R66: otherwise an ENTRY request joins the tail of the list with its wait timer, and the ENTER is QUEUED. -/
def Obligations.EnterIsQueuedOtherwise : Prop :=
  ∀ (p : Port) (w : Option Nat) (c : Crane) (x : CellNo) (s : State), attends s p → namesCrane p w c →
    mayEnter s p c x → (s.cell x).grant.isSome ∨ (s.cell x).list ≠ [] ∨ s.othersTouch c x = true →
    s.map.commit = .idle →
    ∃ t, exec (.enter p w (cellNo x)) s = .next t
      ∧ responds t p .enter .queued none
          (.queued ((s.cell x).list.length + 1) ((s.cell x).grant.map fun g => g.holder))
      ∧ Entry.entry c (s.map.params.enterWait * 1000) ∈ (t.cell x).list
      ∧ (¬dueForCell s x →
          t.cell x = { s.cell x with list := (s.cell x).list ++ [.entry c (s.map.params.enterWait * 1000)] })
      ∧ t.envs = s.envs ∧ keepsSite s t ∧ keepsPorts (some p) s t ∧ keepsPlant s t ∧ keepsCranes none s t
      ∧ keepsBook s t ∧ keepsCells (· = x) s t

/-- R64, R68, R73, R76, R77: LEAVE frees a cell held as ENTRY or AUTO: its recall ends, its covered claim is placed in
the list and the head of the list is served; where a granted head leaves a claim of another crane behind, the recall of
the new holder starts; a claim at the head waits, or its booking is admitted within the event (`freedAndServed`). A
LEAVE of a supervisor sends RELEASED to the former holder. Its refusals stand in their order: checks 1 to 5 of R65,
then NOT_HELD and BOOKED. -/
def Obligations.LeaveFreesTheCellAndServesItsHead : Prop :=
  ∀ (p : Port) (w : Option Nat) (c : Crane) (x : CellNo) (s : State), attends s p → namesCrane p w c →
    let refused := fun (i : Instr) (why : Reason) => exec i s = .next (s.refuse p .leave why).transmit
    (s.authorized p = false → refused (.leave p w (cellNo x)) .notAuthority)
    ∧ (s.authorized p = true → s.noMapLink p = true → refused (.leave p w (cellNo x)) .noMap)
    ∧ (∀ n, linkAllows s p → n < 1 ∨ 64 < n → refused (.leave p w n) .badField)
    ∧ (∀ y n, p = .s y → linkAllows s p → n < 1 ∨ 8 < n → refused (.leave p (some n) (cellNo x)) .badField)
    ∧ (linkAllows s p → s.declared c = false → refused (.leave p w (cellNo x)) .noCrane)
    ∧ (linkAllows s p → s.declared c = true → s.present x = false → refused (.leave p w (cellNo x)) .noCell)
    ∧ (linkAllows s p → s.declared c = true → s.present x = true →
        (s.holds c x = false → refused (.leave p w (cellNo x)) .notHeld)
        ∧ ((s.cell x).grant = some ⟨c, .booked⟩ → refused (.leave p w (cellNo x)) .booked))
    ∧ ∀ k, linkAllows s p → s.declared c = true → s.present x = true → (s.cell x).grant = some ⟨c, k⟩ → k ≠ .booked →
        s.map.commit = .idle →
        ∃ t, exec (.leave p w (cellNo x)) s = .next t ∧ responds t p .leave .ok none .nothing ∧ freedAndServed s t x
          ∧ ((∃ y, p = .s y) → (s.port (.c c)).notices.length < 16 →
              Notice.released x .leave ∈ (t.port (.c c)).notices)
          ∧ t.envs = s.envs ∧ keepsSite s t ∧ keepsPorts (some p) s t ∧ keepsPlant s t ∧ keepsCranes none s t
          ∧ keepsBook s t ∧ keepsCells (· = x) s t

/-- R64, R68, R78, R157: FORCE_RELEASE frees a held cell whatever its kind, places its covered claim and serves the
head of its list. A booking whose cell it was ends: of its other cells, one that its crane still touches stays with it
as ENTRY (as BOOKED where a DUE booking of the crane is admitted on it within the event, R150; `keptAsEntry`), and any
other becomes FREE and is served (`freedAndServed`). The premise that the crane's current lift is not DUE is R23's
(`liftsUnderWay`, BookStaysBounded). -/
def Obligations.ForceReleaseFreesAHeldCell : Prop :=
  ∀ (y : Sup) (x : CellNo) (s : State), attends s (.s y) → y = s.holder →
    (s.present x = false →
      exec (.forceRelease (.s y) (cellNo x)) s = .next (s.refuse (.s y) .forceRelease .noCell).transmit)
    ∧ (s.present x = true → (s.cell x).grant = none →
        exec (.forceRelease (.s y) (cellNo x)) s = .next (s.refuse (.s y) .forceRelease .notHeld).transmit)
    ∧ (∀ n, (n < 1 ∨ 64 < n) →
        exec (.forceRelease (.s y) n) s = .next (s.refuse (.s y) .forceRelease .badField).transmit)
    ∧ ∀ g, s.present x = true → (s.cell x).grant = some g → s.map.commit = .idle →
        ∃ t, exec (.forceRelease (.s y) (cellNo x)) s = .next t
          ∧ responds t (.s y) .forceRelease .ok none (.released g)
          ∧ ((s.port (.c g.holder)).notices.length < 16 → Notice.released x .force ∈ (t.port (.c g.holder)).notices)
          ∧ ((∀ n b, g.kind = .booked → (s.crane g.holder).lift = some n → s.booking n = some b → b.state ≠ .due) →
              freedAndServed s t x)
          ∧ (g.kind ≠ .booked → keepsCranes none s t ∧ keepsBook s t ∧ keepsCells (· = x) s t)
          ∧ (∀ n b, g.kind = .booked → (s.crane g.holder).lift = some n → s.booking n = some b →
              t.booking b.number = none ∧ (t.crane b.crane).lift ≠ some n
                ∧ (∀ z ∈ b.cells, z ≠ x → (s.cell z).grant = some ⟨b.crane, .booked⟩ → s.touches b.crane z = true →
                    (∃ kind, (t.cell z).grant = some ⟨b.crane, kind⟩)
                      ∧ (¬dueForCell s z → (t.cell z).grant = some ⟨b.crane, .entry⟩))
                ∧ (b.state = .admitted ∨ b.state = .landing ∨ b.state = .inspect → ∀ z ∈ b.cells, z ≠ x →
                    (s.cell z).grant = some ⟨b.crane, .booked⟩ →
                    if s.touches b.crane z = true then keptAsEntry s t z b.crane else freedAndServed s t z)
                ∧ bookingTold s t b (some b.state) (.outcome .abortedForce)
                ∧ (∀ k d, k ≠ n → s.booking k = some d → d.state ≠ .due → t.booking k = some d)
                ∧ keepsCranes (some b.crane) s t ∧ keepsCells (fun z => z = x ∨ z ∈ b.cells) s t)
          ∧ t.envs = s.envs ∧ keepsSite s t ∧ keepsPorts (some (.s y)) s t ∧ keepsPlant s t

/-- R62, R67, R68, R76, R77: the wait timer of an ENTRY request runs out, and the recall timer of a cell runs out, each
where nothing is left on it (log entry 5). Where a wait runs out the cell's list closes up, its grant stays, and a new
head is served (`requestLeft`). -/
def Obligations.WaitAndRecallTimersRunOut : Prop :=
  ∀ (x : CellNo) (s : State), s.phase = .running →
    (∀ c, Entry.entry c 0 ∈ (s.cell x).list → s.map.commit = .idle →
      ∃ t, exec (.waitExpired x c) s = .next t ∧ requestOf c (t.cell x).list = none ∧ requestLeft s t x c
        ∧ ((s.port (.c c)).notices.length < 16 → Notice.waitExpired c x ∈ (t.port (.c c)).notices)
        ∧ t.envs = s.envs ∧ keepsSite s t ∧ keepsPorts none s t ∧ keepsPlant s t ∧ keepsCranes none s t
        ∧ keepsBook s t ∧ keepsCells (· = x) s t)
    ∧ ((s.cell x).recallState = .running 0 →
        ∃ t, exec (.recallOverdue x) s = .next t ∧ t.cell x = { s.cell x with recallState := .overdue }
          ∧ (∀ y, y ≠ x → t.cell y = s.cell y) ∧ t.book = s.book ∧ t.envs = s.envs
          ∧ t.sources.recallOverdue = true
          ∧ keepsSite s t ∧ keepsPorts none s t ∧ keepsPlant s t ∧ keepsCranes none s t)

/-! ### Outputs (chapter 5) -/

/-- R81, R85: INHIBIT_SET adds the named lines to the crane's MANUAL set and INHIBIT_CLEAR removes them; the response
carries the set, the levels and their sources; no named line, or a crane number outside 1..8, is BAD_FIELD. INHIBIT goes
to each crane whose lines change, and MANUAL_INHIBIT to the supervisors of class CRANE where the MANUAL set changes;
their order is the model's choice (log entry 7) and not stated. -/
def Obligations.ManualInhibitsAreSetAndCleared : Prop :=
  ∀ (x : Sup) (c : Crane) (m : Lines) (s : State), attends s (.s x) → x = s.holder →
    let becomes := fun (i : Instr) (k : ReqKind) (manual : Lines) =>
      ∃ t, exec i s = .next t ∧ (t.out c).src.manual = manual
        ∧ responds t (.s x) k .ok none (.inhibits manual (t.out c).lines (t.out c).src)
        ∧ (t.out c).lines = unionOf (t.out c).src
        ∧ (∀ e, e ≠ c → (t.out e).src.manual = (s.out e).src.manual)
        ∧ inhibitsTold s t
        ∧ (manual ≠ (s.out c).src.manual → ∀ y, (s.port (.s y)).mask.crane = true →
            told t (.s y) (.manualInhibit c manual (.s x)))
        ∧ t.cells = s.cells ∧ t.envs = s.envs ∧ t.book = s.book ∧ keepsSite s t ∧ keepsPorts (some (.s x)) s t
        ∧ keepsPlant s t ∧ keepsCranes none s t
    (m ≠ noMotion → becomes (.inhibitSet (.s x) (craneNo c) m) .inhibitSet (linesUnion (s.out c).src.manual m)
        ∧ becomes (.inhibitClear (.s x) (craneNo c) m) .inhibitClear (linesDiff (s.out c).src.manual m))
    ∧ (m = noMotion →
        exec (.inhibitSet (.s x) (craneNo c) m) s = .next (s.refuse (.s x) .inhibitSet .badField).transmit
        ∧ exec (.inhibitClear (.s x) (craneNo c) m) s = .next (s.refuse (.s x) .inhibitClear .badField).transmit)
    ∧ (∀ n, n < 1 ∨ 8 < n →
        exec (.inhibitSet (.s x) n m) s = .next (s.refuse (.s x) .inhibitSet .badField).transmit
        ∧ exec (.inhibitClear (.s x) n m) s = .next (s.refuse (.s x) .inhibitClear .badField).transmit)

/-- R92, R94: SETSIGNAL replaces a line's configuration, drives the line afresh from its source and stores the four
configurations; an unknown line or value is BAD_FIELD. -/
def Obligations.SetSignalDrivesTheLineAfresh : Prop :=
  ∀ (x : Sup) (l : SigLine) (raw : RawSignal) (s : State), attends s (.s x) → x = s.holder →
    (sigCfgOf raw = none →
      exec (.setSignal (.s x) (l.val + 1) raw) s = .next (s.refuse (.s x) .setSignal .badField).transmit)
    ∧ (∀ n, (n < 1 ∨ 4 < n) → exec (.setSignal (.s x) n raw) s = .next (s.refuse (.s x) .setSignal .badField).transmit)
    ∧ ∀ g, sigCfgOf raw = some g →
        ∃ t, exec (.setSignal (.s x) (l.val + 1) raw) s = .next t ∧ responds t (.s x) .setSignal .ok none .nothing
          ∧ (t.sig l).cfg = g ∧ (∀ k, k ≠ l → t.sig k = s.sig k)
          ∧ (g.enabled = false → (t.sig l).drive = .undriven)
          ∧ (g.enabled = true → g.mode = .level ∨ g.mode = .flash →
              (t.sig l).drive = if sourceValue s.sources g.source then .active else .inactive)
          ∧ (g.enabled = true → g.mode = .pulse → (t.sig l).drive = .inactive)
          ∧ (t.sig l).phase =
              (if g.enabled ∧ g.mode = .flash ∧ sourceValue s.sources g.source then some 500 else none)
          ∧ t.store = beginWrite s.store (.signals (Vector.ofFn fun k => (t.sig k).cfg))
          ∧ t.map = s.map ∧ t.cells = s.cells ∧ t.cranes = s.cranes ∧ t.envs = s.envs ∧ t.outs = s.outs
          ∧ t.wind = s.wind ∧ t.book = s.book ∧ t.sources = s.sources ∧ keepsSite s t
          ∧ keepsPorts (some (.s x)) s t

/-- R91, R93, R94: the feedback timer of a crane runs out: the check returns to IDLE and the vane fault flag is set. An
enabled signal line whose source VANE_FAULT so becomes true is driven active, for 2 s as a PULSE line and for its first
0.5 s as a FLASH line; where the source was true already, nothing is driven anew. A pulse of a signal line ends, and a
flash turns between its phases. Each is taken where nothing is left on its timer (log entry 5). -/
def Obligations.FeedbackPulseAndFlashTimersRunOut : Prop :=
  (∀ (c : Crane) (s : State), s.phase = .running → vaneCurrent s →
    let raises := fun k : VaneFaultKind =>
      ∃ t, exec (.vaneFault c) s = .next t ∧ (t.crane c).vaneFault = true ∧ (t.out c).check = .idle
        ∧ t.sources.vaneFault = true
        ∧ ((s.port (.c c)).notices.length < 16 →
            Notice.vaneFault c k (s.out c).vane ((s.crane c).vaneFb == .asserted) ∈ (t.port (.c c)).notices)
        ∧ (∀ l, (s.sig l).cfg.enabled = true → (s.sig l).cfg.source = .vaneFault →
            t.sig l = (if s.sources.vaneFault = true then s.sig l else match (s.sig l).cfg.mode with
              | .level => { s.sig l with drive := .active }
              | .pulse => { s.sig l with drive := .active, phase := some 2000 }
              | .flash => { s.sig l with drive := .active, phase := some 500 }))
        ∧ t.cells = s.cells ∧ t.envs = s.envs ∧ t.book = s.book ∧ keepsSite s t ∧ keepsPorts none s t ∧ keepsPlant s t
        ∧ keepsCranes none s t
    ((s.out c).check = .releaseWait 0 → raises .notReleased) ∧ ((s.out c).check = .applyWait 0 → raises .notApplied))
  ∧ ∀ (l : SigLine) (s : State), s.phase = .running → (s.sig l).phase = some 0 →
    ((s.sig l).cfg.mode = .pulse →
      exec (.pulseEnd l) s = .next (s.modSig l fun r => { r with drive := .inactive, phase := none }).transmit)
    ∧ ((s.sig l).cfg.mode = .flash →
        exec (.flashPhase l) s =
          .next (s.modSig l fun r =>
            { r with drive := if r.drive = .active then .inactive else .active, phase := some 500 }).transmit)

/-! ### Wind (chapters 6 and 7) -/

/-- R98, R99: a pulse of a channel is counted by its settings, up to 1023; nothing else changes but that transmitters
take up what waits (R161). -/
def Obligations.PulsesAreCountedUpTo1023 : Prop :=
  ∀ (ch : Channel) (micros : Nat) (s : State), s.phase = .running →
    let k := channel s.meas ch
    ∃ t, exec (.anemPulse ch micros) s = .next t
      ∧ channel t.meas ch =
          (if k.cal.k ≠ 0 ∧ (k.cal.filter = true → 200 ≤ micros) then { k with count := min 1023 (k.count + 1) } else k)
      ∧ channel t.meas (if ch = .a then .b else .a) = channel s.meas (if ch = .a then .b else .a)
      ∧ (∀ m, t.meas = m → { m with a := s.meas.a, b := s.meas.b } = s.meas)
      ∧ t.map = s.map ∧ t.cranes = s.cranes ∧ t.envs = s.envs ∧ t.cells = s.cells ∧ t.outs = s.outs ∧ t.sigs = s.sigs
      ∧ t.sources = s.sources ∧ t.wind = s.wind ∧ t.book = s.book ∧ t.store = s.store ∧ t.clock = s.clock
      ∧ t.pending = s.pending ∧ t.phase = .running ∧ t.cause = s.cause ∧ t.restartReady = s.restartReady
      ∧ t.holder = s.holder ∧ t.takeKey = s.takeKey ∧ keepsPorts none s t

/-- R44, R99, R100, R104 to R106, R110, R153: what a sample leaves in the measurement state, the SENSOR-cause flag
among it, and that BLOCK_COMPLETE is the sample that completes a block (log entry 6). Map and envelopes are left, every
HELD cell keeps its holder, and of the bookings that are not DUE only ADMITTED ones may change, to LANDING (the numbers
of a book are unique: R129, BookStaysBounded). That a channel which waiting settings disable at the boundary has no
part in that sample's effective sample, and that two channels both enabled there give 999 with the SENSOR-cause flag,
is the model's choice (log entries 30 and 37). -/
def Obligations.SampleFormsGustAndMean : Prop :=
  ∀ s : State, s.phase = .running →
    ∃ t, exec .sample s = .next t
      ∧ (59 ≤ s.meas.accCount → exec .blockComplete s = .next t)
      ∧ (∀ ch, s.meas.waiting = none → (channel s.meas ch).status ≠ .disabled →
          (channel t.meas ch).count = 0 ∧ (channel t.meas ch).last = some (channel s.meas ch).count
            ∧ (channel t.meas ch).speed =
                some (min 999 ((channel s.meas ch).count * (channel s.meas ch).cal.k / 64)))
      ∧ (∃ e, t.meas.effective = some e
          ∧ e = (largest (partSpeed t.meas.a) (partSpeed t.meas.b)).getD 999
          ∧ (t.meas.sensorCause = true ↔
              ∀ ch, (channel t.meas ch).status = .valid → (channel t.meas ch).speed = none)
          ∧ t.meas.ring = (if s.meas.ring.length < 12 then s.meas.ring ++ [e] else s.meas.ring.tail ++ [e])
          ∧ t.meas.gust = some (t.meas.ring.sum / t.meas.ring.length)
          ∧ (t.meas.warmup = true ↔ s.meas.warmup = true ∧ t.meas.ring.length < 12)
          ∧ (s.meas.accCount < 59 →
              t.meas.accSum = s.meas.accSum + e ∧ t.meas.accCount = s.meas.accCount + 1
                ∧ t.meas.meanRing = s.meas.meanRing ∧ t.meas.mean = s.meas.mean ∧ t.meas.active = s.meas.active
                ∧ t.meas.pendingSet = s.meas.pendingSet)
          ∧ (59 ≤ s.meas.accCount →
              t.meas.accSum = 0 ∧ t.meas.accCount = 0
                ∧ t.meas.meanRing =
                    (if s.meas.meanRing.length < 40 then s.meas.meanRing ++ [(s.meas.accSum + e) / 60]
                      else s.meas.meanRing.tail ++ [(s.meas.accSum + e) / 60])
                ∧ t.meas.mean = some (t.meas.meanRing.sum / t.meas.meanRing.length)
                ∧ t.meas.active = s.meas.pendingSet.getD s.meas.active ∧ t.meas.pendingSet = none))
      ∧ t.meas.gateLeft = 250 ∧ t.meas.waiting = none
      ∧ t.map = s.map ∧ t.envs = s.envs ∧ keepsHolders s t ∧ keepsCranes none s t ∧ t.book.next = s.book.next
      ∧ t.store = (if 59 ≤ s.meas.accCount then
          (match s.meas.pendingSet with
            | some v => beginWrite s.store (.threshold v)
            | none => s.store) else s.store)
      ∧ ((s.book.live.map (·.number)).Nodup → ∀ n b, s.booking n = some b → b.state ≠ .due →
          t.booking n = some b ∨ (b.state = .admitted ∧ t.booking n = some { b with state := .landing }))
      ∧ t.pending = s.pending ∧ t.phase = .running ∧ t.clock = s.clock ∧ t.holder = s.holder ∧ t.takeKey = s.takeKey
      ∧ keepsPorts none s t

/-- R101, R102: the gates that bring a channel into FAULT_HIGH, into FAULT_STUCK, and back to VALID; each is the sample
that ends the gate (log entry 6). -/
def Obligations.ChannelsFaultAndClearAtTheirRuns : Prop :=
  ∀ (ch : Channel) (s : State), s.phase = .running → s.meas.waiting = none →
    let k := channel s.meas ch
    let o := channel s.meas (if ch = .a then .b else .a)
    let moves := fun (i : Instr) (new : ChanStatus) =>
      ∃ t, exec i s = .next t ∧ exec .sample s = .next t ∧ (channel t.meas ch).status = new
        ∧ (channel t.meas ch).highRun = (if k.status = .valid then 0 else k.highRun)
        ∧ (channel t.meas ch).clearRun = 0
    (k.status = .valid → k.count = 1023 → k.highRun = 3 → moves (.faultHigh ch) .faultHigh)
    ∧ (k.status = .valid → k.count = 0 → k.stuckRun = 119 → o.status = .valid → 50 ≤ min 999 (o.count * o.cal.k / 64) →
        moves (.faultStuck ch) .faultStuck)
    ∧ (k.status = .faultHigh → k.count < 1023 → k.clearRun = 11 → moves (.channelClearRunReached ch) .valid)
    ∧ (k.status = .faultStuck → 0 < k.count → k.clearRun = 11 → moves (.channelClearRunReached ch) .valid)

/-- R114, R115, R121, R122, R153: a sample whose gust or mean meets the condition of a higher state moves the wind
state there at once, with the cause of R115. An entry into STOP starts the park timer and turns every ADMITTED booking
into LANDING (the numbers of a book are unique: R129, BookStaysBounded); with no declared crane IN_SERVICE the site
goes on to VANE. Each move is told by notice WIND of kind CHANGE (R125), each LANDING by notice BOOKING. -/
def Obligations.WindRisesAtTheSampleThatMeetsIt : Prop :=
  ∀ (g : Nat) (s : State), s.phase = .running →
    let m := sampled s.meas
    let working := ∃ c, s.declared c = true ∧ (s.crane c).duty = .inService
    let cause := fun level : Nat => if m.sensorCause = true then WindCause.sensor else if level ≤ g then .gust else .mean
    m.gust = some g →
    (m.active.stopSet ≤ g ∨ (∃ v, m.mean = some v ∧ m.active.meanSet ≤ v) → windRank s.wind.state < 3 →
      ∃ t, exec .sample s = .next t ∧ (t.wind.state = .stop ∨ t.wind.state = .vane)
        ∧ t.wind.manual = s.wind.manual ∧ t.wind.stopCount = 0
        ∧ windTold s t s.wind.state .stop (cause m.active.stopSet) s.wind.manual false
        ∧ (¬working → windTold s t .stop .vane .parked s.wind.manual false)
        ∧ (∀ n b, s.booking n = some b → b.state = .admitted →
            bookingTold s t b (some .admitted) (.state .landing))
        ∧ (s.map.commit = .idle →
          (working → t.wind.state = .stop ∧ t.wind.cause = cause m.active.stopSet
            ∧ t.wind.parkTimer = some (s.map.params.parkTimeout * 1000))
          ∧ (¬working → t.wind.state = .vane ∧ t.wind.cause = .parked ∧ t.wind.parkTimer = none)
          ∧ ((s.book.live.map (·.number)).Nodup → ∀ n b, s.booking n = some b →
              t.booking n = some (if b.state = .admitted then { b with state := .landing } else b))))
    ∧ (g < m.active.stopSet → (∀ v, m.mean = some v → v < m.active.meanSet) → m.active.holdSet ≤ g →
        windRank s.wind.state < 2 →
        ∃ t, exec .sample s = .next t ∧ t.wind.state = .hold ∧ t.wind.cause = (if m.sensorCause then .sensor else .gust)
          ∧ t.wind.manual = s.wind.manual ∧ t.wind.parkTimer = none ∧ t.wind.holdCount = 0
          ∧ windTold s t s.wind.state .hold (if m.sensorCause then .sensor else .gust) s.wind.manual false)
    ∧ (g < m.active.stopSet → (∀ v, m.mean = some v → v < m.active.meanSet) → g < m.active.holdSet →
        m.active.alertSet ≤ g → s.wind.state = .calm →
        ∃ t, exec .sample s = .next t ∧ t.wind.state = .alert
          ∧ t.wind.cause = (if m.sensorCause then .sensor else .gust) ∧ t.wind.parkTimer = none ∧ t.wind.alertCount = 0
          ∧ windTold s t .calm .alert (if m.sensorCause then .sensor else .gust) s.wind.manual false)

/-- R116, R117, R118, R124: at a sample that moves the wind state up nowhere, the calm count of the state grows by one
where its calm condition holds with the warm-up flag clear, and returns to 0 where it does not; in VANE a failed
condition also withdraws the resume-ready flag, and a set flag holds the count at the period. The samples at which a
count reaches its period move the state down, or set the flag; each command is that sample (log entry 6). That the move
from VANE keeps the cause held in VANE is R115's and R124's, against the worked sequence (log entry 31), and that a
count goes on where a RESUME has cleared the flag since a SITE_STOP is R116's, against R119 (log entry 32). That
RESUME_READY and RESUME_WITHDRAWN carry the fields of kind CHANGE is the model's choice (log entry 36). Each move down
is told by notice WIND of kind CHANGE (R125). -/
def Obligations.CalmCountsBringTheWindStateDown : Prop :=
  ∀ (g : Nat) (s : State), s.phase = .running →
    let m := sampled s.meas
    m.gust = some g → windRank (windMet m.active g m.mean) ≤ windRank s.wind.state →
    let w := s.wind
    let down := fun (i : Instr) (new : WindState) =>
      ∃ t, exec i s = .next t ∧ exec .sample s = .next t ∧ t.wind.state = new ∧ t.wind.cause = w.cause
        ∧ t.wind.manual = w.manual ∧ t.wind.ready = false ∧ t.wind.alertCount = 0 ∧ t.wind.holdCount = 0
        ∧ t.wind.stopCount = 0 ∧ t.wind.parkTimer = none ∧ windTold s t w.state new w.cause w.manual false
    let stays := fun v : WindRec => ∃ t, exec .sample s = .next t ∧ t.wind = v
    let alertCalm := m.warmup = false ∧ g < m.active.alertRel
    let holdCalm := m.warmup = false ∧ g < m.active.holdRel
    let stopCalm := m.warmup = false ∧ g < m.active.stopRel ∧ (∃ v, m.mean = some v ∧ v < m.active.meanRel)
      ∧ w.manual = false
    (w.state = .alert →
      (alertCalm → 4 * m.active.alertCalm ≤ w.alertCount + 1 → down .alertCalmReached .calm)
      ∧ (alertCalm → w.alertCount + 1 < 4 * m.active.alertCalm → stays { w with alertCount := w.alertCount + 1 })
      ∧ (¬alertCalm → stays { w with alertCount := 0 }))
    ∧ (w.state = .hold →
      (holdCalm → 4 * m.active.holdCalm ≤ w.holdCount + 1 → down .holdCalmReached .alert)
      ∧ (holdCalm → w.holdCount + 1 < 4 * m.active.holdCalm → stays { w with holdCount := w.holdCount + 1 })
      ∧ (¬holdCalm → stays { w with holdCount := 0 }))
    ∧ (w.state = .stop →
      (stopCalm → 4 * m.active.stopCalm ≤ w.stopCount + 1 → down .stopCalmReached .hold)
      ∧ (stopCalm → w.stopCount + 1 < 4 * m.active.stopCalm → stays { w with stopCount := w.stopCount + 1 })
      ∧ (¬stopCalm → stays { w with stopCount := 0 }))
    ∧ (w.state = .vane →
      (stopCalm → w.ready = false → 4 * m.active.stopCalm ≤ w.stopCount + 1 → s.map.params.holdoff = false →
        down .resumeReady .hold)
      ∧ (stopCalm → w.ready = false → 4 * m.active.stopCalm ≤ w.stopCount + 1 → s.map.params.holdoff = true →
        ∃ t, exec .resumeReady s = .next t ∧ exec .sample s = .next t
          ∧ t.wind = { w with ready := true, stopCount := 4 * m.active.stopCalm }
          ∧ ∀ x, (s.port (.s x)).mask.wind = true →
              told t (.s x) (.wind .resumeReady .vane .vane w.cause w.manual true))
      ∧ (stopCalm → w.ready = false → w.stopCount + 1 < 4 * m.active.stopCalm →
        stays { w with stopCount := w.stopCount + 1 })
      ∧ (stopCalm → w.ready = true → 0 < m.active.stopCalm → stays { w with stopCount := 4 * m.active.stopCalm })
      ∧ (¬stopCalm →
        ∃ t, exec .sample s = .next t ∧ t.wind = { w with ready := false, stopCount := 0 }
          ∧ (w.ready = true → ∀ x, (s.port (.s x)).mask.wind = true →
              told t (.s x) (.wind .resumeWithdrawn .vane .vane w.cause w.manual false))))

/-- R119, R120, R153: SITE_STOP sets the manual stop flag and brings the site to STOP; an entry into STOP turns every
ADMITTED booking into LANDING (the numbers of a book are unique: R129, BookStaysBounded), and a SITE_STOP taken in STOP
or VANE moves none. RESUME clears the flag, or takes a ready site from VANE to HOLD with the cause it has (R115; log
entry 31), or is refused NOT_READY. Map, envelopes and crane records are left, every HELD cell keeps its holder, and a
SITE_STOP leaves the cell table as it is. Each change of state, cause or manual flag is told by notice WIND (R125). That
a SITE_STOP with the flag set is answered UNCHANGED alone, without the wind state and cause, and that one in VANE which
clears the resume-ready flag sends RESUME_WITHDRAWN, with the fields of kind CHANGE, are the model's choices (log entries
40, 18 and 36). -/
def Obligations.SiteStopAndResume : Prop :=
  ∀ (x : Sup) (s : State), attends s (.s x) → x = s.holder →
    (s.wind.manual = true → exec (.siteStop (.s x)) s = .next (s.answer (.s x) .siteStop .unchanged).transmit)
    ∧ (s.wind.manual = false →
        ∃ t, exec (.siteStop (.s x)) s = .next t ∧ t.wind.manual = true
          ∧ responds t (.s x) .siteStop .ok none (.windNow t.wind.state t.wind.cause)
          ∧ (t.wind.state = .stop ∨ t.wind.state = .vane)
          ∧ (s.wind.state = .vane → t.wind = { s.wind with manual := true, ready := false })
          ∧ (t.wind.state = .stop → t.wind.cause = .manual)
          ∧ (s.wind.state = .vane → windTold s t .vane .vane s.wind.cause true false
              ∧ (s.wind.ready = true → ∀ y, (s.port (.s y)).mask.wind = true →
                  told t (.s y) (.wind .resumeWithdrawn .vane .vane s.wind.cause true false)))
          ∧ (s.wind.state = .stop → windTold s t .stop .stop .manual true s.wind.ready)
          ∧ (windRank s.wind.state < 3 → windTold s t s.wind.state .stop .manual true false
              ∧ (craneInService s = false → windTold s t .stop .vane .parked true false)
              ∧ ∀ n b, s.booking n = some b → b.state = .admitted →
                  bookingTold s t b (some .admitted) (.state .landing))
          ∧ (s.map.commit = .idle → craneInService s = true → s.wind.state ≠ .vane →
              t.wind.state = .stop
                ∧ t.wind.parkTimer = (if s.wind.state = .stop then s.wind.parkTimer
                    else some (s.map.params.parkTimeout * 1000)))
          ∧ (s.map.commit = .idle → windRank s.wind.state < 3 → (s.book.live.map (·.number)).Nodup →
              ∀ n b, s.booking n = some b →
                t.booking n = some (if b.state = .admitted then { b with state := .landing } else b))
          ∧ (s.map.commit = .idle → s.wind.state = .stop ∨ s.wind.state = .vane → t.book = s.book)
          ∧ t.map = s.map ∧ t.store = s.store ∧ t.envs = s.envs ∧ t.cells = s.cells ∧ keepsCranes none s t
          ∧ keepsSite s t ∧ keepsPorts (some (.s x)) s t)
    ∧ (s.wind.manual = true →
        ∃ t, exec (.resume (.s x)) s = .next t ∧ responds t (.s x) .resume .ok none .flagCleared
          ∧ t.wind = { s.wind with manual := false }
          ∧ windTold s t s.wind.state s.wind.state s.wind.cause false s.wind.ready
          ∧ t.map = s.map ∧ t.cranes = s.cranes ∧ t.envs = s.envs
          ∧ t.cells = s.cells ∧ t.outs = s.outs ∧ t.sigs = s.sigs ∧ t.sources = s.sources ∧ t.book = s.book
          ∧ t.store = s.store ∧ keepsSite s t ∧ keepsPorts (some (.s x)) s t)
    ∧ (s.wind.manual = false → s.wind.state = .vane → s.wind.ready = true →
        ∃ t, exec (.resume (.s x)) s = .next t ∧ responds t (.s x) .resume .ok none .resumedHold
          ∧ t.wind.state = .hold ∧ t.wind.cause = s.wind.cause ∧ t.wind.manual = false ∧ t.wind.ready = false
          ∧ windTold s t .vane .hold s.wind.cause false false
          ∧ t.map = s.map ∧ t.store = s.store ∧ t.envs = s.envs ∧ t.book = s.book ∧ keepsHolders s t
          ∧ keepsCranes none s t ∧ keepsSite s t ∧ keepsPorts (some (.s x)) s t)
    ∧ (s.wind.manual = false → ¬(s.wind.state = .vane ∧ s.wind.ready = true) →
        exec (.resume (.s x)) s = .next (s.refuse (.s x) .resume .notReady).transmit)

/-- R81, R123, R125: the park timer runs out in STOP: the site goes to VANE with cause TIMEOUT, told by notice WIND, and
every declared crane in service is named by NOT_PARKED on its own link and on the supervisor links of class CRANE.
INHIBIT goes to each crane whose lines change. Duties, grants and lifts are kept. It is taken where nothing is left on
the timer (log entry 5). -/
def Obligations.ParkTimeoutBringsTheSiteToVane : Prop :=
  ∀ s : State, s.phase = .running → s.wind.state = .stop → s.wind.parkTimer = some 0 →
    ∃ t, exec .parkTimeout s = .next t ∧ t.wind.state = .vane ∧ t.wind.cause = .timeout ∧ t.wind.parkTimer = none
      ∧ t.wind.manual = s.wind.manual ∧ t.wind.stopCount = s.wind.stopCount
      ∧ (∀ c, (t.out c).lines = everyMotion)
      ∧ (∀ c, s.declared c = true → (s.crane c).duty = .inService → (s.port (.c c)).notices.length ≤ 14 →
          Notice.notParked c (s.crane c).lift ∈ (t.port (.c c)).notices)
      ∧ (∀ c, s.declared c = true → (s.crane c).duty = .inService → told t (.c c) (.notParked c (s.crane c).lift)
          ∧ ∀ y, (s.port (.s y)).mask.crane = true → told t (.s y) (.notParked c (s.crane c).lift))
      ∧ windTold s t .stop .vane .timeout s.wind.manual s.wind.ready ∧ inhibitsTold s t
      ∧ t.cells = s.cells ∧ t.book = s.book ∧ t.envs = s.envs ∧ t.map = s.map ∧ t.store = s.store
      ∧ keepsCranes none s t ∧ keepsSite s t ∧ keepsPorts none s t

/-- R108, R109, R110: SETWIND holds a set that passes its checks as the pending one and answers with the samples left
to the block boundary; a set that fails one is refused with the value that the first failing check names
(`thresholdChecks`: the ranges of the levels in order, the four releases below their set levels, the set levels in
order, the ranges of the periods). SETCAL holds its settings as the waiting ones and starts the write of their section.
Which value of a set that fails a comparison the refusal names is the model's choice (log entry 11). -/
def Obligations.SetWindAndSetCalWaitForTheirBoundary : Prop :=
  ∀ (x : Sup) (s : State), attends s (.s x) → x = s.holder →
    (∀ t i, namesFirst (thresholdChecks t) (some i) →
      exec (.setWind (.s x) t) s = .next (s.refuse (.s x) .setWind .badField (.badThreshold i)).transmit)
    ∧ (∀ t, namesFirst (thresholdChecks t) none →
        exec (.setWind (.s x) t) s =
          .next (((s.setMeas { s.meas with pendingSet := some t }).notifyClass .wind
            (.windTablePending t (.s x))).answer (.s x) .setWind (.samplesLeft (60 - s.meas.accCount))).transmit)
    ∧ (∀ k : RawCal, 4095 < k.kA ∨ 4095 < k.kB ∨ 1 < k.filterA ∨ 1 < k.filterB →
        exec (.setCal (.s x) k) s = .next (s.refuse (.s x) .setCal .badField).transmit)
    ∧ (∀ k : RawCal, k.kA ≤ 4095 → k.kB ≤ 4095 → k.filterA ≤ 1 → k.filterB ≤ 1 →
        let v : Cal := ⟨⟨k.kA, k.filterA == 1⟩, ⟨k.kB, k.filterB == 1⟩⟩
        exec (.setCal (.s x) k) s =
          .next ((((s.setMeas { s.meas with waiting := some v }).setStore (beginWrite s.store (.calibration v))).notifyClass
            .wind (.calibration v (.s x))).answer (.s x) .setCal .nothing).transmit)

/-! ### The lift book and the clock (chapters 8 and 9) -/

/-- R129 to R136, R148, R151: a BOOK whose fields are in the ranges of R133 (`bookFieldChecks`) and that passes its other
checks enters the book with the fields sent, under the first free
number from the next number on, wrapping from 65535 to 1; its referral note lists the cells of its list that carry the
ruling flag. One whose start has not come, or that needs a ruling, is BOOKED or REFERRED, and nothing else changes; any
other is DUE at once, and is admitted within the request exactly where the conditions of R149 hold (R148, R149, R151;
`dueOrAdmitted` has the premise that no other DUE booking names its crane or its cells, which R135 and R148 ensure).
Its acceptance is told by one notice BOOKING without a former state, and an admission by its own (R130, R136). -/
def Obligations.BookEntersTheBook : Prop :=
  ∀ (p : Port) (w : Option Nat) (c : Crane) (f : BookFields) (s : State), attends s p → namesCrane p w c →
    s.noMap = false → s.clock.isSet = true → s.declared c = true → namesFirst (bookFieldChecks f) none →
    (∀ x ∈ bookCells f, s.present x = true ∧ (s.member x c).isSome ∧ s.isDraining x = false) →
    s.clock.count < f.start + f.late → f.start ≤ s.clock.count + 604800 →
    (∀ b ∈ s.book.live, conflicts c (bookCells f) f.start f.duration b = false) → s.book.live.length < 96 →
    let b := bookingOf s p c f
    (b.crane = c ∧ b.start = f.start ∧ b.duration = f.duration ∧ b.late = f.late ∧ b.cells = bookCells f
      ∧ b.origin = p ∧ b.overrun = false ∧ b.cls = (if f.cls = 1 then .heavy else .normal)
      ∧ b.inspect = (f.inspect == 1)
      ∧ b.note = (if rulingCells s (bookCells f) = [] then none else some (rulingCells s (bookCells f)))
      ∧ b.state = (if rulingCells s (bookCells f) = [] then .booked else .referred)
      ∧ (∀ k ∈ s.book.live, k.number ≠ b.number)
      ∧ ((∀ k ∈ s.book.live, k.number ≠ s.book.next) → b.number = s.book.next)
      ∧ (1 ≤ s.book.next → s.book.next ≤ 65535 →
          let after := fun j => (s.book.next - 1 + j) % 65535 + 1
          ∀ j, (∀ i, i < j → ∃ k ∈ s.book.live, k.number = after i) → (∀ k ∈ s.book.live, k.number ≠ after j) →
            b.number = after j))
    ∧ (s.clock.count < f.start ∨ rulingCells s (bookCells f) ≠ [] →
        ∃ t, exec (.book p w f) s = .next t
          ∧ responds t p .book .ok none (.booked b.number b.state f.start f.duration b.note)
          ∧ t.booking b.number = some b ∧ (∀ n, n ≠ b.number → t.booking n = s.booking n)
          ∧ bookingTold s t b none (.state b.state)
          ∧ t.book.next = (if b.number = 65535 then 1 else b.number + 1)
          ∧ t.cells = s.cells ∧ t.cranes = s.cranes ∧ t.envs = s.envs ∧ t.outs = s.outs ∧ t.sources = s.sources
          ∧ keepsSite s t ∧ keepsPorts (some p) s t ∧ keepsPlant s t)
    ∧ (f.start ≤ s.clock.count → rulingCells s (bookCells f) = [] → s.map.commit = .idle →
        ∃ t k, exec (.book p w f) s = .next t
          ∧ responds t p .book .ok none (.booked b.number .due f.start f.duration none)
          ∧ t.booking b.number = some k ∧ k = { b with state := k.state } ∧ (k.state = .due ∨ k.state = .admitted)
          ∧ dueOrAdmitted s t b ∧ bookingTold s t b none (.state .due) ∧ admissionTold s t b
          ∧ (∀ n d, n ≠ b.number → s.booking n = some d → d.state ≠ .due → t.booking n = some d)
          ∧ t.book.next = (if b.number = 65535 then 1 else b.number + 1)
          ∧ t.envs = s.envs ∧ keepsSite s t ∧ keepsPorts (some p) s t ∧ keepsPlant s t ∧ keepsCranes (some c) s t
          ∧ keepsCells (· ∈ bookCells f) s t)

/-- R132 to R135: the refusals of BOOK in their order, each with the item it carries; a refused BOOK changes nothing.
Check 3 names the first field of R133 that is out of its range (`bookFieldChecks`).
The book is kept in order of start and number, so the first conflicting booking is the one R135 names. -/
def Obligations.BookIsRefusedInOrder : Prop :=
  ∀ (p : Port) (w : Option Nat) (f : BookFields) (s : State), attends s p → whoSuits p w = true →
    let refused := fun (why : Reason) (item : Result) =>
      exec (.book p w f) s = .next (s.refuse p .book why item).transmit
    let open_ := s.noMap = false ∧ s.clock.isSet = true
    (s.noMap = true → refused .noMap .nothing)
    ∧ (s.noMap = false → s.clock.isSet = false → refused .noClock .nothing)
    ∧ (∀ n, open_ → w = some n → n < 1 ∨ 8 < n → refused .badField (.badCrane n))
    ∧ ∀ c, open_ → craneNamed p w = some c →
        (s.declared c = false → refused .noCrane (.badCrane (craneNo c)))
        ∧ (∀ x, s.declared c = true → namesFirst (bookFieldChecks f) (some x) → refused .badField (.badBookField x))
        ∧ (s.declared c = true → namesFirst (bookFieldChecks f) none →
            let cells := bookCells f
            (∀ x, cells.find? (fun x => !s.present x) = some x → refused .noCell (.badCell (cellNo x)))
            ∧ (∀ x, (∀ y ∈ cells, s.present y = true) → cells.find? (fun x => (s.member x c).isNone) = some x →
                refused .notMember (.badCell (cellNo x)))
            ∧ (∀ x, (∀ y ∈ cells, s.present y = true ∧ (s.member y c).isSome) →
                cells.find? s.isDraining = some x → refused .draining (.badCell (cellNo x)))
            ∧ ((∀ x ∈ cells, s.present x = true ∧ (s.member x c).isSome ∧ s.isDraining x = false) →
              (f.start + f.late ≤ s.clock.count → refused .tooLate (.clockNow s.clock.count))
              ∧ (s.clock.count < f.start + f.late → s.clock.count + 604800 < f.start →
                  refused .horizon (.clockNow s.clock.count))
              ∧ (s.clock.count < f.start + f.late → f.start ≤ s.clock.count + 604800 →
                  (∀ b, s.book.live.find? (conflicts c cells f.start f.duration) = some b →
                    refused .overlap (.overlap b.number b.crane b.start b.duration))
                  ∧ ((∀ b ∈ s.book.live, conflicts c cells f.start f.duration b = false) → 96 ≤ s.book.live.length →
                      refused .bookFull .nothing))))

/-- R137: RULE on a REFERRED booking. REJECT ends it; ACCEPT makes it BOOKED, or DUE where its start has come, and then
admitted within the request exactly where the conditions of R149 hold; any other state is refused NOT_REFERRED, a
number or ruling out of range BAD_FIELD, a number no booking holds NO_BOOKING. The ruling is told by notice BOOKING, and
an admission by its own (R130); that a booking made DUE is told by one notice, from REFERRED to DUE, is the model's
choice (log entry 33). The premise `liftsUnderWay` is R23's, and every step keeps it (BookStaysBounded). -/
def Obligations.RuleDecidesAReferredBooking : Prop :=
  ∀ (x : Sup) (s : State), attends s (.s x) → x = s.holder →
    (∀ n r, n < 1 ∨ 65535 < n ∨ 1 < r → exec (.rule (.s x) n r) s = .next (s.refuse (.s x) .rule .badField).transmit)
    ∧ (∀ n r, 1 ≤ n → n ≤ 65535 → r ≤ 1 → s.booking n = none →
        exec (.rule (.s x) n r) s = .next (s.refuse (.s x) .rule .noBooking).transmit)
    ∧ ∀ n b, 1 ≤ n → n ≤ 65535 → s.booking n = some b →
        (b.state ≠ .referred → ∀ r, r ≤ 1 →
          exec (.rule (.s x) n r) s = .next (s.refuse (.s x) .rule .notReferred (.bookState b.state)).transmit)
        ∧ (b.state = .referred → s.clock.count < b.start →
            ∃ t, exec (.rule (.s x) n 0) s = .next t ∧ responds t (.s x) .rule .ok none (.bookState .booked)
              ∧ t.booking n = some { b with state := .booked, note := none }
              ∧ bookingTold s t b (some .referred) (.state .booked)
              ∧ (∀ k, k ≠ n → t.booking k = s.booking k) ∧ t.book.next = s.book.next
              ∧ t.cells = s.cells ∧ t.cranes = s.cranes ∧ t.envs = s.envs ∧ t.outs = s.outs
              ∧ keepsSite s t ∧ keepsPorts (some (.s x)) s t ∧ keepsPlant s t)
        ∧ (b.state = .referred → b.start ≤ s.clock.count → s.map.commit = .idle →
            ∃ t k, exec (.rule (.s x) n 0) s = .next t ∧ responds t (.s x) .rule .ok none (.bookState .due)
              ∧ t.booking n = some k ∧ k = { b with state := k.state, note := none }
              ∧ (k.state = .due ∨ k.state = .admitted)
              ∧ bookingTold s t b (some .referred) (.state .due) ∧ admissionTold s t b
              ∧ dueOrAdmitted s t b ∧ (∀ j d, j ≠ n → s.booking j = some d → d.state ≠ .due → t.booking j = some d)
              ∧ t.book.next = s.book.next
              ∧ t.envs = s.envs ∧ keepsCranes (some b.crane) s t ∧ keepsCells (· ∈ b.cells) s t
              ∧ keepsSite s t ∧ keepsPorts (some (.s x)) s t ∧ keepsPlant s t)
        ∧ (b.state = .referred → s.map.commit = .idle → liftsUnderWay s →
            ∃ t, exec (.rule (.s x) n 1) s = .next t ∧ responds t (.s x) .rule .ok none .nothing ∧ t.booking n = none
              ∧ bookingTold s t b (some .referred) (.outcome .rejected)
              ∧ (∀ k, k ≠ n → t.booking k = s.booking k) ∧ t.cells = s.cells ∧ t.envs = s.envs
              ∧ keepsSite s t ∧ keepsPorts (some (.s x)) s t ∧ keepsPlant s t)

/-- R62, R64, R68, R76, R77, R139: CANCEL ends a booking that no lift is under way for, with notice BOOKING that names the
port. Every HELD cell keeps its holder. The claims of a DUE booking are withdrawn: the other entries of each list stay,
a recall that a claim gone from the head stood for ends, and a new head is served (`claimsLeft`). CANCEL is refused
IN_PROGRESS for one that is, NO_BOOKING where the port sees none, BAD_FIELD for a number out of range, and NO_MAP on a
crane link without a map. The premise `liftsUnderWay` is R23's, and every step keeps it (BookStaysBounded). -/
def Obligations.CancelEndsABookingNotUnderWay : Prop :=
  ∀ (p : Port) (n : Nat) (s : State), attends s p →
    (s.noMapLink p = true → exec (.cancel p n) s = .next (s.refuse p .cancel .noMap).transmit)
    ∧ (s.noMapLink p = false → n < 1 ∨ 65535 < n →
        exec (.cancel p n) s = .next (s.refuse p .cancel .badField).transmit)
    ∧ (s.noMapLink p = false → 1 ≤ n → n ≤ 65535 →
        ((∀ b, s.booking n = some b → ∃ c, p = .c c ∧ b.crane ≠ c) →
          exec (.cancel p n) s = .next (s.refuse p .cancel .noBooking).transmit)
        ∧ ∀ b, s.booking n = some b → (∀ c, p = .c c → b.crane = c) →
            (b.state = .admitted ∨ b.state = .landing ∨ b.state = .inspect →
              exec (.cancel p n) s = .next (s.refuse p .cancel .inProgress (.bookState b.state)).transmit)
            ∧ (b.state = .referred ∨ b.state = .booked ∨ b.state = .due → s.map.commit = .idle →
                ∃ t, exec (.cancel p n) s = .next t ∧ responds t p .cancel .ok none .nothing ∧ t.booking n = none
                  ∧ (∀ k d, k ≠ n → s.booking k = some d → d.state ≠ .due → t.booking k = some d)
                  ∧ (t.crane b.crane).due ≠ some n ∧ (t.crane b.crane).lift ≠ some n
                  ∧ (b.state ≠ .due → liftsUnderWay s → t.cells = s.cells)
                  ∧ (b.state = .due → ∀ y, (t.cell y).covered ≠ some n ∧ ∀ e ∈ (t.cell y).list, isClaimOf n e = false)
                  ∧ keepsHolders s t ∧ (b.state = .due → ∀ y, claimsLeft s t y (· == n))
                  ∧ (b.state = .due → claimsDue s → keepsCells (· ∈ b.cells) s t)
                  ∧ bookingTold s t b (some b.state) (.outcome .cancelledRequest) (some p)
                  ∧ t.envs = s.envs
                  ∧ keepsSite s t ∧ keepsPorts (some p) s t ∧ keepsPlant s t ∧ keepsCranes (some b.crane) s t))

/-- R140, R155, R156, R157: ABORT, FINISH and END end the bookings they are for, with notice BOOKING, which names the port
of a FINISH alone (log entry 20); a listed cell that the crane still touches stays with it as ENTRY (as BOOKED where a
DUE booking of the crane is admitted on it within the event, R150; `keptAsEntry`), and any other becomes FREE and is
served (`freedAndServed`); an END under the inspection hold leaves the booking in INSPECT. Each is
refused for a booking in any other state, an END of a crane with no current lift, or with its lift in INSPECT, with
NO_LIFT; ABORT and FINISH of a number out of range BAD_FIELD, of one no booking holds NO_BOOKING; an END without a map
NO_MAP. -/
def Obligations.LiftsEndByAbortFinishAndEnd : Prop :=
  (∀ (x : Sup) (s : State), attends s (.s x) → x = s.holder → ∀ i k why n,
    (i, k) ∈ [(Instr.abort (.s x) n, ReqKind.abort), (.finish (.s x) n, .finish)] →
    (why = .badField ∧ (n < 1 ∨ 65535 < n)) ∨ (why = .noBooking ∧ 1 ≤ n ∧ n ≤ 65535 ∧ s.booking n = none) →
    exec i s = .next (s.refuse (.s x) k why).transmit)
  ∧ (∀ (c : Crane) (s : State), attends s (.c c) →
    (s.noMap = true → exec (.endLift (.c c)) s = .next (s.refuse (.c c) .endLift .noMap).transmit)
    ∧ (s.noMap = false →
        ((s.crane c).lift = none ∨ ∃ n b, (s.crane c).lift = some n ∧ s.booking n = some b ∧ b.state = .inspect) →
        exec (.endLift (.c c)) s = .next (s.refuse (.c c) .endLift .noLift).transmit))
  ∧ ∀ (n : Nat) (b : Booking) (s : State), s.booking n = some b → 1 ≤ n → n ≤ 65535 →
    let ends := fun (i : Instr) (p : Port) (k : ReqKind) (r : Result) (o : BookOutcome) (by_ : Option Port) =>
      ∃ t, exec i s = .next t ∧ responds t p k .ok none r ∧ t.booking n = none ∧ (t.crane b.crane).lift ≠ some n
        ∧ (∀ x ∈ b.cells, (s.cell x).grant = some ⟨b.crane, .booked⟩ → s.touches b.crane x = true →
            (∃ kind, (t.cell x).grant = some ⟨b.crane, kind⟩)
              ∧ (¬dueForCell s x → (t.cell x).grant = some ⟨b.crane, .entry⟩) ∧ keptAsEntry s t x b.crane)
        ∧ bookingTold s t b (some b.state) (.outcome o) by_
        ∧ (∀ x ∈ b.cells, (s.cell x).grant = some ⟨b.crane, .booked⟩ → s.touches b.crane x = false →
            freedAndServed s t x)
        ∧ (∀ j d, j ≠ n → s.booking j = some d → d.state ≠ .due → t.booking j = some d) ∧ t.book.next = s.book.next
        ∧ t.envs = s.envs ∧ keepsSite s t ∧ keepsPorts (some p) s t ∧ keepsPlant s t ∧ keepsCranes (some b.crane) s t
        ∧ keepsCells (· ∈ b.cells) s t
    (∀ x, attends s (.s x) → x = s.holder → s.map.commit = .idle →
      ((b.state = .admitted ∨ b.state = .landing ∨ b.state = .inspect) →
          ends (.abort (.s x) n) (.s x) .abort .nothing .abortedRequest none)
      ∧ (b.state = .inspect → ends (.finish (.s x) n) (.s x) .finish .nothing .complete (some (.s x)))
      ∧ (b.state = .referred ∨ b.state = .booked ∨ b.state = .due →
          exec (.abort (.s x) n) s = .next (s.refuse (.s x) .abort .noLift (.bookState b.state)).transmit)
      ∧ (b.state ≠ .inspect →
          exec (.finish (.s x) n) s = .next (s.refuse (.s x) .finish .notInspect (.bookState b.state)).transmit))
    ∧ (∀ c, attends s (.c c) → s.noMap = false → (s.crane c).lift = some n → b.crane = c → b.number = n →
        s.map.commit = .idle →
        (b.state = .admitted ∨ b.state = .landing) →
        let hold := b.inspect = true ∨ s.map.params.endHold = .all ∨ (s.map.params.endHold = .heavy ∧ b.cls = .heavy)
        (¬hold → ends (.endLift (.c c)) (.c c) .endLift (.ended n (.outcome .complete)) .complete none)
        ∧ (hold →
            ∃ t, exec (.endLift (.c c)) s = .next t
              ∧ responds t (.c c) .endLift .ok none (.ended n (.state .inspect))
              ∧ t.booking n = some { b with state := .inspect } ∧ (t.crane c).lift = some n ∧ t.cells = s.cells
              ∧ bookingTold s t b (some b.state) (.state .inspect)
              ∧ (∀ j, j ≠ n → t.booking j = s.booking j) ∧ t.book.next = s.book.next
              ∧ t.envs = s.envs ∧ keepsSite s t ∧ keepsPorts (some (.c c)) s t ∧ keepsPlant s t))

/-- R144 to R146: SETCLOCK sets the clock and starts its second afresh; a backward setting leaves no booking DUE whose
start is above the new value, a forward one no booking that waits past its late limit. The response carries the former
and the new value and how many bookings were made DUE, ended LAPSED and returned to BOOKED: of the former book, those
whose start and late limit the rules name. With no commit pending, every HELD cell keeps its holder, and the bookings
are judged one by one: one that lapses or is returned to BOOKED has no claim left, one made DUE is in the book, DUE or
ADMITTED, and those the rules do not name stay (`bookJudgedAt`). A cell that a claim leaves keeps its other
entries, its recall ends where the claim was its head, and a new head is served (`claimsLeft`; for a forward setting, of
the cells that no booking made DUE names). Each end, change of state, admission and overrun is told (R130, R154). Where
a commit is pending, an activation may cancel a booking first (R17). The numbers of a book are unique (R129, BookStaysBounded). -/
def Obligations.SetClockJudgesTheBook : Prop :=
  ∀ (x : Sup) (v : Nat) (s : State), attends s (.s x) → x = s.holder →
    let among := fun p : Booking → Bool => (s.book.live.filter p).length
    let lapsed := if s.clock.count < v then among fun b =>
      (b.state == .referred || b.state == .booked || b.state == .due) && decide (b.start + b.late ≤ v) else 0
    let returned := if v < s.clock.count then among fun b => b.state == .due && decide (v < b.start) else 0
    let madeDue := if s.clock.count < v then among fun b =>
      b.state == .booked && decide (b.start ≤ v ∧ v < b.start + b.late) else 0
    (4294967295 < v → exec (.setClock (.s x) v) s = .next (s.refuse (.s x) .setClock .badField).transmit)
    ∧ (v ≤ 4294967295 →
        ∃ t made, exec (.setClock (.s x) v) s = .next t
          ∧ responds t (.s x) .setClock .ok none (.clockSet s.clock.count v made lapsed returned)
          ∧ (s.map.commit = .idle → (s.book.live.map (·.number)).Nodup → made = madeDue)
          ∧ (v ≤ s.clock.count → made = 0)
          ∧ t.clock = ⟨v, true, 1000⟩
          ∧ (v < s.clock.count → ∀ n b, t.booking n = some b → b.state = .due → b.start ≤ v)
          ∧ (s.clock.count < v → ∀ n b, t.booking n = some b → b.state = .booked ∨ b.state = .referred →
              v < b.start + b.late)
          ∧ (v = s.clock.count → t.book = s.book ∧ t.cells = s.cells)
          ∧ (s.map.commit = .idle →
              keepsHolders s t ∧ t.envs = s.envs ∧ keepsPlant s t ∧ t.book.next = s.book.next
                ∧ ((s.book.live.map (·.number)).Nodup →
                  (s.clock.count < v → bookJudgedAt v s t ∧ ∀ n b, s.booking n = some b →
                    b.state = .referred ∨ b.state = .booked ∨ b.state = .due → b.start + b.late ≤ v →
                    t.booking n = none ∧ claimsGone t n b.crane ∧ bookingTold s t b (some b.state) (.outcome .lapsed))
                  ∧ (s.clock.count < v → ∀ n b, s.booking n = some b → b.state = .booked → b.start ≤ v →
                    v < b.start + b.late → bookingTold s t b (some .booked) (.state .due))
                  ∧ (s.clock.count < v → ∀ y,
                    (∀ d ∈ s.book.live, d.state = .booked → d.start ≤ v → v < d.start + d.late → y ∉ d.cells) →
                    claimsLeft s t y (dueWhere s fun b => decide (b.start + b.late ≤ v)))
                  ∧ (∀ n b, s.booking n = some b → b.state = .booked ∨ b.state = .due → admissionTold s t b)
                  ∧ (∀ n b k, s.booking n = some b → t.booking n = some k → b.overrun = false → k.overrun = true →
                    overrunTold s t b)
                  ∧ (v < s.clock.count → ∀ y, claimsLeft s t y (dueWhere s fun b => decide (v < b.start)))
                  ∧ (v < s.clock.count → ∀ n b, s.booking n = some b →
                    (b.state = .due → v < b.start →
                      t.booking n = some { b with state := .booked } ∧ claimsGone t n b.crane
                        ∧ bookingTold s t b (some .due) (.state .booked))
                    ∧ (b.state = .due → b.start ≤ v →
                      t.booking n = some b ∨ t.booking n = some { b with state := .admitted })
                    ∧ (b.state ≠ .due → t.booking n = some b))))
          ∧ (∀ y, (s.port (.s y)).mask.site = true → told t (.s y) (.clock s.clock.count v (.s x)))
          ∧ t.pending = s.pending ∧ t.phase = .running ∧ t.meas = s.meas ∧ t.holder = s.holder
          ∧ t.takeKey = s.takeKey ∧ keepsPorts (some (.s x)) s t)

/-- R143, R147: a clock second counts by one while the clock is set and below its top, and judges the book: no REFERRED
booking outlives its late limit, no BOOKED booking its start, and a lift past its window has its overrun marked. A DUE
booking at its late limit ends LAPSED unless it is admitted at the same second (R152); where no booking becomes DUE at
the second, it ends with its claims withdrawn and its crane keeping what it holds; a cell that a claim leaves keeps its
other entries, its recall ends where the claim was its head, and a new head is served (`claimsLeft`). Each end, change of
state, admission and overrun is told (R130, R154). With no commit pending, every HELD
cell keeps its holder, a booking that ends has no claim left, a BOOKED one whose start has come and whose late limit
has not is in the book, DUE or ADMITTED, and those that R147 does not name stay (`bookJudgedAt`; the numbers of a book
are unique: R129, BookStaysBounded). The part of a second left to the next one is the model's own field (log entry 4).
-/
def Obligations.ClockSecondJudgesTheBook : Prop :=
  ∀ s : State, s.phase = .running →
    (s.clock.isSet = false ∨ s.clock.count = 4294967295 → exec .clockSecond s = .next s.transmit)
    ∧ (s.clock.isSet = true → s.clock.count < 4294967295 →
        ∃ t, exec .clockSecond s = .next t ∧ t.clock = ⟨s.clock.count + 1, true, 1000⟩
          ∧ (∀ n b, s.booking n = some b → b.state = .referred → b.start + b.late ≤ s.clock.count + 1 →
              t.booking n = none)
          ∧ (∀ n b, s.booking n = some b → b.state = .due → b.start + b.late ≤ s.clock.count + 1 →
              (∀ k, t.booking n = some k → k.state = .admitted)
              ∧ (s.map.commit = .idle → (∀ d ∈ s.book.live, d.state = .booked → s.clock.count + 1 < d.start) →
                  t.booking n = none ∧ (t.crane b.crane).due ≠ some n
                    ∧ (∀ x, (t.cell x).covered ≠ some n ∧ ∀ e ∈ (t.cell x).list, isClaimOf n e = false)
                    ∧ ∀ x g, (s.cell x).grant = some g → ∃ kind, (t.cell x).grant = some ⟨g.holder, kind⟩))
          ∧ (∀ n b, s.booking n = some b → b.state = .booked → b.start ≤ s.clock.count + 1 →
              ∀ k, t.booking n = some k → k.state = .due ∨ k.state = .admitted)
          ∧ (∀ n b k, s.booking n = some b → b.state = .admitted ∨ b.state = .landing →
              b.start + b.duration ≤ s.clock.count + 1 → t.booking n = some k → k.overrun = true)
          ∧ (s.map.commit = .idle →
              keepsHolders s t ∧ t.envs = s.envs ∧ keepsPlant s t ∧ t.book.next = s.book.next
                ∧ ((s.book.live.map (·.number)).Nodup →
                  bookJudgedAt (s.clock.count + 1) s t
                    ∧ (∀ n b, s.booking n = some b → t.booking n = none → claimsGone t n b.crane
                        ∧ bookingTold s t b (some (if b.state = .booked then .due else b.state)) (.outcome .lapsed))
                    ∧ (∀ n b, s.booking n = some b → b.state = .booked → b.start ≤ s.clock.count + 1 →
                        bookingTold s t b (some .booked) (.state .due))
                    ∧ (∀ n b, s.booking n = some b → b.state = .booked ∨ b.state = .due → admissionTold s t b)
                    ∧ (∀ n b k, s.booking n = some b → t.booking n = some k → b.overrun = false → k.overrun = true →
                        overrunTold s t b)
                    ∧ ((∀ d ∈ s.book.live, d.state = .booked → s.clock.count + 1 < d.start) →
                        ∀ y, claimsLeft s t y (dueWhere s fun b => decide (b.start + b.late ≤ s.clock.count + 1)))))
          ∧ t.pending = s.pending ∧ t.phase = .running ∧ t.meas = s.meas ∧ t.holder = s.holder
          ∧ t.takeKey = s.takeKey ∧ keepsPorts none s t)

/-! ### Store and resets (chapter 10) -/

/-- R165: a section write ends. That a section whose read-back does not match reads bad until it is written well is the
model's choice (log entry 13). A match clears the fault flag, a first mismatch writes the section once more, a second
sets the fault flag; the next waiting section is then written. -/
def Obligations.StoreWritesEndWithTheirReadBack : Prop :=
  ∀ (c : Content) (s : State), s.phase = .running → s.store.writing = some c →
    (∃ t, exec (.storeWriteDone true) s = .next t
      ∧ t.store = { holdSection s.store c true with
          fault := false, retry := false, writing := s.store.waiting.head?, waiting := s.store.waiting.tail }
      ∧ t.map = s.map ∧ t.cells = s.cells ∧ t.cranes = s.cranes ∧ t.wind = s.wind ∧ t.book = s.book ∧ keepsSite s t
      ∧ keepsPorts none s t)
    ∧ (s.store.retry = false →
        exec (.storeWriteDone false) s =
          .next (s.setStore { holdSection s.store c false with retry := true }).transmit)
    ∧ (s.store.retry = true →
        exec (.storeWriteDone false) s =
          .next ((s.setStore { holdSection s.store c false with
            fault := true, retry := false, writing := s.store.waiting.head?, waiting := s.store.waiting.tail }).notifyClass
              .site .storeFault).transmit)

/-- R86, R89, R95, R162, R165, R166: what taking a reset, and the loss of supply, leave at once (log entry 12: what
each leaves for start-up to load is the model's division). R165 says that a loss of supply during a write may leave the
section with a bad CRC; that the section being written otherwise keeps its former content, as the waiting ones do, is
the model's choice (log entry 27). -/
def Obligations.ResetsHoldTheOutputsAndEmptyThePorts : Prop :=
  ∀ s : State,
    let taken := fun (i : Instr) (cause : ResetCause) =>
      ∃ t, exec i s = .next t ∧ t.phase = .resetting ∧ t.cause = cause ∧ t.restartReady = false
        ∧ (∀ c, t.out c = { s.out c with lines := everyMotion, vane := if cause = .power then false else (s.out c).vane })
        ∧ (∀ l, t.sig l = { s.sig l with drive := .undriven, phase := none })
        ∧ (∀ p, t.port p = PortRec.reset (if p = .s .s1 then everyClass else noClasses))
        ∧ t.pending = s.pending ∧ t.map = s.map ∧ t.cranes = s.cranes ∧ t.envs = s.envs ∧ t.cells = s.cells
        ∧ t.sources = s.sources ∧ t.meas = s.meas ∧ t.wind = s.wind ∧ t.book = s.book ∧ t.clock = s.clock
        ∧ t.holder = s.holder ∧ t.takeKey = s.takeKey ∧ t.store = s.store
    taken .powerOnReset .power
    ∧ (s.phase = .running → taken .panelReset .panel)
    ∧ (s.phase = .running → s.restartReady = true → taken .restartReset .command)
    ∧ (∀ corrupt, exec (.lossOfSupply corrupt) s =
        .next { s with
          phase := .unpowered, restartReady := false,
          store := { (if corrupt then (match s.store.writing with
            | some c => holdSection s.store c false
            | none => s.store) else s.store) with writing := none, retry := false, waiting := [] } })

/-- R19, R20, R23, R37, R43, R58, R85, R88, R95, R97, R126, R127, R129, R143, R163, R165, R167: what start-up leaves,
by the cause of the reset (log entry 12: START_UP is the release of the reset with the store IDLE). That a return of
authority to S1 adds no notice AUTHORITY to STARTED is the model's choice (log entry 35). -/
def Obligations.StartUpLeavesTheTabledValues : Prop :=
  ∀ s : State, s.phase = .resetting → s.store.writing = none → s.store.waiting = [] →
    ∃ t, exec .startUp s = .next t ∧ t.phase = .running ∧ t.cause = s.cause ∧ t.restartReady = false
      ∧ t.map.active = (if s.cause = .command then s.map.active else s.store.map)
      ∧ t.map.params = (if s.cause = .command then s.map.params else s.store.options.getD SiteParams.default)
      ∧ t.map.staged = MapBody.empty ∧ t.map.stagedParams = SiteParams.default ∧ t.map.commit = .idle
      ∧ t.map.draining = Vector.replicate 64 false
      ∧ (∀ c, t.crane c = { CraneRec.reset with
          duty := if s.cause ≠ .power ∧ ((s.crane c).duty = .parked ∨ (s.crane c).duty = .outOfService)
            ∧ t.declared c = true then (s.crane c).duty else .undeclared })
      ∧ (∀ c, (t.env c).env = none ∧ (t.env c).sat = false ∧ (t.env c).reportSet = none)
      ∧ (∀ c, touchCells (t.env c) =
          if t.declared c = false then []
          else if (t.crane c).duty = .outOfService then oosSet t.map.active c else memberCells t.map.active c)
      ∧ t.cells = Vector.replicate 64 CellRec.reset
      ∧ (∀ c, (t.out c).lines = everyMotion ∧ (t.out c).src.manual = noMotion ∧ (t.out c).vane = (s.out c).vane
          ∧ (t.out c).composed = false ∧ (t.out c).check = .idle ∧ (t.out c).withheld = [])
      ∧ t.sources = sourcesOf t
      ∧ (∀ l, (t.sig l).cfg = ((s.store.signals.map fun v => v[l]).getD SigCfg.default)
          ∧ (t.sig l).drive = (if (t.sig l).cfg.enabled = false then .undriven
              else if (t.sig l).cfg.mode ≠ .pulse ∧ sourceValue t.sources (t.sig l).cfg.source = true then .active
              else .inactive)
          ∧ (t.sig l).phase = (if (t.sig l).cfg.enabled = true ∧ (t.sig l).cfg.mode = .flash
              ∧ sourceValue t.sources (t.sig l).cfg.source = true then some 500 else none))
      ∧ t.store = { s.store with
          fault := if s.cause = .command then s.store.fault else false
          loads :=
            { map := if s.cause = .command then s.store.loads.map else s.store.map.isSome
              options := if s.cause = .command then s.store.loads.options else s.store.options.isSome
              calibration := s.store.calibration.isSome, threshold := s.store.threshold.isSome
              signals := s.store.signals.isSome } }
      ∧ t.meas = Meas.reset (s.store.calibration.getD Cal.default) (s.store.threshold.getD defaultThresholds)
      ∧ (s.cause = .power ∨ (s.wind.state ≠ .stop ∧ s.wind.state ≠ .vane) → t.wind = WindRec.reset)
      ∧ (s.cause ≠ .power → s.wind.state = .stop ∨ s.wind.state = .vane →
          t.wind.state = s.wind.state ∧ t.wind.cause = s.wind.cause ∧ t.wind.manual = s.wind.manual
            ∧ t.wind.ready = false ∧ t.wind.alertCount = 0 ∧ t.wind.holdCount = 0 ∧ t.wind.stopCount = 0
            ∧ t.wind.parkTimer = (if s.wind.state = .stop then some (t.map.params.parkTimeout * 1000) else none))
      ∧ t.book = ⟨[], 1⟩ ∧ t.clock = (if s.cause = .power then ⟨0, false, 1000⟩ else s.clock)
      ∧ t.holder = .s1 ∧ t.takeKey = .unsettled
      ∧ (∀ x, (t.port (.s x)).notices = [.started s.cause t.store.loads])
      ∧ (∀ c, (t.port (.c c)).notices = [])
end

