-- ==== Sys2Proof/Laws/Checks.lean ====
section
/-! SUPPORT. The model's checks judge as the rules tell them: the ranges of a threshold set (R109) and of a BOOK (R133),
and the six checks of a staged map (R11). -/

namespace Sys2Proof.Machine.Laws

/-! ### Checks taken in order -/

/-- A check that names its value where it fails, before the checks that follow it. -/
theorem namesFirst_ite {α : Type} {ok bad : Prop} [Decidable bad] {a : α} {rest : List (Prop × α)} {e r : Option α}
    (h : bad ↔ ¬ok) (later : namesFirst rest r ↔ e = r) :
    namesFirst ((ok, a) :: rest) r ↔ (if bad then some a else e) = r := by
  unfold namesFirst
  by_cases hb : bad
  · rw [if_pos hb]
    exact ⟨fun k => (k.1 (h.mp hb)).symm, fun k => ⟨fun _ => k.symm, fun ho => absurd ho (h.mp hb)⟩⟩
  · rw [if_neg hb]
    have ho : ok := Classical.byContradiction fun n => hb (h.mpr n)
    exact ⟨fun k => later.mp (k.2 ho), fun k => ⟨fun n => absurd ho n, fun _ => later.mpr k⟩⟩

theorem namesFirst_nil {α : Type} {r : Option α} : namesFirst [] r ↔ none = r := eq_comm

/-- R109: the first failing value. -/
theorem thresholdsFailing_spec (t : Thresholds) (r : Option Nat) :
    namesFirst (thresholdChecks t) r ↔ thresholdsFailing t = r := by
  unfold thresholdChecks thresholdsFailing
  iterate 8 refine namesFirst_ite (by simp only [levelInRange, Bool.or_eq_true, decide_eq_true_eq]; omega) ?_
  iterate 9 refine namesFirst_ite (by omega) ?_
  exact namesFirst_nil

theorem loadClassOf_isNone (n : Nat) : (loadClassOf n).isNone = true ↔ ¬n ≤ 1 := by
  match n with
  | 0 => simp [loadClassOf]
  | 1 => simp [loadClassOf]
  | n + 2 => simp [loadClassOf]

theorem flagOf_isNone (n : Nat) : (flagOf n).isNone = true ↔ ¬n ≤ 1 := by
  match n with
  | 0 => simp [flagOf]
  | 1 => simp [flagOf]
  | n + 2 => simp [flagOf]

theorem cellOf_isSome (n : Nat) : (cellOf n).isSome = true ↔ 1 ≤ n ∧ n ≤ 64 := by
  unfold cellOf
  by_cases h : 1 ≤ n ∧ n ≤ 64
  · simp [h]
  · simp [h]

theorem hasRepeat_iff (l : List Nat) : hasRepeat l = true ↔ ¬l.Nodup := by
  induction l with
  | nil => simp [hasRepeat]
  | cons n ns ih => simp [hasRepeat, ih, List.nodup_cons]; tauto

/-- R133: the first failing field. -/
theorem bookFieldsFailing_spec (f : BookFields) (r : Option BookField) :
    namesFirst (bookFieldChecks f) r ↔ bookFieldsFailing f = r := by
  unfold bookFieldChecks bookFieldsFailing
  refine namesFirst_ite (by omega) (namesFirst_ite (by omega) (namesFirst_ite (loadClassOf_isNone _)
    (namesFirst_ite (flagOf_isNone _) (namesFirst_ite (by omega) (namesFirst_ite ?_ (namesFirst_ite (hasRepeat_iff _)
      (namesFirst_ite (by unfold Config.clockMax; omega) namesFirst_nil)))))))
  simp only [Bool.not_eq_true', List.all_eq_false, not_forall, cellOf_isSome]
  exact ⟨fun ⟨n, m, k⟩ => ⟨n, m, k⟩, fun ⟨n, m, k⟩ => ⟨n, m, k⟩⟩

/-! ### The staged map -/

/-- The first of a strictly rising list that passes a test, by its number. -/
theorem find_rising {k : Nat} (l : List (Fin k)) (p : Fin k → Bool) (hl : l.Pairwise (· < ·)) (hm : ∀ x, x ∈ l) :
    (∀ n, (l.find? p).map (fun x => x.val + 1) = some n ↔
      (∃ x, x.val + 1 = n ∧ p x = true) ∧ ∀ j, j < n → ¬∃ x : Fin k, x.val + 1 = j ∧ p x = true)
    ∧ (l.find? p = none ↔ ∀ n, ¬∃ x : Fin k, x.val + 1 = n ∧ p x = true) := by
  have least : ∀ x, l.find? p = some x → p x = true ∧ ∀ y, y < x → p y = false := by
    intro x h
    obtain ⟨hp, as, bs, rfl, ha⟩ := List.find?_eq_some_iff_append.mp h
    refine ⟨hp, fun y hy => ?_⟩
    rcases List.mem_append.mp (hm y) with h1 | h1
    · simpa using ha y h1
    · have hx : ∀ z ∈ x :: bs, x ≤ z := by
        intro z hz
        rcases List.mem_cons.mp hz with rfl | hz
        · exact le_rfl
        · exact le_of_lt ((List.pairwise_cons.mp (List.pairwise_append.mp hl).2.1).1 z hz)
      exact absurd hy (not_lt.mpr (hx y h1))
  constructor
  · intro n
    rcases hf : l.find? p with _ | x
    · simp only [Option.map_none, reduceCtorEq, false_iff, not_and]
      rintro ⟨x, -, hx⟩
      exact absurd hx (List.find?_eq_none.mp hf x (hm x))
    · obtain ⟨hp, hlow⟩ := least x hf
      simp only [Option.map_some, Option.some.injEq]
      constructor
      · rintro rfl
        refine ⟨⟨x, rfl, hp⟩, ?_⟩
        rintro j hj ⟨y, rfl, hy⟩
        have : y < x := by
          rw [Fin.lt_def]; omega
        rw [hlow y this] at hy
        exact Bool.noConfusion hy
      · rintro ⟨⟨y, rfl, hy⟩, hn⟩
        rcases lt_trichotomy x y with h | h | h
        · exact absurd ⟨x, rfl, hp⟩ (hn (x.val + 1) (by rw [Fin.lt_def] at h; omega))
        · rw [h]
        · rw [hlow y h] at hy
          exact Bool.noConfusion hy
  · constructor
    · rintro hf n ⟨x, -, hx⟩
      exact absurd hx (List.find?_eq_none.mp hf x (hm x))
    · intro h
      exact List.find?_eq_none.mpr fun x _ hx => h _ ⟨x, rfl, hx⟩

/-- The numbers at which a test of every cell record fails. -/
def cellFails (m : MapBody) (bad : CellDecl → Bool) (n : Nat) : Prop :=
  ∃ x : CellNo, x.val + 1 = n ∧ (m.cells[x]).any bad = true

/-- The numbers at which a test of every declaration fails. -/
def craneFails (m : MapBody) (bad : Crane → Decl → Bool) (n : Nat) : Prop :=
  ∃ c : Crane, c.val + 1 = n ∧ (m.decls[c]).any (bad c) = true

theorem firstCell_spec (m : MapBody) (bad : CellDecl → Bool) :
    (∀ n, firstCell m bad = some n ↔ cellFails m bad n ∧ ∀ j, j < n → ¬cellFails m bad j)
      ∧ (firstCell m bad = none ↔ ∀ n, ¬cellFails m bad n) := by
  have h := find_rising allCells (fun x => (m.cells[x]).any bad) (by decide +kernel) (List.mem_finRange)
  exact ⟨h.1, (Option.map_eq_none_iff).trans h.2⟩

theorem firstCrane_spec (m : MapBody) (bad : Crane → Decl → Bool) :
    (∀ n, firstCrane m bad = some n ↔ craneFails m bad n ∧ ∀ j, j < n → ¬craneFails m bad j)
      ∧ (firstCrane m bad = none ↔ ∀ n, ¬craneFails m bad n) := by
  have h := find_rising allCranes (fun c => (m.decls[c]).any (bad c)) (by decide +kernel) (List.mem_finRange)
  exact ⟨h.1, (Option.map_eq_none_iff).trans h.2⟩

theorem cellFails_iff (m : MapBody) (bad : CellDecl → Bool) (ok : CellDecl → Prop)
    (h : ∀ (x : CellNo) (d : CellDecl), m.cells[x] = some d → (bad d = true ↔ ¬ok d)) (n : Nat) :
    cellFails m bad n ↔ ∃ (x : CellNo) (d : CellDecl), cellNo x = n ∧ m.cells[x] = some d ∧ ¬ok d := by
  constructor
  · rintro ⟨x, hn, hb⟩
    obtain ⟨d, hd, hb⟩ := (Option.any_eq_true _ _).mp hb
    exact ⟨x, d, hn, hd, (h x d hd).mp hb⟩
  · rintro ⟨x, d, hn, hd, hb⟩
    exact ⟨x, hn, (Option.any_eq_true _ _).mpr ⟨d, hd, (h x d hd).mpr hb⟩⟩

theorem craneFails_iff (m : MapBody) (bad : Crane → Decl → Bool) (ok : Crane → Decl → Prop)
    (h : ∀ c d, bad c d = true ↔ ¬ok c d) (n : Nat) :
    craneFails m bad n ↔ ∃ (c : Crane) (d : Decl), craneNo c = n ∧ m.decls[c] = some d ∧ ¬ok c d := by
  constructor
  · rintro ⟨c, hn, hb⟩
    obtain ⟨d, hd, hb⟩ := (Option.any_eq_true _ _).mp hb
    exact ⟨c, d, hn, hd, (h c d).mp hb⟩
  · rintro ⟨c, d, hn, hd, hb⟩
    exact ⟨c, hn, (Option.any_eq_true _ _).mpr ⟨d, hd, (h c d).mpr hb⟩⟩

theorem declOfNumber_eq_some (m : MapBody) (n : Nat) (e : Decl) : declOfNumber m n = some e ↔ declares m n e := by
  unfold declOfNumber declares craneOf
  constructor
  · intro h
    by_cases hn : 1 ≤ n ∧ n ≤ 8
    · simp only [hn, and_self, dite_true, Option.bind_some] at h
      exact ⟨⟨n - 1, by omega⟩, by simp only [craneNo]; omega, h⟩
    · simp [hn] at h
  · rintro ⟨c, rfl, h⟩
    have hn : 1 ≤ craneNo c ∧ craneNo c ≤ 8 := by unfold craneNo; omega
    simp only [hn, and_self, dite_true, Option.bind_some]
    exact h

theorem declInRange_false (d : Decl) : (!declInRange d) = true ↔ ¬declWithin d := by
  simp only [declInRange, declWithin, Bool.not_eq_true', decide_eq_false_iff_not]
  omega

theorem membersBad_iff (m : MapBody) (d : CellDecl) : membersBad m d = true ↔ ¬membersWithin m d := by
  have hd : ∀ k : Member, (declOfNumber m k.crane).isNone = true ↔ ¬∃ e, declares m k.crane e := by
    intro k
    rw [Option.isNone_iff_eq_none, ← not_iff_not, not_not, ← ne_eq, Option.ne_none_iff_exists']
    simp only [declOfNumber_eq_some]
  simp only [membersBad, membersWithin, Bool.or_eq_true, Bool.not_eq_true', Bool.or_eq_false_iff, beq_eq_false_iff_ne,
    List.any_eq_true, hd, hasRepeat_iff]
  constructor
  · rintro ((h | ⟨k, hk, h⟩) | h) ⟨h1, h2, h3⟩
    · exact h1.elim h.1 h.2
    · exact h (h2 k hk)
    · exact h h3
  · intro h
    by_contra hc
    obtain ⟨hc, h3⟩ := not_or.mp hc
    obtain ⟨h1, h2⟩ := not_or.mp hc
    refine h ⟨?_, fun k hk => ?_, not_not.mp h3⟩
    · by_contra hn
      exact h1 (not_or.mp hn)
    · by_contra hn
      exact h2 ⟨k, hk, hn⟩

theorem spanBad_iff (d : CellDecl) : spanBad d = true ↔ ¬spansWithin d := by
  simp only [spanBad, spansWithin, List.any_eq_true, decide_eq_true_eq, not_forall]
  constructor
  · rintro ⟨k, hk, h⟩
    exact ⟨k, hk, by omega⟩
  · rintro ⟨k, hk, h⟩
    exact ⟨k, hk, by omega⟩

/-- R11, check 4, on a cell record whose members are declared (check 2). -/
theorem bandBad_iff (m : MapBody) (d : CellDecl) (hd : ∀ k ∈ d.members, ∃ e, declares m k.crane e) :
    bandBad m d = true ↔ ¬bandsWithin m d := by
  have one : ∀ k ∈ d.members, bandBadMember m k = true ↔
      ¬∀ lo hi clearance, k.role = .line lo hi clearance →
        lo ≤ hi ∧ ∀ e, declares m k.crane e → hi ≤ e.jib ∧ clearance ≤ e.hookMax := by
    intro k hk
    obtain ⟨e, he⟩ := hd k hk
    have hs := (declOfNumber_eq_some m k.crane e).mpr he
    unfold bandBadMember
    rw [hs]
    rcases hr : k.role with _ | ⟨lo, hi, clearance⟩
    · simp
    · simp only [decide_eq_true_eq, Role.line.injEq, and_imp]
      constructor
      · intro h k
        have k := k lo hi clearance rfl rfl rfl
        have := k.2 e he
        omega
      · intro h
        by_contra hc
        refine h ?_
        rintro _ _ _ rfl rfl rfl
        refine ⟨by omega, fun e2 h2 => ?_⟩
        have : e2 = e := by
          have h3 := (declOfNumber_eq_some m k.crane e2).mpr h2
          rw [hs] at h3
          exact (Option.some.inj h3).symm
        subst this
        omega
  simp only [bandBad, bandsWithin, List.any_eq_true]
  constructor
  · rintro ⟨k, hk, h⟩ g
    exact (one k hk).mp h (g k hk)
  · intro h
    by_contra hc
    refine h fun k hk => ?_
    by_contra hn
    exact hc ⟨k, hk, (one k hk).mpr hn⟩

theorem memberIn_isSome (m : MapBody) (x : CellNo) (c : Crane) :
    (memberIn (some m) x c).isSome = (m.cells[x]).any fun d => d.members.any fun k => k.crane == craneNo c := by
  unfold memberIn cellIn
  rw [Option.bind_some]
  rcases m.cells[x] with _ | d
  · rfl
  · show (membership d c).isSome = d.members.any fun k => k.crane == craneNo c
    rw [Bool.eq_iff_iff, List.any_eq_true]
    exact List.find?_isSome

theorem limitBad_iff (m : MapBody) (c : Crane) : limitBad m c = true ↔ ¬(cellsOfCrane m c).length ≤ 24 := by
  unfold limitBad memberCells cellsOfCrane Config.memberMax
  simp only [memberIn_isSome, decide_eq_true_eq]
  omega

/-- A failure with no failure at an earlier check or a lower number is the first one, and no other is. -/
theorem failsFirst_unique {m : MapBody} {f : MapFailure} {a : Nat} (hf : failsFirst m f a) :
    (∀ g n, some (f, a) = some (g, n) ↔ failsFirst m g n) ∧ (some (f, a) = none ↔ mapValid m) := by
  have place : ∀ g, checkPlace g = checkPlace f → g = f := by
    intro g
    cases g <;> cases f <;> simp [checkPlace]
  refine ⟨fun g n => ⟨?_, ?_⟩, ⟨nofun, fun h => absurd hf.1 (h f a)⟩⟩
  · intro h
    obtain ⟨rfl, rfl⟩ := Prod.mk.inj (Option.some.inj h)
    exact hf
  · rintro ⟨h1, h2, h3⟩
    rcases lt_trichotomy (checkPlace g) (checkPlace f) with h | h | h
    · exact absurd h1 (hf.2.1 g n h)
    · obtain rfl := place g h
      rcases lt_trichotomy n a with k | k | k
      · exact absurd h1 (hf.2.2 n k)
      · rw [k]
      · exact absurd hf.1 (h3 a k)
    · exact absurd hf.1 (h2 f a h)

/-- R11: the first failure, or none where the map passes the six checks. -/
theorem validate_spec (m : MapBody) :
    (∀ f n, validate m = some (f, n) ↔ failsFirst m f n) ∧ (validate m = none ↔ mapValid m) := by
  have e1 : ∀ n, craneFails m (fun _ d => !declInRange d) n ↔ checkFails m .range n :=
    craneFails_iff m _ (fun _ d => declWithin d) fun _ => declInRange_false
  have e2 : ∀ n, cellFails m (membersBad m) n ↔ checkFails m .members n :=
    cellFails_iff m _ _ fun _ d _ => membersBad_iff m d
  have e3 : ∀ n, cellFails m spanBad n ↔ checkFails m .span n := cellFails_iff m _ _ fun _ d _ => spanBad_iff d
  have e4 : (∀ j, ¬checkFails m .members j) → ∀ n, cellFails m (bandBad m) n ↔ checkFails m .band n := fun h =>
    cellFails_iff m _ _ fun x d hd => bandBad_iff m d
      (Classical.byContradiction fun hn => h (cellNo x) ⟨x, d, rfl, hd, fun w => hn w.2.1⟩)
  have e5 : ∀ n, craneFails m (fun c _ => limitBad m c) n ↔ checkFails m .limit n :=
    craneFails_iff m _ (fun c _ => (cellsOfCrane m c).length ≤ 24) fun c _ => limitBad_iff m c
  have e6 : ∀ n, cellFails m (vaneConflict m) n ↔ checkFails m .vane n :=
    cellFails_iff m _ (fun d => vaneConflict m d = false) fun _ d _ => (Bool.not_eq_false (vaneConflict m d)).symm.to_iff
  have earlier : ∀ {f : MapFailure} {a : Nat}, checkFails m f a → (∀ j, j < a → ¬checkFails m f j) →
      (∀ g, checkPlace g < checkPlace f → ∀ j, ¬checkFails m g j) → failsFirst m f a :=
    fun h1 h2 h3 => ⟨h1, fun g j h => h3 g h j, h2⟩
  have s1 := firstCrane_spec m fun _ d => !declInRange d
  have s2 := firstCell_spec m (membersBad m)
  have s3 := firstCell_spec m spanBad
  have s4 := firstCell_spec m (bandBad m)
  have s5 := firstCrane_spec m fun c _ => limitBad m c
  have s6 := firstCell_spec m (vaneConflict m)
  simp only [e1] at s1
  simp only [e2] at s2
  simp only [e3] at s3
  simp only [e5] at s5
  simp only [e6] at s6
  unfold validate
  rcases h1 : firstCrane m (fun _ d => !declInRange d) with _ | a
  swap
  · have k := (s1.1 a).mp h1
    exact failsFirst_unique (earlier k.1 k.2 fun g h => by cases g <;> simp [checkPlace] at h)
  have n1 := s1.2.mp h1
  rcases h2 : firstCell m (membersBad m) with _ | a
  swap
  · have k := (s2.1 a).mp h2
    refine failsFirst_unique (earlier k.1 k.2 fun g h => ?_)
    cases g <;> first | assumption | simp [checkPlace] at h
  have n2 := s2.2.mp h2
  simp only [e4 n2] at s4
  rcases h3 : firstCell m spanBad with _ | a
  swap
  · have k := (s3.1 a).mp h3
    refine failsFirst_unique (earlier k.1 k.2 fun g h => ?_)
    cases g <;> first | assumption | simp [checkPlace] at h
  have n3 := s3.2.mp h3
  rcases h4 : firstCell m (bandBad m) with _ | a
  swap
  · have k := (s4.1 a).mp h4
    refine failsFirst_unique (earlier k.1 k.2 fun g h => ?_)
    cases g <;> first | assumption | simp [checkPlace] at h
  have n4 := s4.2.mp h4
  rcases h5 : firstCrane m (fun c _ => limitBad m c) with _ | a
  swap
  · have k := (s5.1 a).mp h5
    refine failsFirst_unique (earlier k.1 k.2 fun g h => ?_)
    cases g <;> first | assumption | simp [checkPlace] at h
  have n5 := s5.2.mp h5
  rcases h6 : firstCell m (vaneConflict m) with _ | a
  swap
  · have k := (s6.1 a).mp h6
    refine failsFirst_unique (earlier k.1 k.2 fun g h => ?_)
    cases g <;> first | assumption | simp [checkPlace] at h
  have n6 := s6.2.mp h6
  have valid : mapValid m := by
    intro f n
    cases f
    · exact n1 n
    · exact n2 n
    · exact n3 n
    · exact n4 n
    · exact n5 n
    · exact n6 n
  exact ⟨fun f n => ⟨nofun, fun h => absurd h.1 (valid f n)⟩, ⟨fun _ => valid, fun _ => rfl⟩⟩

end Sys2Proof.Machine.Laws
end

