-- ==== Sys2Proof/Laws/State.lean ====
section
/-! SUPPORT. What each update of the state leaves in each field: one lemma per field per update, and the reads of the
tables' records after an update. -/

namespace Sys2Proof.Machine

namespace Laws

variable (s : State)


/-! ### `modCrane` -/

@[simp] theorem modCrane_pending (c : Crane) (f : CraneRec → CraneRec) : (s.modCrane c f).pending = s.pending := rfl
@[simp] theorem modCrane_phase (c : Crane) (f : CraneRec → CraneRec) : (s.modCrane c f).phase = s.phase := rfl
@[simp] theorem modCrane_cause (c : Crane) (f : CraneRec → CraneRec) : (s.modCrane c f).cause = s.cause := rfl
@[simp] theorem modCrane_restartReady (c : Crane) (f : CraneRec → CraneRec) : (s.modCrane c f).restartReady = s.restartReady := rfl
@[simp] theorem modCrane_map (c : Crane) (f : CraneRec → CraneRec) : (s.modCrane c f).map = s.map := rfl
@[simp] theorem modCrane_envs (c : Crane) (f : CraneRec → CraneRec) : (s.modCrane c f).envs = s.envs := rfl
@[simp] theorem modCrane_cells (c : Crane) (f : CraneRec → CraneRec) : (s.modCrane c f).cells = s.cells := rfl
@[simp] theorem modCrane_outs (c : Crane) (f : CraneRec → CraneRec) : (s.modCrane c f).outs = s.outs := rfl
@[simp] theorem modCrane_sigs (c : Crane) (f : CraneRec → CraneRec) : (s.modCrane c f).sigs = s.sigs := rfl
@[simp] theorem modCrane_sources (c : Crane) (f : CraneRec → CraneRec) : (s.modCrane c f).sources = s.sources := rfl
@[simp] theorem modCrane_meas (c : Crane) (f : CraneRec → CraneRec) : (s.modCrane c f).meas = s.meas := rfl
@[simp] theorem modCrane_wind (c : Crane) (f : CraneRec → CraneRec) : (s.modCrane c f).wind = s.wind := rfl
@[simp] theorem modCrane_book (c : Crane) (f : CraneRec → CraneRec) : (s.modCrane c f).book = s.book := rfl
@[simp] theorem modCrane_clock (c : Crane) (f : CraneRec → CraneRec) : (s.modCrane c f).clock = s.clock := rfl
@[simp] theorem modCrane_holder (c : Crane) (f : CraneRec → CraneRec) : (s.modCrane c f).holder = s.holder := rfl
@[simp] theorem modCrane_takeKey (c : Crane) (f : CraneRec → CraneRec) : (s.modCrane c f).takeKey = s.takeKey := rfl
@[simp] theorem modCrane_store (c : Crane) (f : CraneRec → CraneRec) : (s.modCrane c f).store = s.store := rfl
@[simp] theorem modCrane_ports (c : Crane) (f : CraneRec → CraneRec) : (s.modCrane c f).ports = s.ports := rfl

/-! ### `modEnv` -/

@[simp] theorem modEnv_pending (c : Crane) (f : EnvRec → EnvRec) : (s.modEnv c f).pending = s.pending := rfl
@[simp] theorem modEnv_phase (c : Crane) (f : EnvRec → EnvRec) : (s.modEnv c f).phase = s.phase := rfl
@[simp] theorem modEnv_cause (c : Crane) (f : EnvRec → EnvRec) : (s.modEnv c f).cause = s.cause := rfl
@[simp] theorem modEnv_restartReady (c : Crane) (f : EnvRec → EnvRec) : (s.modEnv c f).restartReady = s.restartReady := rfl
@[simp] theorem modEnv_map (c : Crane) (f : EnvRec → EnvRec) : (s.modEnv c f).map = s.map := rfl
@[simp] theorem modEnv_cranes (c : Crane) (f : EnvRec → EnvRec) : (s.modEnv c f).cranes = s.cranes := rfl
@[simp] theorem modEnv_cells (c : Crane) (f : EnvRec → EnvRec) : (s.modEnv c f).cells = s.cells := rfl
@[simp] theorem modEnv_outs (c : Crane) (f : EnvRec → EnvRec) : (s.modEnv c f).outs = s.outs := rfl
@[simp] theorem modEnv_sigs (c : Crane) (f : EnvRec → EnvRec) : (s.modEnv c f).sigs = s.sigs := rfl
@[simp] theorem modEnv_sources (c : Crane) (f : EnvRec → EnvRec) : (s.modEnv c f).sources = s.sources := rfl
@[simp] theorem modEnv_meas (c : Crane) (f : EnvRec → EnvRec) : (s.modEnv c f).meas = s.meas := rfl
@[simp] theorem modEnv_wind (c : Crane) (f : EnvRec → EnvRec) : (s.modEnv c f).wind = s.wind := rfl
@[simp] theorem modEnv_book (c : Crane) (f : EnvRec → EnvRec) : (s.modEnv c f).book = s.book := rfl
@[simp] theorem modEnv_clock (c : Crane) (f : EnvRec → EnvRec) : (s.modEnv c f).clock = s.clock := rfl
@[simp] theorem modEnv_holder (c : Crane) (f : EnvRec → EnvRec) : (s.modEnv c f).holder = s.holder := rfl
@[simp] theorem modEnv_takeKey (c : Crane) (f : EnvRec → EnvRec) : (s.modEnv c f).takeKey = s.takeKey := rfl
@[simp] theorem modEnv_store (c : Crane) (f : EnvRec → EnvRec) : (s.modEnv c f).store = s.store := rfl
@[simp] theorem modEnv_ports (c : Crane) (f : EnvRec → EnvRec) : (s.modEnv c f).ports = s.ports := rfl

/-! ### `modCell` -/

@[simp] theorem modCell_pending (x : CellNo) (f : CellRec → CellRec) : (s.modCell x f).pending = s.pending := rfl
@[simp] theorem modCell_phase (x : CellNo) (f : CellRec → CellRec) : (s.modCell x f).phase = s.phase := rfl
@[simp] theorem modCell_cause (x : CellNo) (f : CellRec → CellRec) : (s.modCell x f).cause = s.cause := rfl
@[simp] theorem modCell_restartReady (x : CellNo) (f : CellRec → CellRec) : (s.modCell x f).restartReady = s.restartReady := rfl
@[simp] theorem modCell_map (x : CellNo) (f : CellRec → CellRec) : (s.modCell x f).map = s.map := rfl
@[simp] theorem modCell_cranes (x : CellNo) (f : CellRec → CellRec) : (s.modCell x f).cranes = s.cranes := rfl
@[simp] theorem modCell_envs (x : CellNo) (f : CellRec → CellRec) : (s.modCell x f).envs = s.envs := rfl
@[simp] theorem modCell_outs (x : CellNo) (f : CellRec → CellRec) : (s.modCell x f).outs = s.outs := rfl
@[simp] theorem modCell_sigs (x : CellNo) (f : CellRec → CellRec) : (s.modCell x f).sigs = s.sigs := rfl
@[simp] theorem modCell_sources (x : CellNo) (f : CellRec → CellRec) : (s.modCell x f).sources = s.sources := rfl
@[simp] theorem modCell_meas (x : CellNo) (f : CellRec → CellRec) : (s.modCell x f).meas = s.meas := rfl
@[simp] theorem modCell_wind (x : CellNo) (f : CellRec → CellRec) : (s.modCell x f).wind = s.wind := rfl
@[simp] theorem modCell_book (x : CellNo) (f : CellRec → CellRec) : (s.modCell x f).book = s.book := rfl
@[simp] theorem modCell_clock (x : CellNo) (f : CellRec → CellRec) : (s.modCell x f).clock = s.clock := rfl
@[simp] theorem modCell_holder (x : CellNo) (f : CellRec → CellRec) : (s.modCell x f).holder = s.holder := rfl
@[simp] theorem modCell_takeKey (x : CellNo) (f : CellRec → CellRec) : (s.modCell x f).takeKey = s.takeKey := rfl
@[simp] theorem modCell_store (x : CellNo) (f : CellRec → CellRec) : (s.modCell x f).store = s.store := rfl
@[simp] theorem modCell_ports (x : CellNo) (f : CellRec → CellRec) : (s.modCell x f).ports = s.ports := rfl

/-! ### `modOut` -/

@[simp] theorem modOut_pending (c : Crane) (f : OutRec → OutRec) : (s.modOut c f).pending = s.pending := rfl
@[simp] theorem modOut_phase (c : Crane) (f : OutRec → OutRec) : (s.modOut c f).phase = s.phase := rfl
@[simp] theorem modOut_cause (c : Crane) (f : OutRec → OutRec) : (s.modOut c f).cause = s.cause := rfl
@[simp] theorem modOut_restartReady (c : Crane) (f : OutRec → OutRec) : (s.modOut c f).restartReady = s.restartReady := rfl
@[simp] theorem modOut_map (c : Crane) (f : OutRec → OutRec) : (s.modOut c f).map = s.map := rfl
@[simp] theorem modOut_cranes (c : Crane) (f : OutRec → OutRec) : (s.modOut c f).cranes = s.cranes := rfl
@[simp] theorem modOut_envs (c : Crane) (f : OutRec → OutRec) : (s.modOut c f).envs = s.envs := rfl
@[simp] theorem modOut_cells (c : Crane) (f : OutRec → OutRec) : (s.modOut c f).cells = s.cells := rfl
@[simp] theorem modOut_sigs (c : Crane) (f : OutRec → OutRec) : (s.modOut c f).sigs = s.sigs := rfl
@[simp] theorem modOut_sources (c : Crane) (f : OutRec → OutRec) : (s.modOut c f).sources = s.sources := rfl
@[simp] theorem modOut_meas (c : Crane) (f : OutRec → OutRec) : (s.modOut c f).meas = s.meas := rfl
@[simp] theorem modOut_wind (c : Crane) (f : OutRec → OutRec) : (s.modOut c f).wind = s.wind := rfl
@[simp] theorem modOut_book (c : Crane) (f : OutRec → OutRec) : (s.modOut c f).book = s.book := rfl
@[simp] theorem modOut_clock (c : Crane) (f : OutRec → OutRec) : (s.modOut c f).clock = s.clock := rfl
@[simp] theorem modOut_holder (c : Crane) (f : OutRec → OutRec) : (s.modOut c f).holder = s.holder := rfl
@[simp] theorem modOut_takeKey (c : Crane) (f : OutRec → OutRec) : (s.modOut c f).takeKey = s.takeKey := rfl
@[simp] theorem modOut_store (c : Crane) (f : OutRec → OutRec) : (s.modOut c f).store = s.store := rfl
@[simp] theorem modOut_ports (c : Crane) (f : OutRec → OutRec) : (s.modOut c f).ports = s.ports := rfl

/-! ### `modSig` -/

@[simp] theorem modSig_pending (l : SigLine) (f : SigRec → SigRec) : (s.modSig l f).pending = s.pending := rfl
@[simp] theorem modSig_phase (l : SigLine) (f : SigRec → SigRec) : (s.modSig l f).phase = s.phase := rfl
@[simp] theorem modSig_cause (l : SigLine) (f : SigRec → SigRec) : (s.modSig l f).cause = s.cause := rfl
@[simp] theorem modSig_restartReady (l : SigLine) (f : SigRec → SigRec) : (s.modSig l f).restartReady = s.restartReady := rfl
@[simp] theorem modSig_map (l : SigLine) (f : SigRec → SigRec) : (s.modSig l f).map = s.map := rfl
@[simp] theorem modSig_cranes (l : SigLine) (f : SigRec → SigRec) : (s.modSig l f).cranes = s.cranes := rfl
@[simp] theorem modSig_envs (l : SigLine) (f : SigRec → SigRec) : (s.modSig l f).envs = s.envs := rfl
@[simp] theorem modSig_cells (l : SigLine) (f : SigRec → SigRec) : (s.modSig l f).cells = s.cells := rfl
@[simp] theorem modSig_outs (l : SigLine) (f : SigRec → SigRec) : (s.modSig l f).outs = s.outs := rfl
@[simp] theorem modSig_sources (l : SigLine) (f : SigRec → SigRec) : (s.modSig l f).sources = s.sources := rfl
@[simp] theorem modSig_meas (l : SigLine) (f : SigRec → SigRec) : (s.modSig l f).meas = s.meas := rfl
@[simp] theorem modSig_wind (l : SigLine) (f : SigRec → SigRec) : (s.modSig l f).wind = s.wind := rfl
@[simp] theorem modSig_book (l : SigLine) (f : SigRec → SigRec) : (s.modSig l f).book = s.book := rfl
@[simp] theorem modSig_clock (l : SigLine) (f : SigRec → SigRec) : (s.modSig l f).clock = s.clock := rfl
@[simp] theorem modSig_holder (l : SigLine) (f : SigRec → SigRec) : (s.modSig l f).holder = s.holder := rfl
@[simp] theorem modSig_takeKey (l : SigLine) (f : SigRec → SigRec) : (s.modSig l f).takeKey = s.takeKey := rfl
@[simp] theorem modSig_store (l : SigLine) (f : SigRec → SigRec) : (s.modSig l f).store = s.store := rfl
@[simp] theorem modSig_ports (l : SigLine) (f : SigRec → SigRec) : (s.modSig l f).ports = s.ports := rfl

/-! ### `modPort` -/

@[simp] theorem modPort_pending (p : Port) (f : PortRec → PortRec) : (s.modPort p f).pending = s.pending := rfl
@[simp] theorem modPort_phase (p : Port) (f : PortRec → PortRec) : (s.modPort p f).phase = s.phase := rfl
@[simp] theorem modPort_cause (p : Port) (f : PortRec → PortRec) : (s.modPort p f).cause = s.cause := rfl
@[simp] theorem modPort_restartReady (p : Port) (f : PortRec → PortRec) : (s.modPort p f).restartReady = s.restartReady := rfl
@[simp] theorem modPort_map (p : Port) (f : PortRec → PortRec) : (s.modPort p f).map = s.map := rfl
@[simp] theorem modPort_cranes (p : Port) (f : PortRec → PortRec) : (s.modPort p f).cranes = s.cranes := rfl
@[simp] theorem modPort_envs (p : Port) (f : PortRec → PortRec) : (s.modPort p f).envs = s.envs := rfl
@[simp] theorem modPort_cells (p : Port) (f : PortRec → PortRec) : (s.modPort p f).cells = s.cells := rfl
@[simp] theorem modPort_outs (p : Port) (f : PortRec → PortRec) : (s.modPort p f).outs = s.outs := rfl
@[simp] theorem modPort_sigs (p : Port) (f : PortRec → PortRec) : (s.modPort p f).sigs = s.sigs := rfl
@[simp] theorem modPort_sources (p : Port) (f : PortRec → PortRec) : (s.modPort p f).sources = s.sources := rfl
@[simp] theorem modPort_meas (p : Port) (f : PortRec → PortRec) : (s.modPort p f).meas = s.meas := rfl
@[simp] theorem modPort_wind (p : Port) (f : PortRec → PortRec) : (s.modPort p f).wind = s.wind := rfl
@[simp] theorem modPort_book (p : Port) (f : PortRec → PortRec) : (s.modPort p f).book = s.book := rfl
@[simp] theorem modPort_clock (p : Port) (f : PortRec → PortRec) : (s.modPort p f).clock = s.clock := rfl
@[simp] theorem modPort_holder (p : Port) (f : PortRec → PortRec) : (s.modPort p f).holder = s.holder := rfl
@[simp] theorem modPort_takeKey (p : Port) (f : PortRec → PortRec) : (s.modPort p f).takeKey = s.takeKey := rfl
@[simp] theorem modPort_store (p : Port) (f : PortRec → PortRec) : (s.modPort p f).store = s.store := rfl

/-! ### `setMap` -/

@[simp] theorem setMap_pending (a : MapUnit) : (s.setMap a).pending = s.pending := rfl
@[simp] theorem setMap_phase (a : MapUnit) : (s.setMap a).phase = s.phase := rfl
@[simp] theorem setMap_cause (a : MapUnit) : (s.setMap a).cause = s.cause := rfl
@[simp] theorem setMap_restartReady (a : MapUnit) : (s.setMap a).restartReady = s.restartReady := rfl
@[simp] theorem setMap_map (a : MapUnit) : (s.setMap a).map = a := rfl
@[simp] theorem setMap_cranes (a : MapUnit) : (s.setMap a).cranes = s.cranes := rfl
@[simp] theorem setMap_envs (a : MapUnit) : (s.setMap a).envs = s.envs := rfl
@[simp] theorem setMap_cells (a : MapUnit) : (s.setMap a).cells = s.cells := rfl
@[simp] theorem setMap_outs (a : MapUnit) : (s.setMap a).outs = s.outs := rfl
@[simp] theorem setMap_sigs (a : MapUnit) : (s.setMap a).sigs = s.sigs := rfl
@[simp] theorem setMap_sources (a : MapUnit) : (s.setMap a).sources = s.sources := rfl
@[simp] theorem setMap_meas (a : MapUnit) : (s.setMap a).meas = s.meas := rfl
@[simp] theorem setMap_wind (a : MapUnit) : (s.setMap a).wind = s.wind := rfl
@[simp] theorem setMap_book (a : MapUnit) : (s.setMap a).book = s.book := rfl
@[simp] theorem setMap_clock (a : MapUnit) : (s.setMap a).clock = s.clock := rfl
@[simp] theorem setMap_holder (a : MapUnit) : (s.setMap a).holder = s.holder := rfl
@[simp] theorem setMap_takeKey (a : MapUnit) : (s.setMap a).takeKey = s.takeKey := rfl
@[simp] theorem setMap_store (a : MapUnit) : (s.setMap a).store = s.store := rfl
@[simp] theorem setMap_ports (a : MapUnit) : (s.setMap a).ports = s.ports := rfl

/-! ### `setMeas` -/

@[simp] theorem setMeas_pending (a : Meas) : (s.setMeas a).pending = s.pending := rfl
@[simp] theorem setMeas_phase (a : Meas) : (s.setMeas a).phase = s.phase := rfl
@[simp] theorem setMeas_cause (a : Meas) : (s.setMeas a).cause = s.cause := rfl
@[simp] theorem setMeas_restartReady (a : Meas) : (s.setMeas a).restartReady = s.restartReady := rfl
@[simp] theorem setMeas_map (a : Meas) : (s.setMeas a).map = s.map := rfl
@[simp] theorem setMeas_cranes (a : Meas) : (s.setMeas a).cranes = s.cranes := rfl
@[simp] theorem setMeas_envs (a : Meas) : (s.setMeas a).envs = s.envs := rfl
@[simp] theorem setMeas_cells (a : Meas) : (s.setMeas a).cells = s.cells := rfl
@[simp] theorem setMeas_outs (a : Meas) : (s.setMeas a).outs = s.outs := rfl
@[simp] theorem setMeas_sigs (a : Meas) : (s.setMeas a).sigs = s.sigs := rfl
@[simp] theorem setMeas_sources (a : Meas) : (s.setMeas a).sources = s.sources := rfl
@[simp] theorem setMeas_meas (a : Meas) : (s.setMeas a).meas = a := rfl
@[simp] theorem setMeas_wind (a : Meas) : (s.setMeas a).wind = s.wind := rfl
@[simp] theorem setMeas_book (a : Meas) : (s.setMeas a).book = s.book := rfl
@[simp] theorem setMeas_clock (a : Meas) : (s.setMeas a).clock = s.clock := rfl
@[simp] theorem setMeas_holder (a : Meas) : (s.setMeas a).holder = s.holder := rfl
@[simp] theorem setMeas_takeKey (a : Meas) : (s.setMeas a).takeKey = s.takeKey := rfl
@[simp] theorem setMeas_store (a : Meas) : (s.setMeas a).store = s.store := rfl
@[simp] theorem setMeas_ports (a : Meas) : (s.setMeas a).ports = s.ports := rfl

/-! ### `setWind` -/

@[simp] theorem setWind_pending (a : WindRec) : (s.setWind a).pending = s.pending := rfl
@[simp] theorem setWind_phase (a : WindRec) : (s.setWind a).phase = s.phase := rfl
@[simp] theorem setWind_cause (a : WindRec) : (s.setWind a).cause = s.cause := rfl
@[simp] theorem setWind_restartReady (a : WindRec) : (s.setWind a).restartReady = s.restartReady := rfl
@[simp] theorem setWind_map (a : WindRec) : (s.setWind a).map = s.map := rfl
@[simp] theorem setWind_cranes (a : WindRec) : (s.setWind a).cranes = s.cranes := rfl
@[simp] theorem setWind_envs (a : WindRec) : (s.setWind a).envs = s.envs := rfl
@[simp] theorem setWind_cells (a : WindRec) : (s.setWind a).cells = s.cells := rfl
@[simp] theorem setWind_outs (a : WindRec) : (s.setWind a).outs = s.outs := rfl
@[simp] theorem setWind_sigs (a : WindRec) : (s.setWind a).sigs = s.sigs := rfl
@[simp] theorem setWind_sources (a : WindRec) : (s.setWind a).sources = s.sources := rfl
@[simp] theorem setWind_meas (a : WindRec) : (s.setWind a).meas = s.meas := rfl
@[simp] theorem setWind_wind (a : WindRec) : (s.setWind a).wind = a := rfl
@[simp] theorem setWind_book (a : WindRec) : (s.setWind a).book = s.book := rfl
@[simp] theorem setWind_clock (a : WindRec) : (s.setWind a).clock = s.clock := rfl
@[simp] theorem setWind_holder (a : WindRec) : (s.setWind a).holder = s.holder := rfl
@[simp] theorem setWind_takeKey (a : WindRec) : (s.setWind a).takeKey = s.takeKey := rfl
@[simp] theorem setWind_store (a : WindRec) : (s.setWind a).store = s.store := rfl
@[simp] theorem setWind_ports (a : WindRec) : (s.setWind a).ports = s.ports := rfl

/-! ### `setBook` -/

@[simp] theorem setBook_pending (a : Book) : (s.setBook a).pending = s.pending := rfl
@[simp] theorem setBook_phase (a : Book) : (s.setBook a).phase = s.phase := rfl
@[simp] theorem setBook_cause (a : Book) : (s.setBook a).cause = s.cause := rfl
@[simp] theorem setBook_restartReady (a : Book) : (s.setBook a).restartReady = s.restartReady := rfl
@[simp] theorem setBook_map (a : Book) : (s.setBook a).map = s.map := rfl
@[simp] theorem setBook_cranes (a : Book) : (s.setBook a).cranes = s.cranes := rfl
@[simp] theorem setBook_envs (a : Book) : (s.setBook a).envs = s.envs := rfl
@[simp] theorem setBook_cells (a : Book) : (s.setBook a).cells = s.cells := rfl
@[simp] theorem setBook_outs (a : Book) : (s.setBook a).outs = s.outs := rfl
@[simp] theorem setBook_sigs (a : Book) : (s.setBook a).sigs = s.sigs := rfl
@[simp] theorem setBook_sources (a : Book) : (s.setBook a).sources = s.sources := rfl
@[simp] theorem setBook_meas (a : Book) : (s.setBook a).meas = s.meas := rfl
@[simp] theorem setBook_wind (a : Book) : (s.setBook a).wind = s.wind := rfl
@[simp] theorem setBook_book (a : Book) : (s.setBook a).book = a := rfl
@[simp] theorem setBook_clock (a : Book) : (s.setBook a).clock = s.clock := rfl
@[simp] theorem setBook_holder (a : Book) : (s.setBook a).holder = s.holder := rfl
@[simp] theorem setBook_takeKey (a : Book) : (s.setBook a).takeKey = s.takeKey := rfl
@[simp] theorem setBook_store (a : Book) : (s.setBook a).store = s.store := rfl
@[simp] theorem setBook_ports (a : Book) : (s.setBook a).ports = s.ports := rfl

/-! ### `setClock` -/

@[simp] theorem setClock_pending (a : Clock) : (s.setClock a).pending = s.pending := rfl
@[simp] theorem setClock_phase (a : Clock) : (s.setClock a).phase = s.phase := rfl
@[simp] theorem setClock_cause (a : Clock) : (s.setClock a).cause = s.cause := rfl
@[simp] theorem setClock_restartReady (a : Clock) : (s.setClock a).restartReady = s.restartReady := rfl
@[simp] theorem setClock_map (a : Clock) : (s.setClock a).map = s.map := rfl
@[simp] theorem setClock_cranes (a : Clock) : (s.setClock a).cranes = s.cranes := rfl
@[simp] theorem setClock_envs (a : Clock) : (s.setClock a).envs = s.envs := rfl
@[simp] theorem setClock_cells (a : Clock) : (s.setClock a).cells = s.cells := rfl
@[simp] theorem setClock_outs (a : Clock) : (s.setClock a).outs = s.outs := rfl
@[simp] theorem setClock_sigs (a : Clock) : (s.setClock a).sigs = s.sigs := rfl
@[simp] theorem setClock_sources (a : Clock) : (s.setClock a).sources = s.sources := rfl
@[simp] theorem setClock_meas (a : Clock) : (s.setClock a).meas = s.meas := rfl
@[simp] theorem setClock_wind (a : Clock) : (s.setClock a).wind = s.wind := rfl
@[simp] theorem setClock_book (a : Clock) : (s.setClock a).book = s.book := rfl
@[simp] theorem setClock_clock (a : Clock) : (s.setClock a).clock = a := rfl
@[simp] theorem setClock_holder (a : Clock) : (s.setClock a).holder = s.holder := rfl
@[simp] theorem setClock_takeKey (a : Clock) : (s.setClock a).takeKey = s.takeKey := rfl
@[simp] theorem setClock_store (a : Clock) : (s.setClock a).store = s.store := rfl
@[simp] theorem setClock_ports (a : Clock) : (s.setClock a).ports = s.ports := rfl

/-! ### `setStore` -/

@[simp] theorem setStore_pending (a : Store) : (s.setStore a).pending = s.pending := rfl
@[simp] theorem setStore_phase (a : Store) : (s.setStore a).phase = s.phase := rfl
@[simp] theorem setStore_cause (a : Store) : (s.setStore a).cause = s.cause := rfl
@[simp] theorem setStore_restartReady (a : Store) : (s.setStore a).restartReady = s.restartReady := rfl
@[simp] theorem setStore_map (a : Store) : (s.setStore a).map = s.map := rfl
@[simp] theorem setStore_cranes (a : Store) : (s.setStore a).cranes = s.cranes := rfl
@[simp] theorem setStore_envs (a : Store) : (s.setStore a).envs = s.envs := rfl
@[simp] theorem setStore_cells (a : Store) : (s.setStore a).cells = s.cells := rfl
@[simp] theorem setStore_outs (a : Store) : (s.setStore a).outs = s.outs := rfl
@[simp] theorem setStore_sigs (a : Store) : (s.setStore a).sigs = s.sigs := rfl
@[simp] theorem setStore_sources (a : Store) : (s.setStore a).sources = s.sources := rfl
@[simp] theorem setStore_meas (a : Store) : (s.setStore a).meas = s.meas := rfl
@[simp] theorem setStore_wind (a : Store) : (s.setStore a).wind = s.wind := rfl
@[simp] theorem setStore_book (a : Store) : (s.setStore a).book = s.book := rfl
@[simp] theorem setStore_clock (a : Store) : (s.setStore a).clock = s.clock := rfl
@[simp] theorem setStore_holder (a : Store) : (s.setStore a).holder = s.holder := rfl
@[simp] theorem setStore_takeKey (a : Store) : (s.setStore a).takeKey = s.takeKey := rfl
@[simp] theorem setStore_store (a : Store) : (s.setStore a).store = a := rfl
@[simp] theorem setStore_ports (a : Store) : (s.setStore a).ports = s.ports := rfl

/-! ### `setSources` -/

@[simp] theorem setSources_pending (a : Sources) : (s.setSources a).pending = s.pending := rfl
@[simp] theorem setSources_phase (a : Sources) : (s.setSources a).phase = s.phase := rfl
@[simp] theorem setSources_cause (a : Sources) : (s.setSources a).cause = s.cause := rfl
@[simp] theorem setSources_restartReady (a : Sources) : (s.setSources a).restartReady = s.restartReady := rfl
@[simp] theorem setSources_map (a : Sources) : (s.setSources a).map = s.map := rfl
@[simp] theorem setSources_cranes (a : Sources) : (s.setSources a).cranes = s.cranes := rfl
@[simp] theorem setSources_envs (a : Sources) : (s.setSources a).envs = s.envs := rfl
@[simp] theorem setSources_cells (a : Sources) : (s.setSources a).cells = s.cells := rfl
@[simp] theorem setSources_outs (a : Sources) : (s.setSources a).outs = s.outs := rfl
@[simp] theorem setSources_sigs (a : Sources) : (s.setSources a).sigs = s.sigs := rfl
@[simp] theorem setSources_sources (a : Sources) : (s.setSources a).sources = a := rfl
@[simp] theorem setSources_meas (a : Sources) : (s.setSources a).meas = s.meas := rfl
@[simp] theorem setSources_wind (a : Sources) : (s.setSources a).wind = s.wind := rfl
@[simp] theorem setSources_book (a : Sources) : (s.setSources a).book = s.book := rfl
@[simp] theorem setSources_clock (a : Sources) : (s.setSources a).clock = s.clock := rfl
@[simp] theorem setSources_holder (a : Sources) : (s.setSources a).holder = s.holder := rfl
@[simp] theorem setSources_takeKey (a : Sources) : (s.setSources a).takeKey = s.takeKey := rfl
@[simp] theorem setSources_store (a : Sources) : (s.setSources a).store = s.store := rfl
@[simp] theorem setSources_ports (a : Sources) : (s.setSources a).ports = s.ports := rfl

/-! ### Reads of a table after an update of another -/

@[simp] theorem env_modCrane (c : Crane) (f : CraneRec → CraneRec) (k : Crane) : (s.modCrane c f).env k = s.env k := rfl
@[simp] theorem cell_modCrane (c : Crane) (f : CraneRec → CraneRec) (k : CellNo) : (s.modCrane c f).cell k = s.cell k := rfl
@[simp] theorem out_modCrane (c : Crane) (f : CraneRec → CraneRec) (k : Crane) : (s.modCrane c f).out k = s.out k := rfl
@[simp] theorem sig_modCrane (c : Crane) (f : CraneRec → CraneRec) (k : SigLine) : (s.modCrane c f).sig k = s.sig k := rfl
@[simp] theorem port_modCrane (c : Crane) (f : CraneRec → CraneRec) (k : Port) : (s.modCrane c f).port k = s.port k := rfl
@[simp] theorem crane_modEnv (c : Crane) (f : EnvRec → EnvRec) (k : Crane) : (s.modEnv c f).crane k = s.crane k := rfl
@[simp] theorem cell_modEnv (c : Crane) (f : EnvRec → EnvRec) (k : CellNo) : (s.modEnv c f).cell k = s.cell k := rfl
@[simp] theorem out_modEnv (c : Crane) (f : EnvRec → EnvRec) (k : Crane) : (s.modEnv c f).out k = s.out k := rfl
@[simp] theorem sig_modEnv (c : Crane) (f : EnvRec → EnvRec) (k : SigLine) : (s.modEnv c f).sig k = s.sig k := rfl
@[simp] theorem port_modEnv (c : Crane) (f : EnvRec → EnvRec) (k : Port) : (s.modEnv c f).port k = s.port k := rfl
@[simp] theorem crane_modCell (x : CellNo) (f : CellRec → CellRec) (k : Crane) : (s.modCell x f).crane k = s.crane k := rfl
@[simp] theorem env_modCell (x : CellNo) (f : CellRec → CellRec) (k : Crane) : (s.modCell x f).env k = s.env k := rfl
@[simp] theorem out_modCell (x : CellNo) (f : CellRec → CellRec) (k : Crane) : (s.modCell x f).out k = s.out k := rfl
@[simp] theorem sig_modCell (x : CellNo) (f : CellRec → CellRec) (k : SigLine) : (s.modCell x f).sig k = s.sig k := rfl
@[simp] theorem port_modCell (x : CellNo) (f : CellRec → CellRec) (k : Port) : (s.modCell x f).port k = s.port k := rfl
@[simp] theorem crane_modOut (c : Crane) (f : OutRec → OutRec) (k : Crane) : (s.modOut c f).crane k = s.crane k := rfl
@[simp] theorem env_modOut (c : Crane) (f : OutRec → OutRec) (k : Crane) : (s.modOut c f).env k = s.env k := rfl
@[simp] theorem cell_modOut (c : Crane) (f : OutRec → OutRec) (k : CellNo) : (s.modOut c f).cell k = s.cell k := rfl
@[simp] theorem sig_modOut (c : Crane) (f : OutRec → OutRec) (k : SigLine) : (s.modOut c f).sig k = s.sig k := rfl
@[simp] theorem port_modOut (c : Crane) (f : OutRec → OutRec) (k : Port) : (s.modOut c f).port k = s.port k := rfl
@[simp] theorem crane_modSig (l : SigLine) (f : SigRec → SigRec) (k : Crane) : (s.modSig l f).crane k = s.crane k := rfl
@[simp] theorem env_modSig (l : SigLine) (f : SigRec → SigRec) (k : Crane) : (s.modSig l f).env k = s.env k := rfl
@[simp] theorem cell_modSig (l : SigLine) (f : SigRec → SigRec) (k : CellNo) : (s.modSig l f).cell k = s.cell k := rfl
@[simp] theorem out_modSig (l : SigLine) (f : SigRec → SigRec) (k : Crane) : (s.modSig l f).out k = s.out k := rfl
@[simp] theorem port_modSig (l : SigLine) (f : SigRec → SigRec) (k : Port) : (s.modSig l f).port k = s.port k := rfl
@[simp] theorem crane_modPort (p : Port) (f : PortRec → PortRec) (k : Crane) : (s.modPort p f).crane k = s.crane k := rfl
@[simp] theorem env_modPort (p : Port) (f : PortRec → PortRec) (k : Crane) : (s.modPort p f).env k = s.env k := rfl
@[simp] theorem cell_modPort (p : Port) (f : PortRec → PortRec) (k : CellNo) : (s.modPort p f).cell k = s.cell k := rfl
@[simp] theorem out_modPort (p : Port) (f : PortRec → PortRec) (k : Crane) : (s.modPort p f).out k = s.out k := rfl
@[simp] theorem sig_modPort (p : Port) (f : PortRec → PortRec) (k : SigLine) : (s.modPort p f).sig k = s.sig k := rfl
@[simp] theorem crane_setMap (a : MapUnit) (k : Crane) : (s.setMap a).crane k = s.crane k := rfl
@[simp] theorem env_setMap (a : MapUnit) (k : Crane) : (s.setMap a).env k = s.env k := rfl
@[simp] theorem cell_setMap (a : MapUnit) (k : CellNo) : (s.setMap a).cell k = s.cell k := rfl
@[simp] theorem out_setMap (a : MapUnit) (k : Crane) : (s.setMap a).out k = s.out k := rfl
@[simp] theorem sig_setMap (a : MapUnit) (k : SigLine) : (s.setMap a).sig k = s.sig k := rfl
@[simp] theorem port_setMap (a : MapUnit) (k : Port) : (s.setMap a).port k = s.port k := rfl
@[simp] theorem crane_setMeas (a : Meas) (k : Crane) : (s.setMeas a).crane k = s.crane k := rfl
@[simp] theorem env_setMeas (a : Meas) (k : Crane) : (s.setMeas a).env k = s.env k := rfl
@[simp] theorem cell_setMeas (a : Meas) (k : CellNo) : (s.setMeas a).cell k = s.cell k := rfl
@[simp] theorem out_setMeas (a : Meas) (k : Crane) : (s.setMeas a).out k = s.out k := rfl
@[simp] theorem sig_setMeas (a : Meas) (k : SigLine) : (s.setMeas a).sig k = s.sig k := rfl
@[simp] theorem port_setMeas (a : Meas) (k : Port) : (s.setMeas a).port k = s.port k := rfl
@[simp] theorem crane_setWind (a : WindRec) (k : Crane) : (s.setWind a).crane k = s.crane k := rfl
@[simp] theorem env_setWind (a : WindRec) (k : Crane) : (s.setWind a).env k = s.env k := rfl
@[simp] theorem cell_setWind (a : WindRec) (k : CellNo) : (s.setWind a).cell k = s.cell k := rfl
@[simp] theorem out_setWind (a : WindRec) (k : Crane) : (s.setWind a).out k = s.out k := rfl
@[simp] theorem sig_setWind (a : WindRec) (k : SigLine) : (s.setWind a).sig k = s.sig k := rfl
@[simp] theorem port_setWind (a : WindRec) (k : Port) : (s.setWind a).port k = s.port k := rfl
@[simp] theorem crane_setBook (a : Book) (k : Crane) : (s.setBook a).crane k = s.crane k := rfl
@[simp] theorem env_setBook (a : Book) (k : Crane) : (s.setBook a).env k = s.env k := rfl
@[simp] theorem cell_setBook (a : Book) (k : CellNo) : (s.setBook a).cell k = s.cell k := rfl
@[simp] theorem out_setBook (a : Book) (k : Crane) : (s.setBook a).out k = s.out k := rfl
@[simp] theorem sig_setBook (a : Book) (k : SigLine) : (s.setBook a).sig k = s.sig k := rfl
@[simp] theorem port_setBook (a : Book) (k : Port) : (s.setBook a).port k = s.port k := rfl
@[simp] theorem crane_setClock (a : Clock) (k : Crane) : (s.setClock a).crane k = s.crane k := rfl
@[simp] theorem env_setClock (a : Clock) (k : Crane) : (s.setClock a).env k = s.env k := rfl
@[simp] theorem cell_setClock (a : Clock) (k : CellNo) : (s.setClock a).cell k = s.cell k := rfl
@[simp] theorem out_setClock (a : Clock) (k : Crane) : (s.setClock a).out k = s.out k := rfl
@[simp] theorem sig_setClock (a : Clock) (k : SigLine) : (s.setClock a).sig k = s.sig k := rfl
@[simp] theorem port_setClock (a : Clock) (k : Port) : (s.setClock a).port k = s.port k := rfl
@[simp] theorem crane_setStore (a : Store) (k : Crane) : (s.setStore a).crane k = s.crane k := rfl
@[simp] theorem env_setStore (a : Store) (k : Crane) : (s.setStore a).env k = s.env k := rfl
@[simp] theorem cell_setStore (a : Store) (k : CellNo) : (s.setStore a).cell k = s.cell k := rfl
@[simp] theorem out_setStore (a : Store) (k : Crane) : (s.setStore a).out k = s.out k := rfl
@[simp] theorem sig_setStore (a : Store) (k : SigLine) : (s.setStore a).sig k = s.sig k := rfl
@[simp] theorem port_setStore (a : Store) (k : Port) : (s.setStore a).port k = s.port k := rfl
@[simp] theorem crane_setSources (a : Sources) (k : Crane) : (s.setSources a).crane k = s.crane k := rfl
@[simp] theorem env_setSources (a : Sources) (k : Crane) : (s.setSources a).env k = s.env k := rfl
@[simp] theorem cell_setSources (a : Sources) (k : CellNo) : (s.setSources a).cell k = s.cell k := rfl
@[simp] theorem out_setSources (a : Sources) (k : Crane) : (s.setSources a).out k = s.out k := rfl
@[simp] theorem sig_setSources (a : Sources) (k : SigLine) : (s.setSources a).sig k = s.sig k := rfl
@[simp] theorem port_setSources (a : Sources) (k : Port) : (s.setSources a).port k = s.port k := rfl

/-! ### Reads of a table after its own update -/

theorem portIndex_injective {p q : Port} (h : portIndex p = portIndex q) : p = q := by
  rcases p with c | x <;> rcases q with d | y
  · simp only [portIndex, Fin.mk.injEq] at h
    exact congrArg Port.c (Fin.ext h)
  · cases y <;> simp [portIndex, Fin.ext_iff] at h <;> omega
  · cases x <;> simp [portIndex, Fin.ext_iff] at h <;> omega
  · cases x <;> cases y <;> first | rfl | simp [portIndex] at h

@[simp] theorem crane_modCrane_same (c : Crane) (f : CraneRec → CraneRec) : (s.modCrane c f).crane c = f (s.crane c) := by
  simp [State.modCrane, State.crane]

@[simp] theorem crane_modCrane_other {c k : Crane} (h : k ≠ c) (f : CraneRec → CraneRec) : (s.modCrane c f).crane k = s.crane k := by
  have hi : (c).val ≠ k.val := fun e => h (Fin.ext e.symm)
  simp [State.modCrane, State.crane, Vector.getElem_set_ne, hi]

theorem crane_modCrane (c k : Crane) (f : CraneRec → CraneRec) :
    (s.modCrane c f).crane k = if k = c then f (s.crane c) else s.crane k := by
  by_cases h : k = c
  · subst h; simp
  · simp [h]

@[simp] theorem env_modEnv_same (c : Crane) (f : EnvRec → EnvRec) : (s.modEnv c f).env c = f (s.env c) := by
  simp [State.modEnv, State.env]

@[simp] theorem env_modEnv_other {c k : Crane} (h : k ≠ c) (f : EnvRec → EnvRec) : (s.modEnv c f).env k = s.env k := by
  have hi : (c).val ≠ k.val := fun e => h (Fin.ext e.symm)
  simp [State.modEnv, State.env, Vector.getElem_set_ne, hi]

theorem env_modEnv (c k : Crane) (f : EnvRec → EnvRec) :
    (s.modEnv c f).env k = if k = c then f (s.env c) else s.env k := by
  by_cases h : k = c
  · subst h; simp
  · simp [h]

@[simp] theorem cell_modCell_same (x : CellNo) (f : CellRec → CellRec) : (s.modCell x f).cell x = f (s.cell x) := by
  simp [State.modCell, State.cell]

@[simp] theorem cell_modCell_other {x k : CellNo} (h : k ≠ x) (f : CellRec → CellRec) : (s.modCell x f).cell k = s.cell k := by
  have hi : (x).val ≠ k.val := fun e => h (Fin.ext e.symm)
  simp [State.modCell, State.cell, Vector.getElem_set_ne, hi]

theorem cell_modCell (x k : CellNo) (f : CellRec → CellRec) :
    (s.modCell x f).cell k = if k = x then f (s.cell x) else s.cell k := by
  by_cases h : k = x
  · subst h; simp
  · simp [h]

@[simp] theorem out_modOut_same (c : Crane) (f : OutRec → OutRec) : (s.modOut c f).out c = f (s.out c) := by
  simp [State.modOut, State.out]

@[simp] theorem out_modOut_other {c k : Crane} (h : k ≠ c) (f : OutRec → OutRec) : (s.modOut c f).out k = s.out k := by
  have hi : (c).val ≠ k.val := fun e => h (Fin.ext e.symm)
  simp [State.modOut, State.out, Vector.getElem_set_ne, hi]

theorem out_modOut (c k : Crane) (f : OutRec → OutRec) :
    (s.modOut c f).out k = if k = c then f (s.out c) else s.out k := by
  by_cases h : k = c
  · subst h; simp
  · simp [h]

@[simp] theorem sig_modSig_same (l : SigLine) (f : SigRec → SigRec) : (s.modSig l f).sig l = f (s.sig l) := by
  simp [State.modSig, State.sig]

@[simp] theorem sig_modSig_other {l k : SigLine} (h : k ≠ l) (f : SigRec → SigRec) : (s.modSig l f).sig k = s.sig k := by
  have hi : (l).val ≠ k.val := fun e => h (Fin.ext e.symm)
  simp [State.modSig, State.sig, Vector.getElem_set_ne, hi]

theorem sig_modSig (l k : SigLine) (f : SigRec → SigRec) :
    (s.modSig l f).sig k = if k = l then f (s.sig l) else s.sig k := by
  by_cases h : k = l
  · subst h; simp
  · simp [h]

@[simp] theorem port_modPort_same (p : Port) (f : PortRec → PortRec) : (s.modPort p f).port p = f (s.port p) := by
  simp [State.modPort, State.port]

@[simp] theorem port_modPort_other {p q : Port} (h : q ≠ p) (f : PortRec → PortRec) :
    (s.modPort p f).port q = s.port q := by
  have hi : (portIndex p).val ≠ (portIndex q).val := fun e => h (portIndex_injective (Fin.ext e.symm))
  simp [State.modPort, State.port, Vector.getElem_set_ne, hi]

theorem port_modPort (p q : Port) (f : PortRec → PortRec) :
    (s.modPort p f).port q = if q = p then f (s.port p) else s.port q := by
  by_cases h : q = p
  · subst h; simp
  · simp [h]

/-! ### A state is its fields -/

theorem state_ext {s t : State} (h1 : s.pending = t.pending) (h2 : s.phase = t.phase) (h3 : s.cause = t.cause)
    (h4 : s.restartReady = t.restartReady) (h5 : s.map = t.map) (h6 : s.cranes = t.cranes) (h7 : s.envs = t.envs)
    (h8 : s.cells = t.cells) (h9 : s.outs = t.outs) (h10 : s.sigs = t.sigs) (h11 : s.sources = t.sources)
    (h12 : s.meas = t.meas) (h13 : s.wind = t.wind) (h14 : s.book = t.book) (h15 : s.clock = t.clock)
    (h16 : s.holder = t.holder) (h17 : s.takeKey = t.takeKey) (h18 : s.store = t.store) (h19 : s.ports = t.ports) :
    s = t := by
  cases s; cases t; simp_all

/-- An update of a port that changes nothing there changes nothing. -/
theorem modPort_eq_self {p : Port} {f : PortRec → PortRec} (h : f (s.port p) = s.port p) : s.modPort p f = s := by
  have hs : s.ports.set (portIndex p) (f s.ports[portIndex p]) = s.ports := by
    have h' : f s.ports[portIndex p] = s.ports[portIndex p] := h
    rw [h']
    simp
  unfold State.modPort
  rw [hs]

/-- Two updates of one port are one. -/
@[simp] theorem modPort_modPort (p : Port) (f g : PortRec → PortRec) :
    (s.modPort p f).modPort p g = s.modPort p fun q => g (f q) := by
  simp [State.modPort]

end Laws

end Sys2Proof.Machine
end

