-- ==== Sys2Proof/Laws/Frames.lean ====
section
/-! SUPPORT. What each shared operation leaves alone. `sansX` erases from a state what the operations of a block may
change; one lemma per operation says that the state without it is the same before and after. -/

namespace Sys2Proof.Machine

/-- A port without its notices. -/
def PortRec.bare (q : PortRec) : PortRec := { q with notices := [], overflow := false }

/-- A crane's record without its lift and due booking. -/
def CraneRec.sansLift (k : CraneRec) : CraneRec := { k with lift := none, due := none }

/-- A crane's record without its vane fault flag. -/
def CraneRec.sansFault (k : CraneRec) : CraneRec := { k with vaneFault := false }

/-- The state without the notices of its ports. -/
def State.sansNotices (s : State) : State := { s with ports := s.ports.map PortRec.bare }

/-- The state without notices and cell records: what the cell table leaves. -/
def State.sansCells (s : State) : State := { s.sansNotices with cells := Vector.replicate 64 CellRec.reset }

/-- The state without notices, cell records, the book and the cranes' bookings: what admission leaves. -/
def State.sansBook (s : State) : State := { s.sansCells with book := ⟨[], 1⟩, cranes := s.cranes.map CraneRec.sansLift }

/-- The state without notices, wind record, book and the cranes' bookings: what the wind moves leave. -/
def State.sansWind (s : State) : State := { s.sansNotices with wind := WindRec.reset, book := ⟨[], 1⟩ }

/-- The state without notices, output records, signal lines, sources and vane fault flags: what the output unit
leaves. -/
def State.sansOutputs (s : State) : State :=
  { s.sansNotices with outs := Vector.replicate 8 OutRec.reset, sigs := Vector.replicate 4 SigRec.reset,
                       sources := Sources.reset, cranes := s.cranes.map CraneRec.sansFault }

/-- What no event of a block changes: the queue, the phase, the reset cause, the measurement state, the clock, the
authority, and each port but its notices. -/
def State.core (s : State) : State :=
  { State.reset with pending := s.pending, phase := s.phase, cause := s.cause, restartReady := s.restartReady,
                     meas := s.meas, clock := s.clock, holder := s.holder, takeKey := s.takeKey,
                     ports := s.ports.map PortRec.bare }

namespace Laws

/-! ### Folds -/

/-- What every step of a fold keeps, the fold keeps. -/
theorem foldl_keeps {α β γ : Type} (g : β → γ) (f : β → α → β) (h : ∀ b a, g (f b a) = g b) (l : List α) (b : β) :
    g (l.foldl f b) = g b := by
  induction l generalizing b with
  | nil => rfl
  | cons a l ih => rw [List.foldl_cons, ih, h]

/-- What every step of a fold keeps holding, the fold keeps holding. -/
theorem foldl_holds {α β : Type} (P : β → Prop) (f : β → α → β) (h : ∀ b a, P b → P (f b a)) (l : List α) (b : β)
    (hb : P b) : P (l.foldl f b) := by
  induction l generalizing b with
  | nil => exact hb
  | cons a l ih => exact ih _ (h _ _ hb)

/-! ### From finer to coarser -/

theorem sansCells_of {s t : State} (h : s.sansNotices = t.sansNotices) : s.sansCells = t.sansCells := by
  unfold State.sansCells; rw [h]

theorem sansBook_of {s t : State} (h : s.sansCells = t.sansCells) : s.sansBook = t.sansBook := by
  have h' : s.sansCells.cranes = t.sansCells.cranes := congrArg State.cranes h
  have hc : s.cranes = t.cranes := h'
  unfold State.sansBook; rw [h, hc]

theorem sansWind_of {s t : State} (h : s.sansNotices = t.sansNotices) : s.sansWind = t.sansWind := by
  unfold State.sansWind; rw [h]

theorem sansOutputs_of {s t : State} (h : s.sansNotices = t.sansNotices) : s.sansOutputs = t.sansOutputs := by
  have h' : s.sansNotices.cranes = t.sansNotices.cranes := congrArg State.cranes h
  have hc : s.cranes = t.cranes := h'
  unfold State.sansOutputs; rw [h, hc]

theorem core_of_sansNotices {s t : State} (h : s.sansNotices = t.sansNotices) : s.core = t.core :=
  congrArg (fun u : State =>
    { State.reset with pending := u.pending, phase := u.phase, cause := u.cause, restartReady := u.restartReady,
                       meas := u.meas, clock := u.clock, holder := u.holder, takeKey := u.takeKey, ports := u.ports }) h

theorem core_of_sansCells {s t : State} (h : s.sansCells = t.sansCells) : s.core = t.core :=
  congrArg (fun u : State =>
    { State.reset with pending := u.pending, phase := u.phase, cause := u.cause, restartReady := u.restartReady,
                       meas := u.meas, clock := u.clock, holder := u.holder, takeKey := u.takeKey, ports := u.ports }) h

theorem core_of_sansBook {s t : State} (h : s.sansBook = t.sansBook) : s.core = t.core :=
  congrArg (fun u : State =>
    { State.reset with pending := u.pending, phase := u.phase, cause := u.cause, restartReady := u.restartReady,
                       meas := u.meas, clock := u.clock, holder := u.holder, takeKey := u.takeKey, ports := u.ports }) h

theorem core_of_sansWind {s t : State} (h : s.sansWind = t.sansWind) : s.core = t.core :=
  congrArg (fun u : State =>
    { State.reset with pending := u.pending, phase := u.phase, cause := u.cause, restartReady := u.restartReady,
                       meas := u.meas, clock := u.clock, holder := u.holder, takeKey := u.takeKey, ports := u.ports }) h

theorem core_of_sansOutputs {s t : State} (h : s.sansOutputs = t.sansOutputs) : s.core = t.core :=
  congrArg (fun u : State =>
    { State.reset with pending := u.pending, phase := u.phase, cause := u.cause, restartReady := u.restartReady,
                       meas := u.meas, clock := u.clock, holder := u.holder, takeKey := u.takeKey, ports := u.ports }) h

/-! ### Notices -/

theorem bare_queueNotice (n : Notice) (q : PortRec) : (queueNotice n q).bare = q.bare := by
  unfold queueNotice
  split <;> rfl

/-- A change of one port that keeps its bare record keeps the state without notices. -/
theorem modPort_sansNotices (s : State) (p : Port) (f : PortRec → PortRec) (h : ∀ q, (f q).bare = q.bare) :
    (s.modPort p f).sansNotices = s.sansNotices := by
  have hp : (s.ports.set (portIndex p) (f s.ports[portIndex p])).map PortRec.bare = s.ports.map PortRec.bare := by
    ext i hi
    simp only [Vector.getElem_map, Vector.getElem_set]
    split
    · rename_i hij
      subst hij
      rw [h]
      rfl
    · rfl
  unfold State.modPort State.sansNotices
  rw [hp]

@[simp] theorem notify_sansNotices (s : State) (p : Port) (n : Notice) : (s.notify p n).sansNotices = s.sansNotices :=
  modPort_sansNotices s p _ (bare_queueNotice n)

@[simp] theorem notifySup_sansNotices (s : State) (k : NoticeClass) (n : Notice) (x : Sup) :
    (s.notifySup k n x).sansNotices = s.sansNotices := by
  unfold State.notifySup; split <;> simp

@[simp] theorem notifyClass_sansNotices (s : State) (k : NoticeClass) (n : Notice) :
    (s.notifyClass k n).sansNotices = s.sansNotices := by simp [State.notifyClass]

@[simp] theorem notifyBoth_sansNotices (s : State) (c : Crane) (k : NoticeClass) (n : Notice) :
    (s.notifyBoth c k n).sansNotices = s.sansNotices := by simp [State.notifyBoth]

@[simp] theorem notifyBookingSup_sansNotices (s : State) (o : Port) (n : Notice) (x : Sup) :
    (s.notifyBookingSup o n x).sansNotices = s.sansNotices := by
  unfold State.notifyBookingSup; split <;> simp

@[simp] theorem notifyBooking_sansNotices (s : State) (b : Booking) (n : Notice) :
    (s.notifyBooking b n).sansNotices = s.sansNotices := by simp [State.notifyBooking]

@[simp] theorem announceWind_sansNotices (s : State) (w : WindState) :
    (announceWind s w).sansNotices = s.sansNotices := by
  unfold announceWind
  simp only [notifyClass_sansNotices]
  exact foldl_keeps State.sansNotices _ (fun b a => by simp) _ _

/-! ### The cell table -/

@[simp] theorem modCell_sansCells (s : State) (x : CellNo) (f : CellRec → CellRec) :
    (s.modCell x f).sansCells = s.sansCells := rfl

@[simp] theorem notify_sansCells (s : State) (p : Port) (n : Notice) : (s.notify p n).sansCells = s.sansCells :=
  sansCells_of (by simp)

@[simp] theorem notifyClass_sansCells (s : State) (k : NoticeClass) (n : Notice) :
    (s.notifyClass k n).sansCells = s.sansCells := sansCells_of (by simp)

@[simp] theorem notifyBoth_sansCells (s : State) (c : Crane) (k : NoticeClass) (n : Notice) :
    (s.notifyBoth c k n).sansCells = s.sansCells := sansCells_of (by simp)

@[simp] theorem notifyBooking_sansCells (s : State) (b : Booking) (n : Notice) :
    (s.notifyBooking b n).sansCells = s.sansCells := sansCells_of (by simp)

@[simp] theorem setGrant_sansCells (s : State) (x : CellNo) (g : Grant) (w : CellCause) :
    (setGrant s x g w).sansCells = s.sansCells := by simp [setGrant]

@[simp] theorem releaseCell_sansCells (s : State) (x : CellNo) (w : CellCause) :
    (releaseCell s x w).sansCells = s.sansCells := by simp [releaseCell]

@[simp] theorem serveHead_sansCells (s : State) (x : CellNo) : (serveHead s x).sansCells = s.sansCells := by
  unfold serveHead
  split
  · rfl
  · split
    · rfl
    · split <;> simp

@[simp] theorem startRecall_sansCells (s : State) (x : CellNo) : (startRecall s x).sansCells = s.sansCells := by
  unfold startRecall
  split
  · split <;> simp
  · rfl

@[simp] theorem serveCell_sansCells (s0 s : State) (x : CellNo) : (serveCell s0 s x).sansCells = s.sansCells := by
  unfold serveCell
  dsimp only
  split <;> split <;> simp

@[simp] theorem serveCells_sansCells (s0 s : State) : (serveCells s0 s).sansCells = s.sansCells :=
  foldl_keeps State.sansCells _ (fun b a => by simp) _ _

@[simp] theorem autoTake_sansCells (c : Crane) (s : State) (x : CellNo) :
    (autoTake c s x).sansCells = s.sansCells := by
  unfold autoTake
  split
  · split <;> simp
  · rfl

@[simp] theorem touchEnded_sansCells (c : Crane) (s : State) (x : CellNo) :
    (touchEnded c s x).sansCells = s.sansCells := by
  unfold touchEnded
  dsimp only
  split <;> simp

@[simp] theorem touchService_sansCells (s : State) (c : Crane) (old : List CellNo) (whole : Bool) :
    (touchService s c old whole).sansCells = s.sansCells := by
  unfold touchService
  dsimp only
  rw [foldl_keeps State.sansCells _ (fun b a => by simp), foldl_keeps State.sansCells _ (fun b a => by simp)]

@[simp] theorem withdrawRequest_sansCells (c : Crane) (w : WithdrawReason) (s : State) (x : CellNo) :
    (withdrawRequest c w s x).sansCells = s.sansCells := by
  unfold withdrawRequest
  split <;> simp

@[simp] theorem withdrawRequests_sansCells (s : State) (c : Crane) (w : WithdrawReason) :
    (withdrawRequests s c w).sansCells = s.sansCells :=
  foldl_keeps State.sansCells _ (fun b a => by simp) _ _

@[simp] theorem parkCell_sansCells (c : Crane) (s : State) (x : CellNo) :
    (parkCell c s x).sansCells = s.sansCells := by
  unfold parkCell
  split
  · split <;> simp
  · rfl

@[simp] theorem parkingRule_sansCells (s : State) (c : Crane) : (parkingRule s c).sansCells = s.sansCells := by
  unfold parkingRule
  rw [withdrawRequests_sansCells]
  exact foldl_keeps State.sansCells _ (fun b a => by simp) _ _

@[simp] theorem withdrawClaim_sansCells (n : Nat) (s : State) (x : CellNo) :
    (withdrawClaim n s x).sansCells = s.sansCells := by simp [withdrawClaim]

@[simp] theorem withdrawClaims_sansCells (s : State) (b : Booking) :
    (withdrawClaims s b).sansCells = s.sansCells :=
  foldl_keeps State.sansCells _ (fun b a => by simp) _ _

@[simp] theorem placeClaim_sansCells (b : Booking) (s : State) (x : CellNo) :
    (placeClaim b s x).sansCells = s.sansCells := by
  unfold placeClaim
  split <;> simp

/-! ### Bookings and admission -/

/-- A change of one crane's record that keeps what `g` keeps of it keeps the table so mapped. -/
theorem map_set_keeps {α β : Type} {n : Nat} (v : Vector α n) (i : Fin n) (f : α → α) (g : α → β)
    (h : ∀ a, g (f a) = g a) : (v.set i (f v[i])).map g = v.map g := by
  ext j hj
  simp only [Vector.getElem_map, Vector.getElem_set]
  split
  · rename_i hij
    subst hij
    rw [h]
    rfl
  · rfl

theorem modCrane_sansBook (s : State) (c : Crane) (f : CraneRec → CraneRec) (h : ∀ k, (f k).sansLift = k.sansLift) :
    (s.modCrane c f).sansBook = s.sansBook := by
  unfold State.modCrane State.sansBook State.sansCells State.sansNotices
  simp only [map_set_keeps s.cranes c f _ h]

@[simp] theorem setBook_sansBook (s : State) (b : Book) : (s.setBook b).sansBook = s.sansBook := rfl

@[simp] theorem modBooking_sansBook (s : State) (n : Nat) (f : Booking → Booking) :
    (s.modBooking n f).sansBook = s.sansBook := by simp [State.modBooking]

@[simp] theorem modCell_sansBook (s : State) (x : CellNo) (f : CellRec → CellRec) :
    (s.modCell x f).sansBook = s.sansBook := rfl

@[simp] theorem notify_sansBook (s : State) (p : Port) (n : Notice) : (s.notify p n).sansBook = s.sansBook :=
  sansBook_of (by simp)

@[simp] theorem notifyClass_sansBook (s : State) (k : NoticeClass) (n : Notice) :
    (s.notifyClass k n).sansBook = s.sansBook := sansBook_of (by simp)

@[simp] theorem notifyBoth_sansBook (s : State) (c : Crane) (k : NoticeClass) (n : Notice) :
    (s.notifyBoth c k n).sansBook = s.sansBook := sansBook_of (by simp)

@[simp] theorem notifyBooking_sansBook (s : State) (b : Booking) (n : Notice) :
    (s.notifyBooking b n).sansBook = s.sansBook := sansBook_of (by simp)

@[simp] theorem setGrant_sansBook (s : State) (x : CellNo) (g : Grant) (w : CellCause) :
    (setGrant s x g w).sansBook = s.sansBook := sansBook_of (by simp)

@[simp] theorem releaseCell_sansBook (s : State) (x : CellNo) (w : CellCause) :
    (releaseCell s x w).sansBook = s.sansBook := sansBook_of (by simp)

@[simp] theorem serveCells_sansBook (s0 s : State) : (serveCells s0 s).sansBook = s.sansBook := sansBook_of (by simp)

@[simp] theorem withdrawClaims_sansBook (s : State) (b : Booking) : (withdrawClaims s b).sansBook = s.sansBook :=
  sansBook_of (by simp)

@[simp] theorem placeClaim_sansBook (b : Booking) (s : State) (x : CellNo) :
    (placeClaim b s x).sansBook = s.sansBook := sansBook_of (by simp)

@[simp] theorem forgetBooking_sansBook (s : State) (b : Booking) : (forgetBooking s b).sansBook = s.sansBook :=
  modCrane_sansBook s b.crane _ fun _ => rfl

@[simp] theorem endBooking_sansBook (s : State) (b : Booking) (o : BookOutcome) (q : Option Port) :
    (endBooking s b o q).sansBook = s.sansBook := by simp [endBooking]

@[simp] theorem moveBooking_sansBook (s : State) (b : Booking) (st : BookState) :
    (moveBooking s b st).sansBook = s.sansBook := by simp [moveBooking]

@[simp] theorem admit_sansBook (s : State) (b : Booking) : (admitBooking s b).sansBook = s.sansBook := by
  unfold admitBooking
  rw [notifyBooking_sansBook, foldl_keeps State.sansBook _ (fun b a => by simp)]
  rw [modCrane_sansBook, modBooking_sansBook]
  · exact foldl_keeps State.sansBook (admitCell b) (fun _ _ => rfl) _ _
  · exact fun _ => rfl

@[simp] theorem testAdmission_sansBook (s0 s : State) (n : Nat) : (testAdmission s0 s n).sansBook = s.sansBook := by
  unfold testAdmission
  split
  · split <;> simp
  · rfl

@[simp] theorem admissions_sansBook (s0 s : State) : (admissions s0 s).sansBook = s.sansBook :=
  foldl_keeps State.sansBook _ (fun b a => by simp) _ _

@[simp] theorem releaseBooked_sansBook (b : Booking) (k : Option CellNo) (s : State) (x : CellNo) :
    (releaseBooked b k s x).sansBook = s.sansBook := by
  unfold releaseBooked
  split
  · split <;> simp
  · rfl

@[simp] theorem bookingRelease_sansBook (s : State) (b : Booking) (k : Option CellNo) (o : BookOutcome)
    (q : Option Port) : (bookingRelease s b k o q).sansBook = s.sansBook := by
  unfold bookingRelease
  rw [foldl_keeps State.sansBook _ (fun b a => by simp), endBooking_sansBook]

/-! ### Wind moves -/

@[simp] theorem moveWind_sansWind (s : State) (w : WindState) (k : WindCause) (t : Option Nat) :
    (moveWind s w k t).sansWind = s.sansWind := by
  unfold moveWind
  exact (sansWind_of (announceWind_sansNotices _ _)).trans rfl

@[simp] theorem parkingTest_sansWind (s : State) : (parkingTest s).sansWind = s.sansWind := by
  unfold parkingTest; split <;> simp

@[simp] theorem toLanding_sansWind (s : State) (n : Nat) : (toLanding s n).sansWind = s.sansWind := by
  unfold toLanding
  split
  · unfold moveBooking
    exact (sansWind_of (notifyBooking_sansNotices _ _ _)).trans rfl
  · rfl

@[simp] theorem landings_sansWind (s : State) : (landings s).sansWind = s.sansWind :=
  foldl_keeps State.sansWind _ (fun b a => by simp) _ _

@[simp] theorem enterStop_sansWind (s : State) (k : WindCause) : (enterStop s k).sansWind = s.sansWind := by
  simp [enterStop]

/-! ### The output unit -/

@[simp] theorem modOut_sansOutputs (s : State) (c : Crane) (f : OutRec → OutRec) :
    (s.modOut c f).sansOutputs = s.sansOutputs := rfl

@[simp] theorem modSig_sansOutputs (s : State) (l : SigLine) (f : SigRec → SigRec) :
    (s.modSig l f).sansOutputs = s.sansOutputs := rfl

@[simp] theorem setSources_sansOutputs (s : State) (k : Sources) : (s.setSources k).sansOutputs = s.sansOutputs := rfl

@[simp] theorem notify_sansOutputs (s : State) (p : Port) (n : Notice) : (s.notify p n).sansOutputs = s.sansOutputs :=
  sansOutputs_of (by simp)

@[simp] theorem notifyBoth_sansOutputs (s : State) (c : Crane) (k : NoticeClass) (n : Notice) :
    (s.notifyBoth c k n).sansOutputs = s.sansOutputs := sansOutputs_of (by simp)

theorem modCrane_sansOutputs (s : State) (c : Crane) (f : CraneRec → CraneRec)
    (h : ∀ k, (f k).sansFault = k.sansFault) : (s.modCrane c f).sansOutputs = s.sansOutputs := by
  unfold State.modCrane State.sansOutputs State.sansNotices
  simp only [map_set_keeps s.cranes c f _ h]

@[simp] theorem composeLines_sansOutputs (s : State) (c : Crane) : (composeLines s c).sansOutputs = s.sansOutputs := by
  unfold composeLines
  dsimp only
  split <;> simp

@[simp] theorem feedbackEvent_sansOutputs (s : State) (c : Crane) (e : Bool) :
    (feedbackEvent s c e).sansOutputs = s.sansOutputs := by
  unfold feedbackEvent
  dsimp only
  split
  · rw [notifyBoth_sansOutputs, modCrane_sansOutputs]
    · rfl
    · exact fun _ => rfl
  · simp

@[simp] theorem composeVaneNow_sansOutputs (s : State) (c : Crane) :
    (composeVaneNow s c).sansOutputs = s.sansOutputs := by
  unfold composeVaneNow
  extract_lets held withheld level o a b
  have hb : b.sansOutputs = s.sansOutputs := by
    show (if _ then _ else _ : State).sansOutputs = _
    split
    · exact (notifyBoth_sansOutputs _ _ _ _).trans rfl
    · rfl
  split
  · exact hb
  · rw [feedbackEvent_sansOutputs, notifyBoth_sansOutputs, hb]

@[simp] theorem composeVane_sansOutputs (s0 s : State) (c : Crane) :
    (composeVane s0 s c).sansOutputs = s.sansOutputs := by
  unfold composeVane; split <;> simp

@[simp] theorem followSource_sansOutputs (a b : Sources) (s : State) (l : SigLine) :
    (followSource a b s l).sansOutputs = s.sansOutputs := rfl

@[simp] theorem updateSignals_sansOutputs (s : State) : (updateSignals s).sansOutputs = s.sansOutputs := by
  unfold updateSignals
  dsimp only
  rw [setSources_sansOutputs]
  exact foldl_keeps State.sansOutputs _ (fun b a => by simp) _ _

@[simp] theorem compose_sansOutputs (s0 s : State) : (compose s0 s).sansOutputs = s.sansOutputs := by
  unfold compose
  rw [updateSignals_sansOutputs, foldl_keeps State.sansOutputs _ (fun b a => by simp),
    foldl_keeps State.sansOutputs _ (fun b a => by simp)]

/-! ### The core, kept by every block -/

@[simp] theorem modCrane_core (s : State) (c : Crane) (f : CraneRec → CraneRec) : (s.modCrane c f).core = s.core := rfl

@[simp] theorem modEnv_core (s : State) (c : Crane) (f : EnvRec → EnvRec) : (s.modEnv c f).core = s.core := rfl

@[simp] theorem modCell_core (s : State) (x : CellNo) (f : CellRec → CellRec) : (s.modCell x f).core = s.core := rfl

@[simp] theorem modOut_core (s : State) (c : Crane) (f : OutRec → OutRec) : (s.modOut c f).core = s.core := rfl

@[simp] theorem modSig_core (s : State) (l : SigLine) (f : SigRec → SigRec) : (s.modSig l f).core = s.core := rfl

@[simp] theorem setMap_core (s : State) (m : MapUnit) : (s.setMap m).core = s.core := rfl

@[simp] theorem setWind_core (s : State) (w : WindRec) : (s.setWind w).core = s.core := rfl

@[simp] theorem setBook_core (s : State) (b : Book) : (s.setBook b).core = s.core := rfl

@[simp] theorem setStore_core (s : State) (k : Store) : (s.setStore k).core = s.core := rfl

@[simp] theorem notify_core (s : State) (p : Port) (n : Notice) : (s.notify p n).core = s.core :=
  core_of_sansNotices (by simp)

@[simp] theorem notifyClass_core (s : State) (k : NoticeClass) (n : Notice) : (s.notifyClass k n).core = s.core :=
  core_of_sansNotices (by simp)

@[simp] theorem notifyBoth_core (s : State) (c : Crane) (k : NoticeClass) (n : Notice) :
    (s.notifyBoth c k n).core = s.core := core_of_sansNotices (by simp)

@[simp] theorem notifyBooking_core (s : State) (b : Booking) (n : Notice) : (s.notifyBooking b n).core = s.core :=
  core_of_sansNotices (by simp)

@[simp] theorem announceWind_core (s : State) (w : WindState) : (announceWind s w).core = s.core :=
  core_of_sansNotices (by simp)

@[simp] theorem setGrant_core (s : State) (x : CellNo) (g : Grant) (w : CellCause) :
    (setGrant s x g w).core = s.core := core_of_sansCells (by simp)

@[simp] theorem releaseCell_core (s : State) (x : CellNo) (w : CellCause) : (releaseCell s x w).core = s.core :=
  core_of_sansCells (by simp)

@[simp] theorem serveCells_core (s0 s : State) : (serveCells s0 s).core = s.core := core_of_sansCells (by simp)

@[simp] theorem touchService_core (s : State) (c : Crane) (old : List CellNo) (w : Bool) :
    (touchService s c old w).core = s.core := core_of_sansCells (by simp)

@[simp] theorem withdrawRequests_core (s : State) (c : Crane) (w : WithdrawReason) :
    (withdrawRequests s c w).core = s.core := core_of_sansCells (by simp)

@[simp] theorem parkingRule_core (s : State) (c : Crane) : (parkingRule s c).core = s.core := core_of_sansCells (by simp)

@[simp] theorem withdrawClaims_core (s : State) (b : Booking) : (withdrawClaims s b).core = s.core :=
  core_of_sansCells (by simp)

@[simp] theorem placeClaim_core (b : Booking) (s : State) (x : CellNo) : (placeClaim b s x).core = s.core :=
  core_of_sansCells (by simp)

@[simp] theorem modBooking_core (s : State) (n : Nat) (f : Booking → Booking) : (s.modBooking n f).core = s.core := rfl

@[simp] theorem forgetBooking_core (s : State) (b : Booking) : (forgetBooking s b).core = s.core := rfl

@[simp] theorem endBooking_core (s : State) (b : Booking) (o : BookOutcome) (q : Option Port) :
    (endBooking s b o q).core = s.core := core_of_sansBook (by simp)

@[simp] theorem moveBooking_core (s : State) (b : Booking) (st : BookState) : (moveBooking s b st).core = s.core :=
  core_of_sansBook (by simp)

@[simp] theorem admissions_core (s0 s : State) : (admissions s0 s).core = s.core := core_of_sansBook (by simp)

@[simp] theorem bookingRelease_core (s : State) (b : Booking) (k : Option CellNo) (o : BookOutcome) (q : Option Port) :
    (bookingRelease s b k o q).core = s.core := core_of_sansBook (by simp)

@[simp] theorem moveWind_core (s : State) (w : WindState) (k : WindCause) (t : Option Nat) :
    (moveWind s w k t).core = s.core := core_of_sansWind (by simp)

@[simp] theorem parkingTest_core (s : State) : (parkingTest s).core = s.core := core_of_sansWind (by simp)

@[simp] theorem enterStop_core (s : State) (k : WindCause) : (enterStop s k).core = s.core := core_of_sansWind (by simp)

@[simp] theorem compose_core (s0 s : State) : (compose s0 s).core = s.core := core_of_sansOutputs (by simp)

@[simp] theorem composeVaneNow_core (s : State) (c : Crane) : (composeVaneNow s c).core = s.core :=
  core_of_sansOutputs (by simp)

@[simp] theorem feedbackEvent_core (s : State) (c : Crane) (e : Bool) : (feedbackEvent s c e).core = s.core :=
  core_of_sansOutputs (by simp)

@[simp] theorem startWrite_core (s : State) (c : Content) : (startWrite s c).core = s.core := rfl

@[simp] theorem formTouch_core (s : State) (c : Crane) : (formTouch s c).core = s.core := rfl

@[simp] theorem fullComputation_core (s : State) (c : Crane) : (fullComputation s c).core = s.core := by
  unfold fullComputation; split <;> rfl

@[simp] theorem setLink_core (s : State) (c : Crane) (l : LinkState) : (setLink s c l).core = s.core := by
  simp [setLink]

/-! ### Activation and what settles an event -/

theorem foldl_core {α : Type} (f : State → α → State) (h : ∀ b a, (f b a).core = b.core) (l : List α) (s : State) :
    (l.foldl f s).core = s.core := foldl_keeps State.core f h l s

@[simp] theorem disposeCell_core (a : Option MapBody) (b : MapBody) (s : State) (x : CellNo) :
    (disposeCell a b s x).core = s.core := by unfold disposeCell; split <;> rfl

@[simp] theorem cancelForMap_core (s : State) (n : Nat) : (cancelForMap s n).core = s.core := by
  unfold cancelForMap; split <;> simp

@[simp] theorem dropCrane_core (a : Option MapBody) (s : State) (c : Crane) : (dropCrane a s c).core = s.core := by
  unfold dropCrane
  split
  · dsimp only; split <;> simp
  · rfl

@[simp] theorem reclamp_core (s : State) (c : Crane) : (reclamp s c).core = s.core := by
  unfold reclamp; split <;> simp

@[simp] theorem compareLimits_core (s : State) (c : Crane) : (compareLimits s c).core = s.core := by
  unfold compareLimits
  dsimp only
  split
  · rfl
  · split
    · simp
    · split <;> simp

@[simp] theorem adjustReport_core (m : MapBody) (l : List CellNo) (s : State) (c : Crane) :
    (adjustReport m l s c).core = s.core := by
  unfold adjustReport
  dsimp only
  split <;> simp

@[simp] theorem handTouch_core (s0 s : State) (c : Crane) : (handTouch s0 s c).core = s.core := by simp [handTouch]

@[simp] theorem activateMap_core (s : State) (l : List CellNo) : (activateMap s l).core = s.core := by
  unfold activateMap
  dsimp only
  rw [setMap_core, foldl_core _ (fun b a => by simp), foldl_core _ (fun b a => by simp),
    foldl_core _ (fun b a => by simp)]
  split
  · rw [foldl_core _ (fun b a => by simp), foldl_core _ (fun b a => by simp), foldl_core _ (fun b a => by simp),
      setMap_core, foldl_core _ (fun b a => by simp), foldl_core _ (fun b a => by simp)]
  · rw [foldl_core _ (fun b a => by simp), foldl_core _ (fun b a => by simp), setMap_core,
      foldl_core _ (fun b a => by simp), foldl_core _ (fun b a => by simp)]

@[simp] theorem announceMap_core (s : State) (a b : Nat) : (announceMap s a b).core = s.core := by simp [announceMap]

@[simp] theorem activate_core (s : State) (l : List CellNo) : (activate s l).core = s.core := by
  unfold activate
  dsimp only
  rw [foldl_core _ (fun b a => by simp)]
  simp

@[simp] theorem drainRetest_core (s0 s : State) : (drainRetest s0 s).core = s.core := by
  unfold drainRetest; split <;> simp

@[simp] theorem settle_core (s0 s : State) : (settle s0 s).core = s.core := by simp [settle]

@[simp] theorem conclude_core (s0 s : State) : (conclude s0 s).core = s.core := by simp [conclude]

@[simp] theorem becomeDue_core (s : State) (n : Nat) (f : Option BookState) : (becomeDue s n f).core = s.core := by
  unfold becomeDue
  split
  · rfl
  · dsimp only
    rw [drainRetest_core, admissions_core, notifyBooking_core, serveCells_core, foldl_core _ (fun b a => by simp)]
    rfl

@[simp] theorem lapseBooking_core (s : State) (n : Nat) : (lapseBooking s n).core = s.core := by
  unfold lapseBooking; split <;> simp

@[simp] theorem returnBooking_core (s : State) (n : Nat) : (returnBooking s n).core = s.core := by
  unfold returnBooking; split <;> simp

@[simp] theorem markOverrun_core (s : State) (n : Nat) : (markOverrun s n).core = s.core := by
  unfold markOverrun; split <;> simp

theorem takeAll_keeps {γ : Type} (g : State → γ) (test : Booking → Bool) (f : State → Nat → State)
    (h : ∀ t n, g (f t n) = g t) (s : State) : g (takeAll test f s) = g s :=
  foldl_keeps g _ (fun b n => by unfold takeIf; split <;> simp [h]) _ _

theorem takeAllThenSettle_core (test : Booking → Bool) (f : State → Nat → State) (h : ∀ t n, (f t n).core = t.core)
    (s : State) : (takeAllThenSettle test f s).core = s.core := by
  unfold takeAllThenSettle
  rw [settle_core, takeAll_keeps State.core _ _ h]

theorem takeAll_core (test : Booking → Bool) (f : State → Nat → State) (h : ∀ t n, (f t n).core = t.core) (s : State) :
    (takeAll test f s).core = s.core := takeAll_keeps State.core test f h s

@[simp] theorem secondChecks_core (now : Nat) (s : State) : (secondChecks now s).core = s.core := by
  unfold secondChecks
  dsimp only
  rw [takeAll_core _ _ (by simp), takeAll_core _ _ (by simp), takeAllThenSettle_core _ _ (by simp),
    takeAll_core _ _ (by simp)]

@[simp] theorem touchForDuty_core (s : State) (c : Crane) : (touchForDuty s c).core = s.core := by
  unfold touchForDuty
  rw [formTouch_core]
  split <;> simp

@[simp] theorem changeDuty_core (s : State) (p : Port) (c : Crane) (d : Duty) : (changeDuty s p c d).core = s.core := by
  unfold changeDuty
  dsimp only
  split <;> split <;> simp

@[simp] theorem dropLink_core (s : State) (c : Crane) (l : LinkState) : (dropLink s c l).core = s.core := by
  simp [dropLink]

end Laws

end Sys2Proof.Machine
end

