-- ==== Sys2Proof/Laws/Notices.lean ====
section
/-! SUPPORT. Events only add notices at the tail of the queues (R162): every shared operation that a state `s` has reached
from `u` leaves each queue of `u` the beginning of the queue then, its overflow flag where it stood and its mask. -/

namespace Sys2Proof.Machine

/-- Of one port: the queue of `q` is the beginning of that of `r`, a set overflow flag stays set, the mask stays. -/
def PortRec.GrowsTo (q r : PortRec) : Prop :=
  q.notices <+: r.notices ∧ (q.overflow = true → r.overflow = true) ∧ r.mask = q.mask

theorem PortRec.GrowsTo.refl (q : PortRec) : q.GrowsTo q := ⟨List.prefix_refl _, id, rfl⟩

theorem PortRec.GrowsTo.trans {a b c : PortRec} (h : a.GrowsTo b) (k : b.GrowsTo c) : a.GrowsTo c :=
  ⟨h.1.trans k.1, k.2.1 ∘ h.2.1, k.2.2.trans h.2.2⟩

/-- Every queue of `u` is the beginning of the queue of `s`, under the same mask. -/
def Grows (u s : State) : Prop := ∀ q, (u.port q).GrowsTo (s.port q)

theorem Grows.refl (s : State) : Grows s s := fun _ => PortRec.GrowsTo.refl _

theorem Grows.trans {a b c : State} (h : Grows a b) (k : Grows b c) : Grows a c := fun q => (h q).trans (k q)

/-- A change that leaves the ports leaves the queues. -/
theorem Grows.ports {u s t : State} (h : Grows u s) (e : t.ports = s.ports) : Grows u t := by
  intro q
  have hp : t.port q = s.port q := by
    unfold State.port
    rw [e]
  rw [hp]
  exact h q

namespace Laws

variable {u s : State}

theorem foldl_grows {α : Type} (f : State → α → State) (hf : ∀ s a, Grows u s → Grows u (f s a)) (l : List α)
    (h : Grows u s) : Grows u (l.foldl f s) := by
  induction l generalizing s with
  | nil => exact h
  | cons a l ih => exact ih (hf _ _ h)

theorem queueNotice_grows (n : Notice) (q : PortRec) : q.GrowsTo (queueNotice n q) := by
  unfold queueNotice
  split
  · exact ⟨List.prefix_append _ _, id, rfl⟩
  · exact ⟨List.prefix_refl _, fun _ => rfl, rfl⟩

theorem modPort_grows (h : Grows u s) (p : Port) (f : PortRec → PortRec)
    (hf : (s.port p).GrowsTo (f (s.port p))) : Grows u (s.modPort p f) := by
  intro q
  rw [port_modPort]
  split
  · rename_i e; subst e; exact (h q).trans hf
  · exact h q

theorem notify_grows (h : Grows u s) (p : Port) (n : Notice) : Grows u (s.notify p n) :=
  modPort_grows h p _ (queueNotice_grows n _)

theorem notifySup_grows (h : Grows u s) (k : NoticeClass) (n : Notice) (x : Sup) : Grows u (s.notifySup k n x) := by
  unfold State.notifySup; split
  · exact notify_grows h _ _
  · exact h

theorem notifyClass_grows (h : Grows u s) (k : NoticeClass) (n : Notice) : Grows u (s.notifyClass k n) :=
  notifySup_grows (notifySup_grows h _ _ _) _ _ _

theorem notifyBoth_grows (h : Grows u s) (c : Crane) (k : NoticeClass) (n : Notice) : Grows u (s.notifyBoth c k n) :=
  notifyClass_grows (notify_grows h _ _) _ _

theorem notifyBookingSup_grows (h : Grows u s) (o : Port) (n : Notice) (x : Sup) :
    Grows u (s.notifyBookingSup o n x) := by
  unfold State.notifyBookingSup; split
  · exact notify_grows h _ _
  · exact h

theorem notifyBooking_grows (h : Grows u s) (b : Booking) (n : Notice) : Grows u (s.notifyBooking b n) :=
  notifyBookingSup_grows (notifyBookingSup_grows (notify_grows h _ _) _ _ _) _ _ _

theorem respond_grows (h : Grows u s) (p : Port) (r : Response) : Grows u (s.respond p r) :=
  modPort_grows h p _ ⟨List.prefix_refl _, id, rfl⟩

theorem announceWind_grows (h : Grows u s) (w : WindState) : Grows u (announceWind s w) :=
  notifyClass_grows (foldl_grows _ (fun _ _ k => notify_grows k _ _) _ h) _ _

theorem setMap_grows (h : Grows u s) (m : MapUnit) : Grows u (s.setMap m) := h.ports rfl

theorem forgetBooking_grows (h : Grows u s) (b : Booking) : Grows u (forgetBooking s b) := h.ports rfl

theorem formTouch_grows (h : Grows u s) (c : Crane) : Grows u (formTouch s c) := h.ports rfl

/-! ### The cell table -/

theorem setGrant_grows (h : Grows u s) (x : CellNo) (g : Grant) (w : CellCause) : Grows u (setGrant s x g w) := by
  unfold setGrant
  exact notifyClass_grows (by exact h.ports rfl) _ _

theorem releaseCell_grows (h : Grows u s) (x : CellNo) (w : CellCause) : Grows u (releaseCell s x w) := by
  unfold releaseCell
  exact notifyClass_grows (by exact h.ports rfl) _ _

theorem serveHead_grows (h : Grows u s) (x : CellNo) : Grows u (serveHead s x) := by
  unfold serveHead
  split
  · exact h
  · split
    · exact h
    · split
      · exact notify_grows (setGrant_grows (by exact h.ports rfl) _ _ _) _ _
      · exact h

theorem startRecall_grows (h : Grows u s) (x : CellNo) : Grows u (startRecall s x) := by
  unfold startRecall
  split
  · split
    · exact notifyBoth_grows (by exact h.ports rfl) _ _ _
    · exact h
  · exact h

theorem serveCell_grows (s0 : State) (h : Grows u s) (x : CellNo) : Grows u (serveCell s0 s x) := by
  unfold serveCell
  dsimp only
  split <;> split
  · exact startRecall_grows (serveHead_grows h _) _
  · exact serveHead_grows h _
  · exact startRecall_grows h _
  · exact h

theorem serveCells_grows (s0 : State) (h : Grows u s) : Grows u (serveCells s0 s) :=
  foldl_grows _ (fun _ _ k => serveCell_grows s0 k _) _ h

theorem autoTake_grows (c : Crane) (h : Grows u s) (x : CellNo) : Grows u (autoTake c s x) := by
  unfold autoTake
  split
  · split
    · exact notify_grows (setGrant_grows h _ _ _) _ _
    · exact h.ports rfl
  · exact h

theorem touchEnded_grows (c : Crane) (h : Grows u s) (x : CellNo) : Grows u (touchEnded c s x) := by
  unfold touchEnded
  dsimp only
  split
  · exact (releaseCell_grows h _ _).ports rfl
  · exact h.ports rfl

theorem touchService_grows (h : Grows u s) (c : Crane) (old : List CellNo) (w : Bool) :
    Grows u (touchService s c old w) :=
  foldl_grows _ (fun _ _ k => autoTake_grows c k _) _ (foldl_grows _ (fun _ _ k => touchEnded_grows c k _) _ h)

theorem withdrawRequest_grows (c : Crane) (w : WithdrawReason) (h : Grows u s) (x : CellNo) :
    Grows u (withdrawRequest c w s x) := by
  unfold withdrawRequest
  split
  · exact h
  · exact notify_grows (by exact h.ports rfl) _ _

theorem withdrawRequests_grows (h : Grows u s) (c : Crane) (w : WithdrawReason) : Grows u (withdrawRequests s c w) :=
  foldl_grows _ (fun _ _ k => withdrawRequest_grows c w k _) _ h

theorem parkCell_grows (c : Crane) (h : Grows u s) (x : CellNo) : Grows u (parkCell c s x) := by
  unfold parkCell
  split
  · split
    · exact releaseCell_grows h _ _
    · exact h
  · exact h

theorem parkingRule_grows (h : Grows u s) (c : Crane) : Grows u (parkingRule s c) :=
  withdrawRequests_grows (foldl_grows _ (fun _ _ k => parkCell_grows c k _) _ h) _ _

theorem withdrawClaims_grows (h : Grows u s) (b : Booking) : Grows u (withdrawClaims s b) := by
  unfold withdrawClaims
  exact foldl_grows (withdrawClaim b.number) (fun _ _ k => by exact k.ports rfl) allCells h

theorem placeClaim_grows (b : Booking) (h : Grows u s) (x : CellNo) : Grows u (placeClaim b s x) := by
  unfold placeClaim
  split
  · exact h.ports rfl
  · exact (withdrawRequest_grows _ _ h _).ports rfl

/-! ### Bookings -/

theorem endBooking_grows (h : Grows u s) (b : Booking) (o : BookOutcome) (q : Option Port) :
    Grows u (endBooking s b o q) := by
  unfold endBooking
  exact notifyBooking_grows (by exact h.ports rfl) _ _

theorem moveBooking_grows (h : Grows u s) (b : Booking) (st : BookState) : Grows u (moveBooking s b st) := by
  unfold moveBooking
  exact notifyBooking_grows (by exact h.ports rfl) _ _

theorem admit_grows (h : Grows u s) (b : Booking) : Grows u (admitBooking s b) := by
  unfold admitBooking
  refine notifyBooking_grows (foldl_grows _ (fun _ _ k => notifyClass_grows k _ _) _ ?_) _ _
  exact Grows.ports (foldl_grows (admitCell b) (fun _ _ k => k.ports rfl) _ h) rfl

theorem admissions_grows (s0 : State) (h : Grows u s) : Grows u (admissions s0 s) := by
  refine foldl_grows _ (fun t n k => ?_) _ h
  unfold testAdmission
  split
  · split
    · exact admit_grows k _
    · exact k
  · exact k

theorem bookingRelease_grows (h : Grows u s) (b : Booking) (k : Option CellNo) (o : BookOutcome) (q : Option Port) :
    Grows u (bookingRelease s b k o q) := by
  refine foldl_grows _ (fun t x hk => ?_) _ (endBooking_grows h _ _ _)
  unfold releaseBooked
  split
  · split
    · exact setGrant_grows hk _ _ _
    · exact releaseCell_grows hk _ _
  · exact hk

/-! ### Wind -/

theorem moveWind_grows (h : Grows u s) (w : WindState) (k : WindCause) (t : Option Nat) : Grows u (moveWind s w k t) := by
  unfold moveWind
  exact announceWind_grows (by exact h.ports rfl) _

theorem parkingTest_grows (h : Grows u s) : Grows u (parkingTest s) := by
  unfold parkingTest; split
  · exact moveWind_grows h _ _ _
  · exact h

theorem landings_grows (h : Grows u s) : Grows u (landings s) := by
  refine foldl_grows _ (fun t n k => ?_) _ h
  unfold toLanding
  split
  · exact moveBooking_grows k _ _
  · exact k

theorem enterStop_grows (h : Grows u s) (k : WindCause) : Grows u (enterStop s k) :=
  parkingTest_grows (landings_grows (moveWind_grows h _ _ _))

/-! ### Outputs -/

theorem composeLines_grows (h : Grows u s) (c : Crane) : Grows u (composeLines s c) := by
  unfold composeLines
  dsimp only
  split
  · exact h.ports rfl
  · exact notify_grows (by exact h.ports rfl) _ _

theorem feedbackEvent_grows (h : Grows u s) (c : Crane) (e : Bool) : Grows u (feedbackEvent s c e) := by
  unfold feedbackEvent
  dsimp only
  split
  · exact notifyBoth_grows (by exact h.ports rfl) _ _ _
  · exact h.ports rfl

theorem composeVaneNow_grows (h : Grows u s) (c : Crane) : Grows u (composeVaneNow s c) := by
  unfold composeVaneNow
  extract_lets held withheld level o a b
  have hb : Grows u b := by
    show Grows u (if _ then _ else _)
    split
    · exact notifyBoth_grows (by exact h.ports rfl) _ _ _
    · exact h.ports rfl
  split
  · exact hb
  · exact feedbackEvent_grows (notifyBoth_grows hb _ _ _) _ _

theorem composeVane_grows (s0 : State) (h : Grows u s) (c : Crane) : Grows u (composeVane s0 s c) := by
  unfold composeVane; split
  · exact composeVaneNow_grows h _
  · exact h

theorem updateSignals_grows (h : Grows u s) : Grows u (updateSignals s) :=
  Grows.ports (foldl_grows (followSource s.sources (sourcesOf s)) (fun _ _ k => k.ports rfl) allLines h) rfl

theorem compose_grows (s0 : State) (h : Grows u s) : Grows u (compose s0 s) :=
  updateSignals_grows (foldl_grows _ (fun _ _ k => composeVane_grows s0 k _) _
    (foldl_grows _ (fun _ _ k => composeLines_grows k _) _ h))

/-! ### The site map -/

theorem setLink_grows (h : Grows u s) (c : Crane) (l : LinkState) : Grows u (setLink s c l) := by
  unfold setLink
  exact notifyClass_grows (by exact h.ports rfl) _ _

theorem compareLimits_grows (h : Grows u s) (c : Crane) : Grows u (compareLimits s c) := by
  unfold compareLimits
  dsimp only
  split
  · exact h
  · split
    · exact withdrawRequests_grows (setLink_grows h _ _) _ _
    · split
      · exact setLink_grows h _ _
      · exact h

theorem dropCrane_grows (a : Option MapBody) (h : Grows u s) (c : Crane) : Grows u (dropCrane a s c) := by
  unfold dropCrane
  split
  · dsimp only
    split
    · exact notifyBoth_grows (by exact h.ports rfl) _ _ _
    · exact h.ports rfl
  · exact h

theorem activateMap_grows (h : Grows u s) (l : List CellNo) : Grows u (activateMap s l) := by
  unfold activateMap
  extract_lets s0 old new a b m c d e f g i j
  have ha : Grows u a := foldl_grows _ (fun t x k => by unfold disposeCell; split <;> exact k.ports rfl) _ h
  have hb : Grows u b := foldl_grows _ (fun t x k => by
    unfold cancelForMap
    split
    · exact endBooking_grows (withdrawClaims_grows k _) _ _ _
    · exact k) _ ha
  have hc : Grows u c := setMap_grows hb _
  have hd : Grows u d := foldl_grows _ (fun t x k => dropCrane_grows old k x) _ hc
  have he : Grows u e := foldl_grows _ (fun t x k => by unfold reclamp; split <;> exact k.ports rfl) _ hd
  have hf : Grows u f := by
    show Grows u (if _ then _ else _)
    split
    · exact foldl_grows _ (fun t x k => compareLimits_grows k x) _ he
    · exact he
  have hg : Grows u g := foldl_grows _ (fun t x k => by
    unfold adjustReport
    dsimp only
    split <;> exact k.ports rfl) _ hf
  have hi : Grows u i := foldl_grows formTouch (fun t x k => formTouch_grows k x) _ hg
  have hj : Grows u j := foldl_grows _ (fun t x k => touchService_grows k _ _ _) _ hi
  exact setMap_grows hj _

theorem startWrite_grows (h : Grows u s) (c : Content) : Grows u (startWrite s c) := h.ports rfl

theorem announceMap_grows (h : Grows u s) (x n : Nat) : Grows u (announceMap s x n) := by
  unfold announceMap
  exact notifyClass_grows (startWrite_grows (startWrite_grows h _) _) _ _

theorem activate_grows (h : Grows u s) (l : List CellNo) : Grows u (activate s l) := by
  have ha := admissions_grows s (serveCells_grows s (activateMap_grows h l))
  unfold activate
  exact foldl_grows composeVaneNow (fun _ c k => composeVaneNow_grows k c) _
    (parkingTest_grows (announceMap_grows ha _ _))

theorem drainRetest_grows (s0 : State) (h : Grows u s) : Grows u (drainRetest s0 s) := by
  unfold drainRetest; split
  · exact activate_grows h _
  · exact h

theorem settle_grows (s0 : State) (h : Grows u s) : Grows u (settle s0 s) :=
  drainRetest_grows s0 (admissions_grows s0 (serveCells_grows s0 h))

theorem conclude_grows (s0 : State) (h : Grows u s) : Grows u (conclude s0 s) := compose_grows s0 (settle_grows s0 h)

/-! ### Bookings in time -/

theorem becomeDue_grows (h : Grows u s) (n : Nat) (f : Option BookState) : Grows u (becomeDue s n f) := by
  unfold becomeDue
  split
  · exact h
  · refine drainRetest_grows _ (admissions_grows _ (notifyBooking_grows (serveCells_grows _ ?_) _ _))
    exact foldl_grows _ (fun _ _ k => placeClaim_grows _ k _) _ (by exact h.ports rfl)

theorem lapseBooking_grows (h : Grows u s) (n : Nat) : Grows u (lapseBooking s n) := by
  unfold lapseBooking; split
  · exact h
  · exact endBooking_grows (withdrawClaims_grows h _) _ _ _

theorem returnBooking_grows (h : Grows u s) (n : Nat) : Grows u (returnBooking s n) := by
  unfold returnBooking; split
  · exact h
  · rename_i b _
    have ha := withdrawClaims_grows h b
    exact moveBooking_grows (forgetBooking_grows ha b) _ _

theorem markOverrun_grows (h : Grows u s) (n : Nat) : Grows u (markOverrun s n) := by
  unfold markOverrun; split
  · exact h
  · exact notifyBoth_grows (by exact h.ports rfl) _ _ _

theorem takeAll_grows (test : Booking → Bool) (f : State → Nat → State) (hf : ∀ s n, Grows u s → Grows u (f s n))
    (h : Grows u s) : Grows u (takeAll test f s) :=
  foldl_grows _ (fun t n k => by
    unfold takeIf
    split
    · exact hf _ _ k
    · exact k) _ h

theorem takeAllThenSettle_grows (test : Booking → Bool) (f : State → Nat → State)
    (hf : ∀ s n, Grows u s → Grows u (f s n)) (h : Grows u s) : Grows u (takeAllThenSettle test f s) :=
  settle_grows _ (takeAll_grows test f hf h)

theorem takeCounting_grows (test : Booking → Bool) (f : State → Nat → State)
    (hf : ∀ s n, Grows u s → Grows u (f s n)) (h : Grows u s) : Grows u (takeCounting test f s).1 := by
  unfold takeCounting
  generalize bookingsWhere s test = l
  have : ∀ (l : List Nat) (a : State × Nat), Grows u a.1 → Grows u (l.foldl
      (fun (t, k) n => if (t.booking n).any test then (f t n, k + 1) else (t, k)) a).1 := by
    intro l
    induction l with
    | nil => intro a h; exact h
    | cons n l ih =>
      intro a h
      rw [List.foldl_cons]
      apply ih
      dsimp only
      split
      · exact hf _ _ h
      · exact h
  exact this l (s, 0) h

theorem secondChecks_grows (now : Nat) (h : Grows u s) : Grows u (secondChecks now s) :=
  takeAll_grows _ _ (fun _ _ k => markOverrun_grows k _) (takeAll_grows _ _ (fun _ _ k => lapseBooking_grows k _)
    (takeAllThenSettle_grows _ _ (fun _ _ k => lapseBooking_grows k _)
      (takeAll_grows _ _ (fun _ _ k => becomeDue_grows k _ _) h)))

theorem forwardSetting_grows (a : Nat) (h : Grows u s) : Grows u (forwardSetting a s).1 := by
  unfold forwardSetting
  have hl := takeAllThenSettle_grows (lapsedForward a) lapseBooking (fun _ n k => lapseBooking_grows k n) h
  have hm := takeCounting_grows (dueForward a) (fun t n => becomeDue t n (some .booked))
    (fun _ n k => becomeDue_grows k n _) hl
  dsimp only
  exact takeAll_grows (overruns a) markOverrun (fun _ n k => markOverrun_grows k n) hm

theorem backwardSetting_grows (a : Nat) (h : Grows u s) : Grows u (backwardSetting a s).1 := by
  unfold backwardSetting
  exact takeAllThenSettle_grows (returnedBackward a) returnBooking (fun _ n k => returnBooking_grows k n) h

theorem judgeBook_grows (a b : Nat) (h : Grows u s) : Grows u (judgeBook a b s).1 := by
  have hf := forwardSetting_grows b h
  have hb := backwardSetting_grows b h
  unfold judgeBook
  generalize forwardSetting b s = x at hf ⊢
  generalize backwardSetting b s = y at hb ⊢
  split
  · exact hf
  · split
    · exact hb
    · exact h

/-! ### Cranes -/

theorem fullComputation_ports (s : State) (c : Crane) : (fullComputation s c).ports = s.ports := by
  unfold fullComputation; split <;> rfl

theorem fullComputation_grows (h : Grows u s) (c : Crane) : Grows u (fullComputation s c) :=
  h.ports (fullComputation_ports s c)

theorem touchForDuty_grows (h : Grows u s) (c : Crane) : Grows u (touchForDuty s c) := by
  unfold touchForDuty
  apply formTouch_grows
  split
  · exact fullComputation_grows h c
  · exact h

theorem changeDuty_grows (h : Grows u s) (p : Port) (c : Crane) (d : Duty) : Grows u (changeDuty s p c d) := by
  unfold changeDuty
  extract_lets former a b k l m n
  have ha : Grows u a := h.ports rfl
  have hb : Grows u b := touchForDuty_grows ha c
  clear_value a b
  have hk : Grows u k := touchService_grows hb _ _ _
  have hl : Grows u l := by
    show Grows u (if _ then _ else _)
    split
    · exact parkingRule_grows hk _
    · exact hk
  have hm : Grows u m := settle_grows _ hl
  have hn : Grows u n := by
    show Grows u (if _ then _ else _)
    split
    · exact parkingTest_grows hm
    · exact hm
  exact notifyBoth_grows (compose_grows _ hn) _ _ _

theorem dropLink_grows (h : Grows u s) (c : Crane) (l : LinkState) : Grows u (dropLink s c l) := by
  unfold dropLink
  have ha := setLink_grows h c l
  exact conclude_grows _ (withdrawRequests_grows (touchService_grows (by exact ha.ports rfl) _ _ _) _ _)

end Laws

end Sys2Proof.Machine
end

