-- ==== Sys2Proof/Laws/Outputs.lean ====
section
/-! SUPPORT. What the output unit's composition of an event leaves (R79, R81, R87, R93): the motion lines, the manual
sets, the vane release lines and the signal sources. -/

namespace Sys2Proof.Machine

/-- What the six sources of a crane read, apart from its MANUAL set. -/
def State.sourceView (s : State) : State := { s.sansOutputs with ports := State.reset.ports }

/-- An output record but for its vane release, its feedback check and what withholds the release. -/
def OutRec.linesPart (o : OutRec) : SourceSets × Lines := (o.src, o.lines)

namespace Laws

theorem sourceView_of {s t : State} (h : s.sansOutputs = t.sansOutputs) : s.sourceView = t.sourceView := by
  unfold State.sourceView; rw [h]

theorem view_crane_link (s : State) (c : Crane) : (s.sourceView.crane c).link = (s.crane c).link := by
  simp [State.sourceView, State.sansOutputs, State.crane, CraneRec.sansFault]

theorem view_crane_duty (s : State) (c : Crane) : (s.sourceView.crane c).duty = (s.crane c).duty := by
  simp [State.sourceView, State.sansOutputs, State.crane, CraneRec.sansFault]

theorem view_crane_lift (s : State) (c : Crane) : (s.sourceView.crane c).lift = (s.crane c).lift := by
  simp [State.sourceView, State.sansOutputs, State.crane, CraneRec.sansFault]

theorem view_crane_parkSw (s : State) (c : Crane) : (s.sourceView.crane c).parkSw = (s.crane c).parkSw := by
  simp [State.sourceView, State.sansOutputs, State.crane, CraneRec.sansFault]

/-- The five sources are read from the view. -/
theorem sourceSets_view (s : State) (c : Crane) :
    sourceSets s c = { sourceSets s.sourceView c with manual := (s.out c).src.manual } := by
  have hl : s.sourceView.liftInProgress c = s.liftInProgress c := by
    unfold State.liftInProgress
    rw [view_crane_lift]
    rfl
  simp only [sourceSets, SourceSets.mk.injEq, and_true]
  refine ⟨rfl, ?_, ?_, ?_, rfl⟩
  · simp only [linkSet, view_crane_link]
  · simp only [dutySet, view_crane_duty]
  · simp only [windSet, view_crane_duty, hl]
    rfl

/-- Equal views and equal MANUAL sets give equal sources. -/
theorem sourceSets_congr {s t : State} (h : s.sourceView = t.sourceView) (c : Crane)
    (hm : (s.out c).src.manual = (t.out c).src.manual) : sourceSets s c = sourceSets t c := by
  rw [sourceSets_view s, sourceSets_view t, h, hm]

/-! ### The lines -/

@[simp] theorem notify_out (s : State) (p : Port) (n : Notice) (c : Crane) : (s.notify p n).out c = s.out c := rfl

theorem foldl_out {α : Type} (f : State → α → State) (c : Crane) (h : ∀ s a, (f s a).out c = s.out c) (l : List α)
    (s : State) : (l.foldl f s).out c = s.out c := foldl_keeps (fun t : State => t.out c) f h l s

/-- The output record of a crane after its lines are composed. -/
theorem composeLines_out (s : State) (c d : Crane) :
    (composeLines s c).out d =
      if d = c then { s.out c with src := sourceSets s c, lines := unionOf (sourceSets s c) } else s.out d := by
  unfold composeLines
  dsimp only
  split <;> simp [out_modOut]

theorem composeLines_manual (s : State) (c d : Crane) :
    ((composeLines s c).out d).src.manual = (s.out d).src.manual := by
  rw [composeLines_out]
  split
  · rename_i h; subst h; rfl
  · rfl

theorem composeLines_view (s : State) (c : Crane) : (composeLines s c).sourceView = s.sourceView :=
  sourceView_of (by simp)

/-- The lines of the cranes in a list after each of them is composed. -/
theorem foldl_composeLines_out (l : List Crane) (s : State) (d : Crane) :
    (l.foldl composeLines s).out d =
      if d ∈ l then { s.out d with src := sourceSets s d, lines := unionOf (sourceSets s d) } else s.out d := by
  induction l generalizing s with
  | nil => simp
  | cons c l ih =>
    rw [List.foldl_cons, ih]
    have hs : sourceSets (composeLines s c) d = sourceSets s d :=
      sourceSets_congr (composeLines_view s c) d (composeLines_manual s c d)
    rw [hs, composeLines_out]
    by_cases hc : d = c
    · subst hc; simp
    · simp [hc]

theorem mem_allCranes (c : Crane) : c ∈ allCranes := List.mem_finRange c

theorem mem_allCells (x : CellNo) : x ∈ allCells := List.mem_finRange x

theorem mem_allLines (l : SigLine) : l ∈ allLines := List.mem_finRange l

/-! ### The vane release -/

@[simp] theorem notifySup_out (s : State) (k : NoticeClass) (n : Notice) (x : Sup) (c : Crane) :
    (s.notifySup k n x).out c = s.out c := by
  unfold State.notifySup; split <;> rfl

@[simp] theorem notifyClass_out (s : State) (k : NoticeClass) (n : Notice) (c : Crane) :
    (s.notifyClass k n).out c = s.out c := by simp [State.notifyClass]

@[simp] theorem notifyBoth_out (s : State) (d : Crane) (k : NoticeClass) (n : Notice) (c : Crane) :
    (s.notifyBoth d k n).out c = s.out c := by simp [State.notifyBoth]

/-- The vane fault flag and the feedback check apart, what a feedback event leaves of an output record. -/
theorem feedbackEvent_out (s : State) (c d : Crane) (e : Bool) :
    (feedbackEvent s c e).out d =
      if d = c then { s.out c with check := checkAfter (s.out c).vane (fbAsserted s c) e (s.out c).check }
      else s.out d := by
  unfold feedbackEvent
  dsimp only
  split <;> simp [out_modOut]

/-- A composition of a crane's vane release: the lines of every crane are kept; the crane's release is composed. -/
theorem composeVaneNow_out (s : State) (c d : Crane) :
    ((composeVaneNow s c).out d).linesPart = (s.out d).linesPart
      ∧ ((composeVaneNow s c).out d).vane =
          (if d = c then (vaneEligible s c && (jibHeld s c).isEmpty) else (s.out d).vane)
      ∧ ((composeVaneNow s c).out d).composed = (if d = c then true else (s.out d).composed) := by
  unfold composeVaneNow
  extract_lets held withheld level o a b
  have hb : b.out d = if d = c then { s.out c with vane := level, composed := true, withheld := withheld }
      else s.out d := by
    show (if _ then _ else _ : State).out d = _
    split <;> simp [a, out_modOut]
  split
  · rw [hb]
    split
    · rename_i h; subst h; exact ⟨rfl, rfl, rfl⟩
    · exact ⟨rfl, rfl, rfl⟩
  · rw [feedbackEvent_out]
    simp only [notifyBoth_out]
    by_cases h : d = c
    · subst h
      simp only [if_true] at hb ⊢
      rw [hb]
      exact ⟨rfl, rfl, rfl⟩
    · simp only [h, if_false] at hb ⊢
      rw [hb]
      exact ⟨rfl, rfl, rfl⟩

/-- What the vane release of a crane is composed from is read from the view. -/
theorem vaneLevel_congr {s t : State} (h : s.sourceView = t.sourceView) (c : Crane) :
    (vaneEligible s c && (jibHeld s c).isEmpty) = (vaneEligible t c && (jibHeld t c).isEmpty) := by
  have e : ∀ u : State, (vaneEligible u c && (jibHeld u c).isEmpty)
      = (vaneEligible u.sourceView c && (jibHeld u.sourceView c).isEmpty) := by
    intro u
    have h1 : vaneEligible u.sourceView c = vaneEligible u c := by
      simp only [vaneEligible, view_crane_parkSw, view_crane_duty]
      rfl
    rw [h1]
    rfl
  rw [e s, e t, h]

theorem composeVane_view (s0 s : State) (c : Crane) : (composeVane s0 s c).sourceView = s.sourceView :=
  sourceView_of (by simp)

theorem composeVane_out (s0 s : State) (c d : Crane) :
    ((composeVane s0 s c).out d).linesPart = (s.out d).linesPart
      ∧ (((composeVane s0 s c).out d).composed = true →
          (d = c ∧ ((composeVane s0 s c).out d).vane = (vaneEligible s c && (jibHeld s c).isEmpty))
            ∨ (d ≠ c ∧ (s.out d).composed = true ∧ ((composeVane s0 s c).out d).vane = (s.out d).vane)) := by
  unfold composeVane
  split
  · obtain ⟨h1, h2, h3⟩ := composeVaneNow_out s c d
    refine ⟨h1, fun h => ?_⟩
    by_cases hd : d = c
    · exact .inl ⟨hd, by rw [h2, if_pos hd]⟩
    · rw [h3, if_neg hd] at h
      exact .inr ⟨hd, h, by rw [h2, if_neg hd]⟩
  · rename_i hc
    refine ⟨rfl, fun h => ?_⟩
    by_cases hd : d = c
    · subst hd
      simp [h] at hc
    · exact .inr ⟨hd, h, rfl⟩

theorem foldl_composeVane_out (s0 : State) (l : List Crane) (s : State) (d : Crane) :
    ((l.foldl (composeVane s0) s).out d).linesPart = (s.out d).linesPart
      ∧ (((l.foldl (composeVane s0) s).out d).composed = true → d ∈ l →
          ((l.foldl (composeVane s0) s).out d).vane = (vaneEligible s d && (jibHeld s d).isEmpty))
      ∧ (((l.foldl (composeVane s0) s).out d).composed = true → d ∉ l →
          (s.out d).composed = true ∧ ((l.foldl (composeVane s0) s).out d).vane = (s.out d).vane) := by
  induction l generalizing s with
  | nil => exact ⟨rfl, fun _ h => absurd h (List.not_mem_nil), fun h _ => ⟨h, rfl⟩⟩
  | cons c l ih =>
    rw [List.foldl_cons]
    obtain ⟨i1, i2, i3⟩ := ih (composeVane s0 s c)
    obtain ⟨o1, o2⟩ := composeVane_out s0 s c d
    have hv := vaneLevel_congr (composeVane_view s0 s c) d
    refine ⟨i1.trans o1, fun h hm => ?_, fun h hm => ?_⟩
    · by_cases hl : d ∈ l
      · rw [i2 h hl, hv]
      · obtain ⟨k1, k2⟩ := i3 h hl
        rcases o2 k1 with ⟨rfl, k3⟩ | ⟨k3, -⟩
        · rw [k2, k3]
        · exact absurd ((List.mem_cons.mp hm).resolve_right hl) k3
    · obtain ⟨h1, h2⟩ : d ≠ c ∧ d ∉ l := by simpa using hm
      obtain ⟨k1, k2⟩ := i3 h h2
      rcases o2 k1 with ⟨k3, -⟩ | ⟨-, k3, k4⟩
      · exact absurd k3 h1
      · exact ⟨k3, by rw [k2, k4]⟩

/-! ### The whole composition -/

theorem updateSignals_out (s : State) (c : Crane) : (updateSignals s).out c = s.out c :=
  foldl_out (followSource s.sources (sourcesOf s)) c (fun _ _ => rfl) allLines s

theorem compose_view (s0 s : State) : (compose s0 s).sourceView = s.sourceView := sourceView_of (by simp)

/-- The lines of every crane after a composition, with the MANUAL sets as they stood. -/
theorem compose_lines (s0 s : State) (c : Crane) :
    ((compose s0 s).out c).src = sourceSets s c ∧ ((compose s0 s).out c).lines = unionOf (sourceSets s c) := by
  have h : ((compose s0 s).out c).linesPart = (sourceSets s c, unionOf (sourceSets s c)) := by
    unfold compose
    rw [updateSignals_out, (foldl_composeVane_out s0 _ _ c).1, foldl_composeLines_out, if_pos (mem_allCranes c)]
    rfl
  simpa only [OutRec.linesPart, Prod.mk.injEq] using h

/-- After a composition every crane's sources and lines are those of the state it leaves. -/
theorem compose_current (s0 s : State) (c : Crane) :
    ((compose s0 s).out c).src = sourceSets (compose s0 s) c
      ∧ ((compose s0 s).out c).lines = unionOf ((compose s0 s).out c).src := by
  obtain ⟨h1, h2⟩ := compose_lines s0 s c
  have hm : ((compose s0 s).out c).src.manual = (s.out c).src.manual := by rw [h1]; rfl
  have hs : sourceSets (compose s0 s) c = sourceSets s c := sourceSets_congr (compose_view s0 s) c hm
  exact ⟨by rw [h1, hs], by rw [h2, h1]⟩

/-- After a composition every vane release line that has been composed is that of the state it leaves. -/
theorem compose_vane (s0 s : State) (c : Crane) (h : ((compose s0 s).out c).composed = true) :
    ((compose s0 s).out c).vane = (vaneEligible (compose s0 s) c && (jibHeld (compose s0 s) c).isEmpty) := by
  rw [vaneLevel_congr (compose_view s0 s) c]
  unfold compose at h ⊢
  rw [updateSignals_out] at h ⊢
  rw [(foldl_composeVane_out s0 _ _ c).2.1 h (mem_allCranes c)]
  refine vaneLevel_congr (sourceView_of ?_) c
  exact foldl_keeps State.sansOutputs _ (fun b a => by simp) _ _

end Laws

end Sys2Proof.Machine
end

