-- ==== Sys2Proof/Laws/PerInstr.lean ====
section
/-! SUPPORT. One lemma per row of the opcode table: a request row is the row of its request at its port, and is
well-formed exactly when a frame at that port can carry the request. -/

namespace Sys2Proof.Laws.Fits

open Sys2Proof.Machine

/-- A request row and its request name each other, and are well-formed together. -/
def Statement (i : Instr) : Prop :=
  ∀ p r, i.request = some (p, r) → requestRow p r = i ∧ i.wellFormed = r.wellFormed p

theorem report (p : Port) (r : RawReport) : Statement (.report p r) := by
  intro _ _ h
  cases h
  exact ⟨rfl, rfl⟩

theorem enter (p : Port) (who : Option Nat) (cell : Nat) : Statement (.enter p who cell) := by
  intro _ _ h
  cases h
  exact ⟨rfl, rfl⟩

theorem leave (p : Port) (who : Option Nat) (cell : Nat) : Statement (.leave p who cell) := by
  intro _ _ h
  cases h
  exact ⟨rfl, rfl⟩

theorem book (p : Port) (who : Option Nat) (f : BookFields) : Statement (.book p who f) := by
  intro _ _ h
  cases h
  exact ⟨rfl, rfl⟩

theorem cancel (p : Port) (number : Nat) : Statement (.cancel p number) := by
  intro _ _ h
  cases h
  exact ⟨rfl, rfl⟩

theorem endLift (p : Port) : Statement (.endLift p) := by
  intro _ _ h
  cases h
  exact ⟨rfl, rfl⟩

theorem park (p : Port) (who : Option Nat) : Statement (.park p who) := by
  intro _ _ h
  cases h
  exact ⟨rfl, rfl⟩

theorem service (p : Port) (who : Option Nat) : Statement (.service p who) := by
  intro _ _ h
  cases h
  exact ⟨rfl, rfl⟩

theorem oos (p : Port) (who : Option Nat) : Statement (.oos p who) := by
  intro _ _ h
  cases h
  exact ⟨rfl, rfl⟩

theorem status (p : Port) (target number : Nat) : Statement (.status p target number) := by
  intro _ _ h
  cases h
  exact ⟨rfl, rfl⟩

theorem noticeMask (p : Port) (m : Classes) : Statement (.noticeMask p m) := by
  intro _ _ h
  cases h
  exact ⟨rfl, rfl⟩

theorem take (p : Port) : Statement (.take p) := by
  intro _ _ h
  cases h
  exact ⟨rfl, rfl⟩

theorem handover (p : Port) : Statement (.handover p) := by
  intro _ _ h
  cases h
  exact ⟨rfl, rfl⟩

theorem restart (p : Port) : Statement (.restart p) := by
  intro _ _ h
  cases h
  exact ⟨rfl, rfl⟩

theorem forceRelease (p : Port) (cell : Nat) : Statement (.forceRelease p cell) := by
  intro _ _ h
  cases h
  exact ⟨rfl, rfl⟩

theorem inhibitSet (p : Port) (crane : Nat) (m : Lines) : Statement (.inhibitSet p crane m) := by
  intro _ _ h
  cases h
  exact ⟨rfl, rfl⟩

theorem inhibitClear (p : Port) (crane : Nat) (m : Lines) : Statement (.inhibitClear p crane m) := by
  intro _ _ h
  cases h
  exact ⟨rfl, rfl⟩

theorem setSignal (p : Port) (line : Nat) (cfg : RawSignal) : Statement (.setSignal p line cfg) := by
  intro _ _ h
  cases h
  exact ⟨rfl, rfl⟩

theorem setInput (p : Port) (crane input sel : Nat) : Statement (.setInput p crane input sel) := by
  intro _ _ h
  cases h
  exact ⟨rfl, rfl⟩

theorem rule (p : Port) (number ruling : Nat) : Statement (.rule p number ruling) := by
  intro _ _ h
  cases h
  exact ⟨rfl, rfl⟩

theorem abort (p : Port) (number : Nat) : Statement (.abort p number) := by
  intro _ _ h
  cases h
  exact ⟨rfl, rfl⟩

theorem finish (p : Port) (number : Nat) : Statement (.finish p number) := by
  intro _ _ h
  cases h
  exact ⟨rfl, rfl⟩

theorem setClock (p : Port) (value : Nat) : Statement (.setClock p value) := by
  intro _ _ h
  cases h
  exact ⟨rfl, rfl⟩

theorem siteStop (p : Port) : Statement (.siteStop p) := by
  intro _ _ h
  cases h
  exact ⟨rfl, rfl⟩

theorem resume (p : Port) : Statement (.resume p) := by
  intro _ _ h
  cases h
  exact ⟨rfl, rfl⟩

theorem setWind (p : Port) (t : Thresholds) : Statement (.setWind p t) := by
  intro _ _ h
  cases h
  exact ⟨rfl, rfl⟩

theorem setCal (p : Port) (k : RawCal) : Statement (.setCal p k) := by
  intro _ _ h
  cases h
  exact ⟨rfl, rfl⟩

theorem stageClear (p : Port) : Statement (.stageClear p) := by
  intro _ _ h
  cases h
  exact ⟨rfl, rfl⟩

theorem stageCopy (p : Port) : Statement (.stageCopy p) := by
  intro _ _ h
  cases h
  exact ⟨rfl, rfl⟩

theorem stageCrane (p : Port) (crane : Nat) (d : Option Decl) : Statement (.stageCrane p crane d) := by
  intro _ _ h
  cases h
  exact ⟨rfl, rfl⟩

theorem stageCell (p : Port) (first : Nat) (recs : List RawRecord) : Statement (.stageCell p first recs) := by
  intro _ _ h
  cases h
  exact ⟨rfl, rfl⟩

theorem stageRemoveCell (p : Port) (cell : Nat) : Statement (.stageRemoveCell p cell) := by
  intro _ _ h
  cases h
  exact ⟨rfl, rfl⟩

theorem stageSite (p : Port) (v : RawParams) : Statement (.stageSite p v) := by
  intro _ _ h
  cases h
  exact ⟨rfl, rfl⟩

theorem commit (p : Port) : Statement (.commit p) := by
  intro _ _ h
  cases h
  exact ⟨rfl, rfl⟩

theorem commitCancel (p : Port) : Statement (.commitCancel p) := by
  intro _ _ h
  cases h
  exact ⟨rfl, rfl⟩

theorem badKind (p : Port) (kind : Byte) (body : List Byte) : Statement (.badKind p kind body) := fun _ _ h => nomatch h

theorem frameReceived (p : Port) (bytes : List Byte) : Statement (.frameReceived p bytes) := fun _ _ h => nomatch h

theorem frameIdleTimeout (p : Port) : Statement (.frameIdleTimeout p) := fun _ _ h => nomatch h

theorem responseSent (p : Port) : Statement (.responseSent p) := fun _ _ h => nomatch h

theorem noticeSent (p : Port) : Statement (.noticeSent p) := fun _ _ h => nomatch h

theorem powerOnReset : Statement .powerOnReset := fun _ _ h => nomatch h

theorem panelReset : Statement .panelReset := fun _ _ h => nomatch h

theorem restartReset : Statement .restartReset := fun _ _ h => nomatch h

theorem startUp : Statement .startUp := fun _ _ h => nomatch h

theorem parkSwEdge (c : Crane) (level : Bool) : Statement (.parkSwEdge c level) := fun _ _ h => nomatch h

theorem vaneFbEdge (c : Crane) (level : Bool) : Statement (.vaneFbEdge c level) := fun _ _ h => nomatch h

theorem takeKeyTaken (level : Bool) : Statement (.takeKeyTaken level) := fun _ _ h => nomatch h

theorem anemPulse (ch : Channel) (micros : Nat) : Statement (.anemPulse ch micros) := fun _ _ h => nomatch h

theorem sample : Statement .sample := fun _ _ h => nomatch h

theorem faultHigh (ch : Channel) : Statement (.faultHigh ch) := fun _ _ h => nomatch h

theorem faultStuck (ch : Channel) : Statement (.faultStuck ch) := fun _ _ h => nomatch h

theorem channelClearRunReached (ch : Channel) : Statement (.channelClearRunReached ch) := fun _ _ h => nomatch h

theorem blockComplete : Statement .blockComplete := fun _ _ h => nomatch h

theorem alertCalmReached : Statement .alertCalmReached := fun _ _ h => nomatch h

theorem holdCalmReached : Statement .holdCalmReached := fun _ _ h => nomatch h

theorem stopCalmReached : Statement .stopCalmReached := fun _ _ h => nomatch h

theorem resumeReady : Statement .resumeReady := fun _ _ h => nomatch h

theorem parkTimeout : Statement .parkTimeout := fun _ _ h => nomatch h

theorem silenceLimitExpiry (c : Crane) : Statement (.silenceLimitExpiry c) := fun _ _ h => nomatch h

theorem lostLimitExpiry (c : Crane) : Statement (.lostLimitExpiry c) := fun _ _ h => nomatch h

theorem waitExpired (x : CellNo) (c : Crane) : Statement (.waitExpired x c) := fun _ _ h => nomatch h

theorem recallOverdue (x : CellNo) : Statement (.recallOverdue x) := fun _ _ h => nomatch h

theorem clockSecond : Statement .clockSecond := fun _ _ h => nomatch h

theorem commitExpired : Statement .commitExpired := fun _ _ h => nomatch h

theorem storeWriteDone (good : Bool) : Statement (.storeWriteDone good) := fun _ _ h => nomatch h

theorem vaneFault (c : Crane) : Statement (.vaneFault c) := fun _ _ h => nomatch h

theorem pulseEnd (l : SigLine) : Statement (.pulseEnd l) := fun _ _ h => nomatch h

theorem flashPhase (l : SigLine) : Statement (.flashPhase l) := fun _ _ h => nomatch h

theorem startByte (p : Port) : Statement (.startByte p) := fun _ _ h => nomatch h

theorem lossOfSupply (corrupt : Bool) : Statement (.lossOfSupply corrupt) := fun _ _ h => nomatch h

end Sys2Proof.Laws.Fits
end

