-- ==== Sys2Proof/Laws/Requests.lean ====
section
/-! SUPPORT. What a request leaves of the ports, that it is answered once, and how a port takes it (R161). -/

namespace Sys2Proof.Machine

/-- A port without what requests and notices write there: its receiver, its buffer and its transmitter remain. -/
def PortRec.shell (q : PortRec) : PortRec := { q with notices := [], overflow := false, slot := none, mask := noClasses }

/-- The queue, the phase and the reset registers, and the shells of the ports: what no request changes. -/
def State.shell (s : State) : State :=
  { State.reset with pending := s.pending, phase := s.phase, cause := s.cause, restartReady := s.restartReady,
                     ports := s.ports.map PortRec.shell }

/-- A port's slot holds a response of a kind. -/
def answered (s : State) (p : Port) (k : ReqKind) : Prop := ∃ o why r, responds s p k o why r

namespace Laws

/-! ### Shells -/

theorem shell_of_core {s t : State} (h : s.core = t.core) : s.shell = t.shell := by
  have e : ∀ u : State, u.shell = { State.reset with
      pending := u.core.pending, phase := u.core.phase, cause := u.core.cause, restartReady := u.core.restartReady,
      ports := u.core.ports.map PortRec.shell } := by
    intro u
    simp only [State.shell, State.core, Vector.map_map]
    rfl
  rw [e s, e t, h]

theorem modPort_shell (s : State) (p : Port) (f : PortRec → PortRec) (h : ∀ q, (f q).shell = q.shell) :
    (s.modPort p f).shell = s.shell := by
  unfold State.modPort State.shell
  rw [map_set_keeps s.ports (portIndex p) f _ h]

@[simp] theorem respond_shell (s : State) (p : Port) (r : Response) : (s.respond p r).shell = s.shell :=
  modPort_shell s p _ fun _ => rfl

@[simp] theorem answer_shell (s : State) (p : Port) (k : ReqKind) (r : Result) : (s.answer p k r).shell = s.shell :=
  respond_shell _ _ _

@[simp] theorem refuse_shell (s : State) (p : Port) (k : ReqKind) (w : Reason) (r : Result) :
    (s.refuse p k w r).shell = s.shell := respond_shell _ _ _

@[simp] theorem notify_shell (s : State) (p : Port) (n : Notice) : (s.notify p n).shell = s.shell :=
  shell_of_core (by simp)

@[simp] theorem notifyClass_shell (s : State) (k : NoticeClass) (n : Notice) : (s.notifyClass k n).shell = s.shell :=
  shell_of_core (by simp)

@[simp] theorem notifyBooking_shell (s : State) (b : Booking) (n : Notice) : (s.notifyBooking b n).shell = s.shell :=
  shell_of_core (by simp)

@[simp] theorem announceWind_shell (s : State) (w : WindState) : (announceWind s w).shell = s.shell :=
  shell_of_core (by simp)

@[simp] theorem conclude_shell (s0 s : State) : (conclude s0 s).shell = s.shell := shell_of_core (by simp)

@[simp] theorem compose_shell (s0 s : State) : (compose s0 s).shell = s.shell := shell_of_core (by simp)

@[simp] theorem setMap_shell (s : State) (m : MapUnit) : (s.setMap m).shell = s.shell := rfl

@[simp] theorem setMeas_shell (s : State) (m : Meas) : (s.setMeas m).shell = s.shell := rfl

@[simp] theorem setWind_shell (s : State) (w : WindRec) : (s.setWind w).shell = s.shell := rfl

@[simp] theorem setBook_shell (s : State) (b : Book) : (s.setBook b).shell = s.shell := rfl

@[simp] theorem setClock_shell (s : State) (k : Clock) : (s.setClock k).shell = s.shell := rfl

@[simp] theorem startWrite_shell (s : State) (c : Content) : (startWrite s c).shell = s.shell := rfl

@[simp] theorem becomeDue_shell (s : State) (n : Nat) (f : Option BookState) : (becomeDue s n f).shell = s.shell :=
  shell_of_core (by simp)

@[simp] theorem endBooking_shell (s : State) (b : Booking) (o : BookOutcome) (q : Option Port) :
    (endBooking s b o q).shell = s.shell := shell_of_core (by simp)

@[simp] theorem moveBooking_shell (s : State) (b : Booking) (st : BookState) : (moveBooking s b st).shell = s.shell :=
  shell_of_core (by simp)

@[simp] theorem withdrawClaims_shell (s : State) (b : Booking) : (withdrawClaims s b).shell = s.shell :=
  shell_of_core (by simp)

@[simp] theorem bookingRelease_shell (s : State) (b : Booking) (k : Option CellNo) (o : BookOutcome)
    (q : Option Port) : (bookingRelease s b k o q).shell = s.shell := shell_of_core (by simp)

@[simp] theorem releaseCell_shell (s : State) (x : CellNo) (w : CellCause) : (releaseCell s x w).shell = s.shell :=
  shell_of_core (by simp)

@[simp] theorem setGrant_shell (s : State) (x : CellNo) (g : Grant) (w : CellCause) :
    (setGrant s x g w).shell = s.shell := shell_of_core (by simp)

@[simp] theorem moveWind_shell (s : State) (w : WindState) (k : WindCause) (t : Option Nat) :
    (moveWind s w k t).shell = s.shell := shell_of_core (by simp)

@[simp] theorem changeDuty_shell (s : State) (p : Port) (c : Crane) (d : Duty) :
    (changeDuty s p c d).shell = s.shell := shell_of_core (by simp)

@[simp] theorem activate_shell (s : State) (l : List CellNo) : (activate s l).shell = s.shell := shell_of_core (by simp)

/-! ### Slots -/

@[simp] theorem respond_slot (s : State) (p : Port) (r : Response) : ((s.respond p r).port p).slot = some r := by
  simp [State.respond]

@[simp] theorem answer_slot (s : State) (p : Port) (k : ReqKind) (r : Result) :
    responds (s.answer p k r) p k .ok none r := by simp [responds, State.answer]

@[simp] theorem refuse_slot (s : State) (p : Port) (k : ReqKind) (w : Reason) (r : Result) :
    responds (s.refuse p k w r) p k .refused (some w) r := by simp [responds, State.refuse]

theorem answer_answered (s : State) (p : Port) (k : ReqKind) (r : Result) : answered (s.answer p k r) p k :=
  ⟨_, _, _, answer_slot s p k r⟩

theorem refuse_answered (s : State) (p : Port) (k : ReqKind) (w : Reason) (r : Result) :
    answered (s.refuse p k w r) p k := ⟨_, _, _, refuse_slot s p k w r⟩

theorem respond_answered (s : State) (p : Port) (k : ReqKind) (o : RespOutcome) (w : Option Reason) (r : Result) :
    answered (s.respond p ⟨respKind k, o, w, r⟩) p k := ⟨o, w, r, by simp [responds]⟩

/-- Served: the shell is kept and the request answered. -/
def served (s t : State) (p : Port) (k : ReqKind) : Prop := t.shell = s.shell ∧ answered t p k

theorem served_answer {s t : State} {p : Port} {k : ReqKind} (r : Result) (h : t.shell = s.shell) :
    served s (t.answer p k r) p k := ⟨by simp [h], answer_answered _ _ _ _⟩

theorem served_refuse (s : State) (p : Port) (k : ReqKind) (w : Reason) (r : Result) :
    served s (s.refuse p k w r) p k := ⟨by simp, refuse_answered _ _ _ _ _⟩

theorem served_respond {s t : State} {p : Port} (k : ReqKind) (o : RespOutcome) (w : Option Reason) (r : Result)
    (h : t.shell = s.shell) : served s (t.respond p ⟨respKind k, o, w, r⟩) p k :=
  ⟨by simp [h], respond_answered _ _ _ _ _ _⟩

/-! ### Each request is served -/

theorem doReport_shell (c : Crane) (r : RawReport) (s : State) : (doReport c r s).shell = s.shell := by
  unfold doReport
  split
  · apply shell_of_core
    unfold takeReport storeReport
    dsimp only
    rw [conclude_core, touchService_core, formTouch_core, fullComputation_core]
    split
    · rfl
    · rw [setLink_core]; rfl
  · rfl

theorem doEnter_served (p : Port) (w : Option Nat) (x : Nat) (s : State) : served s (doEnter p w x s) p .enter := by
  unfold doEnter
  split
  · exact served_refuse _ _ _ _ _
  · split
    · split
      · exact served_refuse _ _ _ _ _
      · unfold acceptEnter
        split
        · exact served_respond _ _ _ _ (by simp)
        · refine served_respond _ _ _ _ ?_
          simp only [conclude_shell]
          exact shell_of_core rfl
    · exact served_refuse _ _ _ _ _

theorem doLeave_served (p : Port) (w : Option Nat) (x : Nat) (s : State) : served s (doLeave p w x s) p .leave := by
  unfold doLeave
  split
  · exact served_refuse _ _ _ _ _
  · split
    · split
      · exact served_refuse _ _ _ _ _
      · refine served_answer _ ?_
        unfold tellLeft
        split <;> simp
    · exact served_refuse _ _ _ _ _

theorem decideDuty_served (k : ReqKind) (d : Duty) (f : State → Crane → List (Bool × Reason)) (p : Port)
    (w : Option Nat) (s : State) : served s (decideDuty k d f p w s) p k := by
  unfold decideDuty
  split
  · exact served_refuse _ _ _ _ _
  · split
    · exact served_refuse _ _ _ _ _
    · split
      · exact served_refuse _ _ _ _ _
      · split
        · exact served_answer _ rfl
        · split
          · exact served_refuse _ _ _ _ _
          · exact served_answer _ (by simp)

theorem doBook_served (p : Port) (w : Option Nat) (f : BookFields) (s : State) : served s (doBook p w f s) p .book := by
  unfold doBook
  split
  · exact served_refuse _ _ _ _ _
  · split
    · exact served_refuse _ _ _ _ _
    · split
      · exact served_refuse _ _ _ _ _
      · split
        · exact served_refuse _ _ _ _ _
        · split
          · exact served_refuse _ _ _ _ _
          · unfold acceptBook
            dsimp only
            refine served_answer _ ?_
            split <;> simp

theorem doCancel_served (p : Port) (n : Nat) (s : State) : served s (doCancel p n s) p .cancel := by
  unfold doCancel
  split
  · exact served_refuse _ _ _ _ _
  · split
    · exact served_refuse _ _ _ _ _
    · split
      · exact served_refuse _ _ _ _ _
      · split
        · exact served_refuse _ _ _ _ _
        · unfold acceptCancel
          dsimp only
          refine served_answer _ ?_
          split <;> simp

theorem doEnd_served (c : Crane) (s : State) : served s (doEnd c s) (.c c) .endLift := by
  unfold doEnd
  split
  · exact served_refuse _ _ _ _ _
  · split
    · exact served_refuse _ _ _ _ _
    · unfold endLift
      split <;> exact served_answer _ (by simp)

theorem doStatus_served (p : Port) (t n : Nat) (s : State) : served s (doStatus p t n s) p .status := by
  unfold doStatus
  split
  · exact served_refuse _ _ _ _ _
  · exact served_answer _ (modPort_shell _ _ _ fun _ => rfl)

theorem doNoticeMask_served (x : Sup) (m : Classes) (s : State) :
    served s (doNoticeMask x m s) (.s x) .noticeMask := served_answer _ (modPort_shell _ _ _ fun _ => rfl)

theorem giveAuthority_shell (s : State) (x : Sup) (m : AuthorityMove) : (giveAuthority s x m).shell = s.shell := by
  unfold giveAuthority
  rw [notify_shell, notify_shell]
  rfl

theorem doTake_served (x : Sup) (s : State) : served s (doTake x s) (.s x) .take := by
  unfold doTake
  split
  · exact served_answer _ rfl
  · split
    · exact served_answer _ (giveAuthority_shell _ _ _)
    · exact served_refuse _ _ _ _ _

theorem doHandover_served (x : Sup) (s : State) : served s (doHandover x s) (.s x) .handover := by
  unfold doHandover
  split
  · exact served_answer _ (giveAuthority_shell _ _ _)
  · exact served_refuse _ _ _ _ _

theorem doRestart_served (x : Sup) (s : State) : served s (doRestart x s) (.s x) .restart := by
  unfold doRestart
  split
  · exact served_answer _ rfl
  · exact served_refuse _ _ _ _ _

theorem forceFree_shell (s : State) (x : CellNo) (g : Grant) : (forceFree s x g).shell = s.shell := by
  unfold forceFree
  dsimp only
  split
  · split <;> simp
  · simp

theorem doForceRelease_served (x : Sup) (k : Nat) (s : State) :
    served s (doForceRelease x k s) (.s x) .forceRelease := by
  unfold doForceRelease
  dsimp only
  split
  · exact served_refuse _ _ _ _ _
  · split
    · exact served_refuse _ _ _ _ _
    · split
      · exact served_refuse _ _ _ _ _
      · split
        · exact served_refuse _ _ _ _ _
        · exact served_answer _ (by simp [forceFree_shell])

theorem changeManual_served (k : ReqKind) (f : Lines → Lines → Lines) (x : Sup) (c : Nat) (m : Lines) (s : State) :
    served s (changeManual k f x c m s) (.s x) k := by
  unfold changeManual
  dsimp only
  split
  · exact served_refuse _ _ _ _ _
  · split
    · exact served_refuse _ _ _ _ _
    · split
      · exact served_refuse _ _ _ _ _
      · unfold answerInhibit
        refine served_answer _ ?_
        unfold placeManual
        dsimp only
        split
        · rw [compose_shell]; exact shell_of_core rfl
        · rw [notifyClass_shell, compose_shell]; exact shell_of_core rfl

theorem doSetSignal_served (x : Sup) (l : Nat) (g : RawSignal) (s : State) :
    served s (doSetSignal x l g s) (.s x) .setSignal := by
  unfold doSetSignal
  dsimp only
  split
  · exact served_refuse _ _ _ _ _
  · split
    · refine served_answer _ ?_
      unfold configureLine
      dsimp only
      rw [notifyClass_shell, startWrite_shell]
      exact shell_of_core rfl
    · exact served_refuse _ _ _ _ _

theorem doSetInput_served (x : Sup) (c i e : Nat) (s : State) :
    served s (doSetInput x c i e s) (.s x) .setInput := by
  unfold doSetInput
  dsimp only
  split
  · exact served_refuse _ _ _ _ _
  · split
    · refine served_answer _ ?_
      unfold selectEdges
      split <;> exact shell_of_core rfl
    · exact served_refuse _ _ _ _ _

/-- A table of checks that refuses nothing refuses none of its checks. -/
theorem firstRefusal_none {l : List (Bool × Reason)} (h : firstRefusal l = none) : ∀ k ∈ l, k.1 = false := by
  induction l with
  | nil => simp
  | cons a l ih =>
    obtain ⟨b, w⟩ := a
    cases b
    · simp only [firstRefusal, Bool.false_eq_true, if_false] at h
      simpa using ih h
    · simp [firstRefusal] at h

theorem doRule_served (p : Port) (n r : Nat) (s : State) : served s (doRule p n r s) p .rule := by
  unfold doRule
  split
  · exact served_refuse _ _ _ _ _
  · rename_i h
    have hc := firstRefusal_none h
    simp only [rulingChecks, List.mem_cons, List.not_mem_nil, or_false, forall_eq_or_imp, forall_eq, Bool.not_eq_false',
      Bool.and_eq_true, Option.isNone_eq_false_iff] at hc
    obtain ⟨-, ⟨-, hr⟩, hb⟩ := hc
    split
    · split
      · unfold giveRuling
        split
        · refine served_answer _ ?_
          unfold acceptRuling
          split
          · simp
          · rw [notifyBooking_shell]; rfl
        · exact served_answer _ (by simp)
      · exact served_refuse _ _ _ _ _
    · rename_i hn
      obtain ⟨b, hb⟩ := Option.isSome_iff_exists.mp hb
      obtain ⟨a, ha⟩ := Option.isSome_iff_exists.mp hr
      exact absurd ha (hn b a hb)

theorem doAbort_served (p : Port) (n : Nat) (s : State) : served s (doAbort p n s) p .abort := by
  unfold doAbort
  split
  · exact served_refuse _ _ _ _ _
  · rename_i h
    have hc := firstRefusal_none h
    simp only [rulingChecks, List.mem_cons, List.not_mem_nil, or_false, forall_eq_or_imp, forall_eq,
      Option.isNone_eq_false_iff] at hc
    split
    · split
      · exact served_answer _ (by simp)
      · exact served_refuse _ _ _ _ _
    · rename_i hn
      simp [hn] at hc

theorem doFinish_served (p : Port) (n : Nat) (s : State) : served s (doFinish p n s) p .finish := by
  unfold doFinish
  split
  · exact served_refuse _ _ _ _ _
  · rename_i h
    have hc := firstRefusal_none h
    simp only [rulingChecks, List.mem_cons, List.not_mem_nil, or_false, forall_eq_or_imp, forall_eq,
      Option.isNone_eq_false_iff] at hc
    split
    · split
      · exact served_answer _ (by simp)
      · exact served_refuse _ _ _ _ _
    · rename_i hn
      simp [hn] at hc

theorem takeCounting_keeps {γ : Type} (g : State → γ) (test : Booking → Bool) (f : State → Nat → State)
    (h : ∀ t n, g (f t n) = g t) (s : State) : g (takeCounting test f s).1 = g s :=
  foldl_keeps (fun b : State × Nat => g b.1) _ (fun b n => by dsimp only; split <;> simp [h]) _ _

/-- Judging the book at a setting of the clock keeps the core. -/
theorem judgeBook_core (a b : Nat) (s : State) : (judgeBook a b s).1.core = s.core := by
  unfold judgeBook
  split
  · unfold forwardSetting
    dsimp only
    rw [takeAll_core _ _ (by simp), takeCounting_keeps State.core _ _ (by simp), takeAllThenSettle_core _ _ (by simp)]
  · split
    · exact takeAllThenSettle_core _ _ (by simp) _
    · rfl

theorem doSetClock_served (p : Port) (v : Nat) (s : State) : served s (doSetClock p v s) p .setClock := by
  unfold doSetClock
  split
  · exact served_refuse _ _ _ _ _
  · unfold acceptClock
    dsimp only
    refine served_answer _ ?_
    rw [notifyClass_shell, compose_shell, shell_of_core (judgeBook_core _ _ _)]
    rfl

theorem withdrawReady_shell (s : State) : (withdrawReady s).shell = s.shell := by
  unfold withdrawReady
  split <;> simp

theorem doSiteStop_served (x : Sup) (s : State) : served s (doSiteStop x s) (.s x) .siteStop := by
  unfold doSiteStop
  dsimp only
  split
  · exact served_refuse _ _ _ _ _
  · split
    · exact served_answer _ rfl
    · refine served_answer _ ?_
      rw [conclude_shell]
      unfold siteStops
      dsimp only
      split
      · simp
      · rw [announceWind_shell, withdrawReady_shell]; rfl
      · exact shell_of_core (by simp)

theorem doResume_served (x : Sup) (s : State) : served s (doResume x s) (.s x) .resume := by
  unfold doResume
  dsimp only
  split
  · exact served_refuse _ _ _ _ _
  · split
    · exact served_answer _ (by simp)
    · split
      · exact served_answer _ (by simp)
      · exact served_refuse _ _ _ _ _

theorem doSetWind_served (x : Sup) (t : Thresholds) (s : State) : served s (doSetWind x t s) (.s x) .setWind := by
  unfold doSetWind
  dsimp only
  split
  · exact served_refuse _ _ _ _ _
  · split
    · exact served_refuse _ _ _ _ _
    · exact served_answer _ (by simp)

theorem doSetCal_served (x : Sup) (k : RawCal) (s : State) : served s (doSetCal x k s) (.s x) .setCal := by
  unfold doSetCal
  dsimp only
  split
  · exact served_refuse _ _ _ _ _
  · split
    · exact served_refuse _ _ _ _ _
    · exact served_answer _ (by simp)

theorem stage_served (k : ReqKind) (x : Sup) (f : MapUnit → Option (MapUnit × Result)) (s : State) :
    served s (stage k x f s) (.s x) k := by
  unfold stage
  split
  · exact served_refuse _ _ _ _ _
  · split
    · exact served_refuse _ _ _ _ _
    · exact served_answer _ rfl

theorem doCommit_served (x : Sup) (s : State) : served s (doCommit x s) (.s x) .commit := by
  unfold doCommit
  split
  · exact served_refuse _ _ _ _ _
  · split
    · exact served_refuse _ _ _ _ _
    · unfold decideCommit
      dsimp only
      split
      · exact served_answer _ (by simp)
      · refine served_answer _ ?_
        unfold makePending
        dsimp only
        rw [notifyClass_shell]
        rfl

theorem doCommitCancel_served (x : Sup) (s : State) : served s (doCommitCancel x s) (.s x) .commitCancel := by
  unfold doCommitCancel
  split
  · exact served_refuse _ _ _ _ _
  · refine served_answer _ ?_
    simp only [endCommit, conclude_shell, notifyClass_shell]
    rfl

/-! ### Every request -/

theorem named_served {p : Port} {k : ReqKind} {w : Option Nat} {s : State} {f : State → State}
    (h : served s (f s) p k) : served s (named p k w s f) p k := by
  unfold named
  split
  · exact h
  · exact served_refuse _ _ _ _ _

theorem onSup_served {p : Port} {k : ReqKind} {s : State} {f : Sup → State → State}
    (h : ∀ x, served s (f x s) (.s x) k) : served s (onSup p k s f) p k := by
  cases p
  · exact served_refuse _ _ _ _ _
  · exact h _

/-- Every request but a crane's REPORT is answered once, and keeps the shells of the ports. -/
theorem perform_served (p : Port) (r : Request) (s : State) (h : r.kind ≠ .report ∨ ∃ x, p = .s x) :
    served s (perform p r s) p r.kind := by
  cases r
  case report r =>
    obtain h | ⟨x, rfl⟩ := h
    · exact absurd rfl h
    · exact served_refuse _ _ _ _ _
  case endLift =>
    cases p
    · exact doEnd_served _ _
    · exact served_refuse _ _ _ _ _
  case enter => exact named_served (doEnter_served _ _ _ _)
  case leave => exact named_served (doLeave_served _ _ _ _)
  case book => exact named_served (doBook_served _ _ _ _)
  case cancel => exact doCancel_served _ _ _
  case park => exact named_served (decideDuty_served _ _ _ _ _ _)
  case service => exact named_served (decideDuty_served _ _ _ _ _ _)
  case oos => exact named_served (decideDuty_served _ _ _ _ _ _)
  case status => exact doStatus_served _ _ _ _
  case noticeMask => exact onSup_served fun _ => doNoticeMask_served _ _ _
  case take => exact onSup_served fun _ => doTake_served _ _
  case handover => exact onSup_served fun _ => doHandover_served _ _
  case restart => exact onSup_served fun _ => doRestart_served _ _
  case forceRelease => exact onSup_served fun _ => doForceRelease_served _ _ _
  case inhibitSet => exact onSup_served fun _ => changeManual_served _ _ _ _ _ _
  case inhibitClear => exact onSup_served fun _ => changeManual_served _ _ _ _ _ _
  case setSignal => exact onSup_served fun _ => doSetSignal_served _ _ _ _
  case setInput => exact onSup_served fun _ => doSetInput_served _ _ _ _ _
  case rule =>
    cases p
    · exact served_refuse _ _ _ _ _
    · exact doRule_served _ _ _ _
  case abort =>
    cases p
    · exact served_refuse _ _ _ _ _
    · exact doAbort_served _ _ _
  case finish =>
    cases p
    · exact served_refuse _ _ _ _ _
    · exact doFinish_served _ _ _
  case setClock =>
    cases p
    · exact served_refuse _ _ _ _ _
    · exact doSetClock_served _ _ _
  case siteStop => exact onSup_served fun _ => doSiteStop_served _ _
  case resume => exact onSup_served fun _ => doResume_served _ _
  case setWind => exact onSup_served fun _ => doSetWind_served _ _ _
  case setCal => exact onSup_served fun _ => doSetCal_served _ _ _
  case stageClear => exact onSup_served fun _ => stage_served _ _ _ _
  case stageCopy => exact onSup_served fun _ => stage_served _ _ _ _
  case stageCrane => exact onSup_served fun _ => stage_served _ _ _ _
  case stageCell => exact onSup_served fun _ => stage_served _ _ _ _
  case stageRemoveCell => exact onSup_served fun _ => stage_served _ _ _ _
  case stageSite => exact onSup_served fun _ => stage_served _ _ _ _
  case commit => exact onSup_served fun _ => doCommit_served _ _
  case commitCancel => exact onSup_served fun _ => doCommitCancel_served _ _

theorem perform_shell (p : Port) (r : Request) (s : State) : (perform p r s).shell = s.shell := by
  by_cases h : r.kind = .report
  · cases r <;> simp [Request.kind] at h
    cases p
    · exact doReport_shell _ _ _
    · exact (served_refuse _ _ _ _ _).1
  · exact (perform_served p r s (.inl h)).1

/-! ### How a port takes a frame -/

theorem shell_buffer {s t : State} (h : s.shell = t.shell) (p : Port) : (s.port p).buffer = (t.port p).buffer := by
  have hp : s.shell.ports = t.shell.ports := congrArg State.ports h
  have hi := congrArg (fun v : Vector PortRec 10 => (v[portIndex p]).buffer) hp
  simpa [State.shell, PortRec.shell, State.port] using hi

/-- A port that attends takes a frame at once and nothing more. -/
theorem deliver_attended {s : State} {p : Port} (h : attends s p) (f : Frame)
    (hf : (judge p f s).shell = s.shell) : deliver p f s = judge p f s := by
  obtain ⟨-, hr, hs, hb⟩ := h
  have h1 : takeFrame p (s.modPort p (queueFrame f)) = judge p f s := by
    unfold takeFrame
    simp only [port_modPort_same, queueFrame, hb, hs, hr, modPort_restartReady, List.length_nil, Config.rxBufferMax,
      List.nil_append, if_true, Option.isSome_none, Bool.or_self, Bool.false_eq_true, if_false, modPort_modPort,
      Nat.zero_lt_succ]
    congr 1
    refine modPort_eq_self s ?_
    cases hq : s.port p
    simp_all
  unfold deliver takeFrames
  rw [h1]
  unfold takeFrame
  have hb' : ((judge p f s).port p).buffer = [] := by rw [shell_buffer hf p, hb]
  rw [hb']
  simp

/-- A request's frame at a port that attends. -/
theorem arrive_attended {s : State} {p : Port} (h : attends s p) (r : Request) :
    arrive p r s = (perform p r s).transmit := by
  unfold arrive whenRunning
  rw [if_pos h.1, deliver_attended h (.request r) (perform_shell p r s)]
  rfl

end Laws

end Sys2Proof.Machine
end

