-- ==== Sys2Proof/Laws/Transmit.lean ====
section
/-! SUPPORT. What the start of sending leaves (R161): every free transmitter begins its next frame and nothing else
changes. -/

namespace Sys2Proof.Machine

namespace Laws

theorem startTx_idem (q : PortRec) : startTx (startTx q) = startTx q := by
  cases hs : q.slot.isSome <;> cases hn : q.notices.isEmpty <;> cases ht : q.tx <;> simp [startTx, hs, hn, ht]

/-- The ports after some of them have begun to send. -/
theorem foldl_startTx_port (l : List Port) (s : State) (q : Port) :
    (l.foldl (fun t p => t.modPort p startTx) s).port q = if q ∈ l then startTx (s.port q) else s.port q := by
  induction l generalizing s with
  | nil => simp
  | cons p l ih =>
    rw [List.foldl_cons, ih, port_modPort]
    by_cases hqp : q = p
    · subst hqp
      simp [startTx_idem]
    · simp [hqp]

theorem mem_allPorts (p : Port) : p ∈ allPorts := by
  rcases p with c | x
  · exact List.mem_append_left _ (List.mem_map_of_mem (List.mem_finRange c))
  · cases x <;> simp [allPorts]

/-- Each port after the start of sending. -/
@[simp] theorem transmit_port (s : State) (p : Port) : s.transmit.port p = startTx (s.port p) := by
  unfold State.transmit
  rw [foldl_startTx_port, if_pos (mem_allPorts p)]

theorem foldl_startTx_keeps {γ : Type} (g : State → γ) (h : ∀ s p, g (s.modPort p startTx) = g s) (l : List Port)
    (s : State) : g (l.foldl (fun t p => t.modPort p startTx) s) = g s := by
  induction l generalizing s with
  | nil => rfl
  | cons p l ih => rw [List.foldl_cons, ih, h]

@[simp] theorem transmit_pending (s : State) : s.transmit.pending = s.pending :=
  foldl_startTx_keeps State.pending (fun _ _ => rfl) _ s
@[simp] theorem transmit_phase (s : State) : s.transmit.phase = s.phase :=
  foldl_startTx_keeps State.phase (fun _ _ => rfl) _ s
@[simp] theorem transmit_cause (s : State) : s.transmit.cause = s.cause :=
  foldl_startTx_keeps State.cause (fun _ _ => rfl) _ s
@[simp] theorem transmit_restartReady (s : State) : s.transmit.restartReady = s.restartReady :=
  foldl_startTx_keeps State.restartReady (fun _ _ => rfl) _ s
@[simp] theorem transmit_map (s : State) : s.transmit.map = s.map :=
  foldl_startTx_keeps State.map (fun _ _ => rfl) _ s
@[simp] theorem transmit_cranes (s : State) : s.transmit.cranes = s.cranes :=
  foldl_startTx_keeps State.cranes (fun _ _ => rfl) _ s
@[simp] theorem transmit_envs (s : State) : s.transmit.envs = s.envs :=
  foldl_startTx_keeps State.envs (fun _ _ => rfl) _ s
@[simp] theorem transmit_cells (s : State) : s.transmit.cells = s.cells :=
  foldl_startTx_keeps State.cells (fun _ _ => rfl) _ s
@[simp] theorem transmit_outs (s : State) : s.transmit.outs = s.outs :=
  foldl_startTx_keeps State.outs (fun _ _ => rfl) _ s
@[simp] theorem transmit_sigs (s : State) : s.transmit.sigs = s.sigs :=
  foldl_startTx_keeps State.sigs (fun _ _ => rfl) _ s
@[simp] theorem transmit_sources (s : State) : s.transmit.sources = s.sources :=
  foldl_startTx_keeps State.sources (fun _ _ => rfl) _ s
@[simp] theorem transmit_meas (s : State) : s.transmit.meas = s.meas :=
  foldl_startTx_keeps State.meas (fun _ _ => rfl) _ s
@[simp] theorem transmit_wind (s : State) : s.transmit.wind = s.wind :=
  foldl_startTx_keeps State.wind (fun _ _ => rfl) _ s
@[simp] theorem transmit_book (s : State) : s.transmit.book = s.book :=
  foldl_startTx_keeps State.book (fun _ _ => rfl) _ s
@[simp] theorem transmit_clock (s : State) : s.transmit.clock = s.clock :=
  foldl_startTx_keeps State.clock (fun _ _ => rfl) _ s
@[simp] theorem transmit_holder (s : State) : s.transmit.holder = s.holder :=
  foldl_startTx_keeps State.holder (fun _ _ => rfl) _ s
@[simp] theorem transmit_takeKey (s : State) : s.transmit.takeKey = s.takeKey :=
  foldl_startTx_keeps State.takeKey (fun _ _ => rfl) _ s
@[simp] theorem transmit_store (s : State) : s.transmit.store = s.store :=
  foldl_startTx_keeps State.store (fun _ _ => rfl) _ s

@[simp] theorem transmit_crane (s : State) (c : Crane) : s.transmit.crane c = s.crane c :=
  foldl_startTx_keeps (fun t : State => t.crane c) (fun _ _ => rfl) _ s
@[simp] theorem transmit_env (s : State) (c : Crane) : s.transmit.env c = s.env c :=
  foldl_startTx_keeps (fun t : State => t.env c) (fun _ _ => rfl) _ s
@[simp] theorem transmit_cell (s : State) (x : CellNo) : s.transmit.cell x = s.cell x :=
  foldl_startTx_keeps (fun t : State => t.cell x) (fun _ _ => rfl) _ s
@[simp] theorem transmit_out (s : State) (c : Crane) : s.transmit.out c = s.out c :=
  foldl_startTx_keeps (fun t : State => t.out c) (fun _ _ => rfl) _ s
@[simp] theorem transmit_sig (s : State) (l : SigLine) : s.transmit.sig l = s.sig l :=
  foldl_startTx_keeps (fun t : State => t.sig l) (fun _ _ => rfl) _ s

@[simp] theorem startTx_rx (q : PortRec) : (startTx q).rx = q.rx := by
  unfold startTx; split <;> (try split) <;> (try split) <;> rfl
@[simp] theorem startTx_buffer (q : PortRec) : (startTx q).buffer = q.buffer := by
  unfold startTx; split <;> (try split) <;> (try split) <;> rfl
@[simp] theorem startTx_slot (q : PortRec) : (startTx q).slot = q.slot := by
  unfold startTx; split <;> (try split) <;> (try split) <;> rfl
@[simp] theorem startTx_notices (q : PortRec) : (startTx q).notices = q.notices := by
  unfold startTx; split <;> (try split) <;> (try split) <;> rfl
@[simp] theorem startTx_overflow (q : PortRec) : (startTx q).overflow = q.overflow := by
  unfold startTx; split <;> (try split) <;> (try split) <;> rfl
@[simp] theorem startTx_mask (q : PortRec) : (startTx q).mask = q.mask := by
  unfold startTx; split <;> (try split) <;> (try split) <;> rfl

end Laws

end Sys2Proof.Machine
end

