-- ==== Sys2Proof/Laws/Told.lean ====
section
/-! SUPPORT. Where a notice has gone (R162): what is once `told` stays told whatever operation follows, and each way of
sending a notice tells it to the links it is for. -/

namespace Sys2Proof.Machine.Laws

variable {s t : State} {p : Port} {n : Notice}

/-- What is told stays told. -/
theorem told_grows (h : Grows s t) (k : told s p n) : told t p n := by
  obtain ⟨hl, ho, -⟩ := h p
  rcases k with k | ⟨k, f⟩
  · exact .inl (hl.subset k)
  · exact .inr ⟨k.trans hl.length_le, ho f⟩

/-- A mask that enables a class still does. -/
theorem mask_grows (h : Grows s t) (q : Port) : (t.port q).mask = (s.port q).mask := (h q).2.2

theorem startTx_grows (q : PortRec) : q.GrowsTo (startTx q) := by
  unfold startTx
  repeat' split
  all_goals exact ⟨List.prefix_refl _, id, rfl⟩

theorem transmit_grows (s : State) : Grows s s.transmit := fun q => by
  rw [transmit_port]
  exact startTx_grows _

/-- A notice sent to a port is told there. -/
theorem told_notify (s : State) (p : Port) (n : Notice) : told (s.notify p n) p n := by
  unfold told State.notify
  rw [port_modPort, if_pos rfl]
  unfold queueNotice
  split
  · exact .inl (List.mem_append_right _ (List.mem_singleton_self n))
  · exact .inr ⟨Nat.le_of_not_lt ‹_›, rfl⟩

theorem told_notifySup (s : State) (k : NoticeClass) (n : Notice) (x : Sup)
    (h : enables (s.port (.s x)).mask k = true) : told (s.notifySup k n x) (.s x) n := by
  rw [State.notifySup, if_pos h]
  exact told_notify _ _ _

/-- A notice of a class is told to the supervisor links whose mask enables it. -/
theorem told_notifyClass (s : State) (k : NoticeClass) (n : Notice) (x : Sup)
    (h : enables (s.port (.s x)).mask k = true) : told (s.notifyClass k n) (.s x) n := by
  have g := notifySup_grows (Grows.refl s) k n .s1
  cases x with
  | s1 => exact told_grows (notifySup_grows (Grows.refl _) k n .s2) (told_notifySup _ _ _ _ h)
  | s2 => exact told_notifySup _ _ _ _ (by rw [mask_grows g]; exact h)

/-- A notice to a crane and a class is told to both. -/
theorem told_notifyBoth (s : State) (c : Crane) (k : NoticeClass) (n : Notice) :
    told (s.notifyBoth c k n) (.c c) n
      ∧ ∀ x, enables (s.port (.s x)).mask k = true → told (s.notifyBoth c k n) (.s x) n :=
  ⟨told_grows (notifyClass_grows (Grows.refl _) k n) (told_notify _ _ _),
    fun x h => told_notifyClass _ _ _ _ (by rw [mask_grows (notify_grows (Grows.refl s) (.c c) n)]; exact h)⟩

theorem told_notifyBookingSup (s : State) (o : Port) (n : Notice) (x : Sup)
    (h : (s.port (.s x)).mask.booking = true ∨ o = .s x) : told (s.notifyBookingSup o n x) (.s x) n := by
  rw [State.notifyBookingSup, if_pos]
  · exact told_notify _ _ _
  · rcases h with h | h
    · rw [show enables (s.port (.s x)).mask .booking = true from h, Bool.true_or]
    · rw [h, beq_self_eq_true, Bool.or_true]

/-- Where a notice BOOKING goes it is told (R130). -/
theorem told_notifyBooking (s : State) (b : Booking) (n : Notice) :
    told (s.notifyBooking b n) (.c b.crane) n
      ∧ ∀ x, (s.port (.s x)).mask.booking = true ∨ b.origin = .s x → told (s.notifyBooking b n) (.s x) n := by
  have g := notify_grows (Grows.refl s) (.c b.crane) n
  have g1 := notifyBookingSup_grows g b.origin n .s1
  refine ⟨told_grows (notifyBookingSup_grows (notifyBookingSup_grows (Grows.refl _) _ _ _) _ _ _) (told_notify _ _ _),
    fun x h => ?_⟩
  cases x with
  | s1 =>
    exact told_grows (notifyBookingSup_grows (Grows.refl _) _ _ _)
      (told_notifyBookingSup _ _ _ _ (by rw [mask_grows g]; exact h))
  | s2 => exact told_notifyBookingSup _ _ _ _ (by rw [mask_grows g1]; exact h)

theorem told_foldl_notify (l : List Crane) (c : Crane) (h : c ∈ l) (s : State) (n : Notice) :
    told (l.foldl (fun t c => t.notify (.c c) n) s) (.c c) n := by
  induction l generalizing s with
  | nil => exact nomatch h
  | cons d l ih =>
    rcases List.mem_cons.mp h with rfl | h
    · rw [List.foldl_cons]
      exact told_grows (foldl_grows _ (fun _ _ k => notify_grows k _ _) _ (Grows.refl _)) (told_notify _ _ _)
    · exact ih h _

/-- An announced wind state is told with the cause and the flags it has (R125). -/
theorem windTold_announceWind (s : State) (former : WindState) :
    windTold s (announceWind s former) former s.wind.state s.wind.cause s.wind.manual s.wind.ready := by
  refine ⟨fun c h => told_grows (notifyClass_grows (Grows.refl _) _ _)
      (told_foldl_notify _ c (List.mem_filter.mpr ⟨List.mem_finRange c, h⟩) s _),
    fun y h => told_notifyClass _ _ _ _ ?_⟩
  rw [mask_grows (foldl_grows _ (fun _ _ k => notify_grows k _ _) _ (Grows.refl s))]
  exact h

end Sys2Proof.Machine.Laws
end

