-- ==== Sys2Proof/Tests/Slice0.lean ====
section
/-! SUPPORT. Tests of one step each: what WellFormed refuses, the spec's worked cases, and for every statement with
hypotheses a state and operands that meet them together. -/

namespace Sys2Proof.Tests

open Sys2Proof Sys2Proof.Machine

set_option Elab.async false

/-! ### WellFormed refuses -/

theorem test_wf_cell_needs_one_byte : (Instr.forceRelease (.s .s1) 256).wellFormed = false := by decide
theorem test_wf_number_needs_two_bytes : (Instr.cancel (.c 0) 65536).wellFormed = false := by decide
theorem test_wf_clock_needs_four_bytes : (Instr.setClock (.s .s1) 4294967296).wellFormed = false := by decide
theorem test_wf_crane_byte_absent_on_crane_link : (Instr.park (.c 0) (some 1)).wellFormed = false := by decide
theorem test_wf_crane_byte_present_on_supervisor_link : (Instr.park (.s .s1) none).wellFormed = false := by decide
theorem test_wf_crane_byte_fits : (Instr.park (.s .s1) (some 256)).wellFormed = false := by decide
theorem test_wf_kind_is_carried : (Instr.commit (.c 0)).wellFormed = false := by decide
theorem test_wf_report_is_not_for_supervisors :
    (Instr.report (.s .s2) ⟨0, 0, 0, 0, 0, 0⟩).wellFormed = false := by decide
theorem test_wf_report_rate_fits : (Instr.report (.c 0) ⟨0, 32768, 0, 0, 0, 0⟩).wellFormed = false := by decide
theorem test_wf_report_trolley_fits : (Instr.report (.c 0) ⟨0, 0, 0, -129, 0, 0⟩).wellFormed = false := by decide
theorem test_wf_member_fits :
    (Instr.stageCell (.s .s1) 1 [⟨true, false, [⟨16, 0, 0, 1, 0, 0, 0⟩]⟩]).wellFormed = false := by decide
theorem test_wf_record_has_fewer_than_16_members :
    (Instr.stageCell (.s .s1) 1 [⟨true, false, List.replicate 16 ⟨1, 0, 0, 1, 0, 0, 0⟩⟩]).wellFormed = false := by decide
theorem test_wf_declaration_fits :
    (Instr.stageCrane (.s .s1) 1 (some ⟨65536, 0, 0, 0, 0, 0, 0, 0, 0, 0⟩)).wellFormed = false := by decide
theorem test_wf_thresholds_fit :
    (Instr.setWind (.s .s1) { defaultThresholds with alertSet := 65536 }).wellFormed = false := by decide
theorem test_wf_booking_cells_fit :
    (Instr.book (.c 0) none ⟨0, 60, 0, 0, 0, [256]⟩).wellFormed = false := by decide
theorem test_wf_body_has_at_most_119_bytes :
    (Instr.stageCell (.s .s1) 1 (List.replicate 14 ⟨true, false, [⟨1, 0, 0, 1, 0, 0, 0⟩]⟩)).wellFormed = false := by
  decide +kernel
theorem test_wf_bad_kind_is_not_carried : (Instr.badKind (.s .s1) 0x0C []).wellFormed = false := by decide
theorem test_wf_bad_kind_body_has_at_most_119_bytes :
    (Instr.badKind (.s .s1) 0x40 (List.replicate 120 0)).wellFormed = false := by decide
theorem test_wf_accepts_park : (Instr.park (.s .s1) (some 3)).wellFormed = true := by decide

/-! ### Frames, from R158 to R160 -/

/-- The published check value of this CRC: the bytes of "123456789" give 29B1H. -/
theorem test_crc_check_value : crc16 [0x31, 0x32, 0x33, 0x34, 0x35, 0x36, 0x37, 0x38, 0x39] = 0x29B1#16 := by decide +kernel

/-- R159, R160: θ = 4050, ω = −48, r = 420, v = −12, h = 310, doubt ANGLE and HOOK, byte by byte. -/
theorem test_report_body :
    decodeFrame (.c 2) 0x01 [0x0F, 0xD2, 0xFF, 0xD0, 0x01, 0xA4, 0xF4, 0x01, 0x36, 0x05]
      = .request (.report ⟨4050, -48, 420, -12, 310, 5⟩) := by decide

/-- R160: ENTER of crane 3 to cell 17 from a supervisor link. -/
theorem test_enter_body : decodeFrame (.s .s1) 0x02 [3, 17] = .request (.enter (some 3) 17) := by decide

/-- R160: BOOK from link C1 for cells 5 and 6. -/
theorem test_book_body :
    decodeFrame (.c 0) 0x04 [0, 1, 0, 0, 0x0E, 0x10, 0x02, 0x58, 1, 0, 2, 5, 6]
      = .request (.book none ⟨65536, 3600, 600, 1, 0, [5, 6]⟩) := by decide

/-- R160: INHIBIT_SET names SLEW_R and HOIST_DN of crane 2. -/
theorem test_inhibit_body :
    decodeFrame (.s .s2) 0x10 [2, 0x12] = .request (.inhibitSet 2 ⟨false, true, false, false, true⟩) := by decide

/-- R160: SETCLOCK, four bytes, high byte first. -/
theorem test_setclock_body :
    decodeFrame (.s .s1) 0x17 [0x01, 0x02, 0x03, 0x04] = .request (.setClock 16909060) := by decide

/-- R160: SETCAL of K = 256 and 240. -/
theorem test_setcal_body :
    decodeFrame (.s .s1) 0x1B [0x01, 0x00, 0, 0x00, 0xF0, 1] = .request (.setCal ⟨256, 0, 240, 1⟩) := by decide

/-! ### The state after reset -/

def nextOf (i : Instr) (s : State) : State :=
  match exec i s with
  | .next t => t
  | .fault _ => s
  | .refused _ => s

/-- R166, R167: power-on and start-up with a store that holds nothing leave the reset state. -/
theorem test_start_up_is_reset : nextOf .startUp (nextOf .powerOnReset State.reset) = State.reset := by decide +kernel

/-- The command at the front of the queue is taken. -/
theorem test_step_takes_the_front :
    (match step { State.reset with pending := [.takeKeyTaken true, .sample] } with
      | .next t => (t.pending, t.takeKey)
      | _ => ([], .unsettled)) = ([.sample], .asserted) := by decide +kernel

/-- R158, R161: the bytes of an ENTER of cell 5 on link C1; with no map its response is REFUSED NO_MAP (R21). -/
theorem test_received_bytes_are_answered :
    ((nextOf (.frameReceived (.c 0) [0xA5, 0x02, 0x02, 0x05, 0x94, 0x3B]) State.reset).port (.c 0)).slot
      = some ⟨0x82, .refused, some .noMap, .nothing⟩ := by decide +kernel

/-- R158: with one bit of its CRC wrong, the frame is discarded silently. -/
theorem test_bad_crc_is_silent :
    ((nextOf (.frameReceived (.c 0) [0xA5, 0x02, 0x02, 0x05, 0x94, 0x3A]) State.reset).port (.c 0))
      = State.reset.port (.c 0) := by decide +kernel

/-! ### Worked cases of chapter 3 -/

def declThree : Decl := ⟨600, 1000, 100, 600, 12, 6, 16, 10, 32, 1⟩
def reportThree : Machine.Report := ⟨4050, 48, 420, 12, 310, false, false, false⟩
def cellSeventeen : Member := ⟨3, .line 440 520 350, 60, 241⟩

/-- Worked case A. -/
theorem test_case_a_envelope :
    envelopeOf declThree reportThree 140 = ⟨140, 124, 33, 157, 4017, 191, 410, 449⟩
      ∧ touchTest (envelopeOf declThree reportThree 140) reportThree cellSeventeen = true := by decide

/-- Worked case A: the hook at 360, and the trolley at rest, do not touch cell 17. -/
theorem test_case_a_not_touched :
    touchTest (envelopeOf declThree { reportThree with h := 360 } 140) { reportThree with h := 360 } cellSeventeen = false
      ∧ touchTest (envelopeOf declThree { reportThree with v := 0 } 140) { reportThree with v := 0 } cellSeventeen
        = false := by decide

/-- Worked case B: the envelope saturates. -/
theorem test_case_b_saturates :
    slewLead { declThree with reaction := 800, slewDec := 10 } (-200) = 2160 ∧ saturated 2160 33 = true
      ∧ forwardOf 2160 33 = 1024
      ∧ angular ⟨500, -200, 0, 0, 0, false, false, false⟩ 33 1024 = (3572, 1058) := by decide

/-- Worked case C: at rest, and at the widest margin. -/
theorem test_case_c_at_rest :
    angular ⟨10, 0, 0, 0, 0, false, false, false⟩ 33 33 = (4073, 67) ∧ marginOf declThree 999 = 140
      ∧ angular ⟨10, 0, 0, 0, 0, false, false, false⟩ 140 140 = (3966, 281)
      ∧ marginOf { declThree with slewMargin := 63, windFactor := 255 } 999 = 512
      ∧ arcsMeet 4073 67 4000 80 = true := by decide

/-- Worked case D: the trolley running in at full rate. -/
theorem test_case_d_radial :
    radial ⟨700, 1000, 100, 2000, 12, 1, 16, 10, 32, 1⟩ ⟨0, 0, 300, -40, 0, false, false, false⟩ = (0, 310) := by decide

/-- Worked case E: the closing motions for cell 17. -/
theorem test_case_e_closing :
    closingMotions (some reportThree) cellSeventeen = ⟨false, true, true, false, true⟩
      ∧ closingMotions (some { reportThree with theta := 180, r := 470 }) cellSeventeen
        = ⟨true, true, false, false, true⟩
      ∧ closingMotions (some { reportThree with theta := 250, r := 530 }) cellSeventeen
        = ⟨true, false, false, true, true⟩
      ∧ closingMotions (some { reportThree with theta := 2228 }) cellSeventeen = ⟨true, true, true, false, true⟩
      ∧ closingMotions (some { reportThree with doubtRadius := true }) cellSeventeen
        = ⟨false, true, false, false, true⟩
      ∧ closingMotions (some { reportThree with doubtAngle := true }) cellSeventeen
        = ⟨true, true, true, false, true⟩ := by decide

/-! ### Worked cases of chapters 6 and 8 -/

/-- From pulses to speed. -/
theorem test_speeds : speedOf 35 256 = 140 ∧ speedOf 45 256 = 180 ∧ speedOf 37 240 = 138 ∧ speedOf 1023 40 = 639
    ∧ speedOf 1023 64 = 999 := by decide

/-- A gust meets the hold level: rings 9 and 12 of the worked case, and the block of sum 7680. -/
theorem test_gusts :
    average (List.replicate 3 120 ++ List.replicate 6 140 ++ List.replicate 3 180) = 145
      ∧ average (List.replicate 6 140 ++ List.replicate 6 180) = 160 ∧ 7680 / 60 = 128 := by decide

/-- R135: a window that ends as another begins does not intersect it. -/
theorem test_windows : windowsMeet 100 60 160 60 = false ∧ windowsMeet 100 61 160 60 = true := by decide

/-- R58: 17 whole seconds after its arrival, an entry of a limit of 30 s has 13 s left, and still has at 17.99 s. -/
theorem test_wait_seconds_left : waitSecondsLeft (30000 - 17000) = 13 ∧ waitSecondsLeft (30000 - 17990) = 13 := by decide

/-- R155: the response of END carries the booking number and one byte. -/
theorem test_end_response_fields :
    (resultFields (.ended 7 (.outcome .complete))).length = 2 ∧ (resultFields (.ended 7 (.state .inspect))).length = 2 := by
  decide

/-- R74: WITHDRAWN names its reason before the entry kind; reason LINK is 0, kind AUTO 2. -/
theorem test_withdrawn_fields : noticeFields (.withdrawn 0 16 .auto .link) = [.u8 17, .u8 0, .u8 2] := by decide

/-- R22, R58, R80: a cell that is not present shows the mark and a reset record, eight bytes of zero. -/
theorem test_absent_cell_items :
    cellItems State.reset 3 = [.u8 0, .u8 0, .u8 0, .u8 0, .u8 0, .u8 0, .u8 0, .u8 0] := by decide +kernel

/-- R112, R160: a VALID channel shows its high and stuck runs, a faulted one its clear run, a DISABLED one none. -/
theorem test_run_items :
    runItems { ChanRec.reset ⟨64, false⟩ with highRun := 3, stuckRun := 119 } = [.u8 1, .u8 3, .u8 1, .u8 119, .u8 0]
      ∧ runItems { ChanRec.reset ⟨64, false⟩ with status := .faultHigh, clearRun := 11 } = [.u8 0, .u8 0, .u8 1, .u8 11]
      ∧ runItems (ChanRec.reset ⟨0, false⟩) = [.u8 0, .u8 0, .u8 0] := by decide

/-! ### Witnesses

A small site: cranes 1 and 2 declared, LIVE and IN_SERVICE; cell 1 a GUARDED cell of both as JIB members, cell 2 an OPEN
one, cell 3 one that needs a ruling; wind CALM, the clock set at 100. -/

def siteMap : MapBody :=
  { decls := ((Vector.replicate 8 none).set 0 (some declThree)).set 1 (some declThree)
    cells := (((Vector.replicate 64 none).set 0 (some ⟨true, false, [⟨1, .jib, 0, 500⟩, ⟨2, .jib, 200, 500⟩]⟩)).set 1
      (some ⟨false, false, [⟨1, .jib, 0, 500⟩, ⟨2, .line 200 300 50, 200, 500⟩]⟩)).set 2
      (some ⟨true, true, [⟨1, .jib, 0, 500⟩, ⟨2, .line 200 300 50, 200, 500⟩]⟩) }

def liveCrane : CraneRec :=
  { CraneRec.reset with
    report := some ⟨1000, 0, 100, 0, 50, false, false, false⟩, link := .live, since := some 0, duty := .inService,
    parkSw := .notAsserted, vaneFb := .notAsserted }

def site : State :=
  (((State.reset.setMap { State.reset.map with active := some siteMap }).modCrane 0 fun _ => liveCrane).modCrane 1
    fun _ => liveCrane).setWind ⟨.calm, .gust, false, false, 0, 0, 0, none⟩ |>.setClock ⟨100, true, 1000⟩

/-- Crane 1 holds cell 1 in a way. -/
def held (k : GrantKind) : State := site.modCell 0 fun r => { r with grant := some ⟨0, k⟩ }

def bookingIn (st : BookState) : Booking :=
  ⟨7, 0, 90, 600, 60, .normal, false, [0], .s .s1, st, false, none⟩

/-- Booking 7 of crane 1 on cell 1. -/
def booked (st : BookState) : State := site.setBook ⟨[bookingIn st], 8⟩

/-- Booking 7 under way, with its cell and its crane. -/
def lifting (st : BookState) : State :=
  ((held .booked).setBook ⟨[bookingIn st], 8⟩).modCrane 0 fun r => { r with lift := some 7 }

def inWind (w : WindState) : State := site.setWind { site.wind with state := w }

def slotFull (s : State) (p : Port) (r : Response) (b : List Frame) : State :=
  s.modPort p fun q => { q with slot := some r, tx := .response, buffer := b }

/-- The sources at their values with the wind in ALERT: a LEVEL, a FLASH and a PULSE line of WIND_ALERT, one of them
due to fall when the state is left. -/
def signalling : State :=
  let s := inWind .alert
  (({ s with sources := sourcesOf s }.modSig 0 fun _ => ⟨⟨true, .windAlert, .activeHigh, .level⟩, .active, none⟩).modSig 1
    fun _ => ⟨⟨true, .windAlert, .activeHigh, .flash⟩, .inactive, some 0⟩).modSig 2
    fun _ => ⟨⟨true, .windAlert, .activeLow, .pulse⟩, .active, some 2000⟩

theorem meets_MotionLinesFollowTheirSources :
    (linesCurrent State.reset ∧ ∃ t, step { State.reset with pending := [.parkSwEdge 0 true] } = .next t)
      ∧ signalsCurrent signalling ∧ signalling.phase = .running ∧ signalling.sources.windAlert = true
      ∧ ∃ t, step { signalling with pending := [.flashPhase 1] } = .next t :=
  ⟨⟨by unfold linesCurrent; rw [show State.reset.phase = .running from rfl]; decide +kernel, _, rfl⟩,
    by unfold signalsCurrent sigFollows; decide +kernel, by decide +kernel, by decide +kernel, _, rfl⟩

/-- Crane 1 stands parked out of service and is released. -/
def released : State :=
  (site.modCrane 0 fun r => { r with duty := .outOfService, parkSw := .asserted }).modOut 0 fun o =>
    { o with vane := true, composed := true }

theorem meets_VaneReleaseFollowsItsConditions :
    vaneCurrent released ∧ (released.out 0).composed = true
      ∧ ∃ t, step { released with pending := [.parkSwEdge 0 false] } = .next t :=
  ⟨by unfold vaneCurrent; decide +kernel, by decide +kernel, _, rfl⟩

theorem meets_MeasurementStaysBounded :
    measBounded site.meas ∧ ∃ t, step { site with pending := [.sample] } = .next t :=
  ⟨by unfold measBounded chanBounded; decide +kernel, _, rfl⟩

theorem meets_PortsStayBounded :
    portsBounded site ∧ ∃ t, step { site with pending := [.startByte (.c 0)] } = .next t := by
  refine ⟨?_, _, rfl⟩
  have h : ∀ i : Fin 10, (site.ports[i]).rx = none ∧ (site.ports[i]).buffer.length ≤ 2
      ∧ (site.ports[i]).notices.length ≤ 16 ∧ ((site.ports[i]).tx = .response → (site.ports[i]).slot.isSome)
      ∧ ((site.ports[i]).tx = .notice → (site.ports[i]).notices ≠ []) := by decide +kernel
  intro p
  obtain ⟨h1, h2⟩ := h (portIndex p)
  exact ⟨by show rxBounded (site.ports[portIndex p]).rx; rw [h1]; trivial, h2⟩

/-- Booking 7 is DUE: crane 2 holds its cell, and its claim is the head of the list. -/
def claiming : State :=
  ((booked .due).modCell 0 fun r => { r with grant := some ⟨1, .entry⟩, list := [.claim 7 0 90, .entry 0 10] }).modCrane 0
    fun r => { r with due := some 7 }

/-- Booking 7 is DUE, and its crane holds the cell: the claim is covered, and crane 2 waits. -/
def covering (k : GrantKind) : State :=
  ((booked .due).modCell 0 fun r => { r with grant := some ⟨0, k⟩, covered := some 7, list := [.entry 1 10] }).modCrane 0
    fun r => { r with due := some 7 }

theorem meets_BookStaysBounded :
    (∀ s ∈ [claiming, covering .entry, lifting .inspect], bookSound s)
      ∧ (∃ t, step { claiming with pending := [.clockSecond] } = .next t)
      ∧ ∃ t, step { lifting .inspect with pending := [.finish (.s .s1) 7] } = .next t := by
  have h1 : ∀ s ∈ [claiming, covering .entry, lifting .inspect], bookBounded s.book ∧ bookTimely s := by
    unfold bookBounded bookTimely; decide +kernel
  have h2 : ∀ s ∈ [claiming, covering .entry, lifting .inspect], liftsUnderWay s ∧ claimsDue s := by
    unfold liftsUnderWay claimsDue cellClaimsDue dueNaming; decide +kernel
  exact ⟨fun s h => ⟨(h1 s h).1, (h2 s h).1, (h2 s h).2, (h1 s h).2⟩, ⟨_, rfl⟩, _, rfl⟩

/-- The site in STOP, with crane 1 in cell 1 and its link silent. -/
def stopped : State := (held .entry).setWind { site.wind with state := .stop }

theorem meets_NoCellIsGainedUnderStopOrVane :
    stopped.windBars = true ∧ (nextOf (.silenceLimitExpiry 1) stopped).windBars = true
      ∧ ((nextOf (.silenceLimitExpiry 1) stopped).cell 0).grant = some ⟨0, .entry⟩ := by decide +kernel

/-- Crane 1 touches cell 1 and does not hold it. -/
def touching : State :=
  allCranes.foldl composeQuiet (site.modEnv 0 fun e => { e with touch := [(0, ⟨true, false, false, false, false⟩)] })

theorem meets_UnsafeCranesAreInhibited :
    linesCurrent touching ∧ touching.phase = .running ∧ (touching.crane 2).link ≠ .live
      ∧ (0, (⟨true, false, false, false, false⟩ : Lines)) ∈ (touching.env 0).touch ∧ touching.holds 0 0 = false :=
  ⟨by unfold linesCurrent; rw [show touching.phase = .running by decide +kernel]; decide +kernel, by decide +kernel⟩

theorem meets_RequestBodyDecodesToItsRequest :
    (Request.enter (some 255) 64).wellFormed (.s .s1) = true ∧ (Request.cancel 65535).wellFormed (.c 7) = true
      ∧ (Request.report ⟨65535, -32768, 65535, 127, 65535, 255⟩).wellFormed (.c 0) = true
      ∧ (Request.book none ⟨4294967295, 65535, 0, 1, 1, [64, 63, 62, 61]⟩).wellFormed (.c 0) = true := by decide

theorem meets_ReceivedFrameRunsItsRequest :
    (Request.enter none 5).wellFormed (.c 0) = true ∧ (site.port (.c 0)).rx = none := by decide +kernel

theorem meets_ReceiverEntersAndLeavesAFrame :
    site.phase = .running ∧ (site.port (.c 0)).rx = none ∧ ([5] : List Byte).length ≤ 119
      ∧ ([0x94, 0x3A] : List Byte) ≠ be16 (crc16 (lowByte 2 :: 0x02 :: [5])).toNat := by decide +kernel

theorem meets_AttendedRequestIsAnsweredOnce : attends site (.c 0) ∧ attends site (.s .s2) := by
  unfold attends; decide +kernel

theorem meets_KindsNotCarriedAreAnsweredBadKind :
    badKindFits (.c 0) 0x00 [] = true ∧ badKindFits (.c 0) 0x3F [] = true
      ∧ badKindFits (.s .s1) 0x40 (List.replicate 119 0) = true
      ∧ (Port.c 0).carries Request.commit.kind = false := by decide +kernel

theorem meets_NonHolderIsRefusedAuthority :
    attends site (.s .s2) ∧ Sup.s2 ≠ site.holder ∧ authorityOnly Request.siteStop.kind = true
      ∧ (Request.enter (some 1) 1).fieldsFit (.s .s2) = true := by unfold attends; decide +kernel

/-- The OK of a RESTART, and another response. -/
def restartOk : Response := ⟨respKind .restart, .ok, none, .nothing⟩
def otherOk : Response := ⟨respKind .take, .ok, none, .unchanged⟩

theorem meets_FramesWaitAndSentFramesLeaveThePort :
    (let s := slotFull site (.s .s1) otherOk [];
      s.phase = .running ∧ (s.port (.s .s1)).slot.isSome ∧ (s.port (.s .s1)).tx = .response
        ∧ restartAnswered (s.port (.s .s1)) = false ∧ s.restartReady = false ∧ (s.port (.s .s1)).buffer = [])
    ∧ (let s := slotFull site (.s .s1) otherOk [.request .take];
      s.restartReady = false ∧ (s.port (.s .s1)).buffer = [.request .take] ∧ Request.take.kind ≠ .report)
    ∧ restartAnswered ((slotFull site (.s .s1) restartOk []).port (.s .s1)) = true
    ∧ (site.port (.s .s1)).tx = .notice := by decide +kernel

theorem meets_MasksAuthorityKeyAndEdgeSelections :
    attends site (.s .s1) ∧ attends site (.s .s2) ∧ Sup.s1 = site.holder ∧ Sup.s2 ≠ site.holder
      ∧ (nextOf (.takeKeyTaken true) site).takeKey = .asserted ∧ attends (nextOf (.takeKeyTaken true) site) (.s .s2)
      ∧ site.takeKey ≠ .asserted ∧ edgeSelOf 3 = some .both := by unfold attends; decide +kernel

theorem meets_StatusOnlyReads :
    attends site (.c 0) ∧ (statusItems site (.c 0) 1 1).isOk = true ∧ (∀ b, (booked .booked).booking 8 = some b → False)
      ∧ (booked .booked).booking 7 = some (bookingIn .booked) ∧ (bookingIn .booked).crane ≠ 1 := by
  refine ⟨by unfold attends; decide +kernel, by decide +kernel, fun b h => ?_, by decide +kernel, by decide⟩
  have e : (booked .booked).booking 8 = none := by decide +kernel
  rw [e] at h
  exact nomatch h

/-- What every statement about a supervisor's staging and COMMIT assumes. -/
theorem meets_staging : attends site (.s .s1) ∧ Sup.s1 = site.holder ∧ site.map.commit = .idle := by
  unfold attends; decide +kernel

theorem meets_StageClearAndCopyReplaceTheStagedMap :
    site.map.active = some siteMap ∧ State.reset.map.active = none ∧ attends State.reset (.s .s1) := by
  unfold attends; decide +kernel

/-- A pending commit that has run out. -/
def pendingCommit : State := site.setMap { site.map with commit := .pending 0 }

/-- The last cell of the map takes the last record of four; a number, a count or a role just past its range. -/
theorem meets_StagingPutsAndRemovesRecords :
    cellNo 60 + [RawRecord.mk true false [], ⟨false, false, []⟩, ⟨false, true, []⟩, ⟨true, true, []⟩].length = 65
      ∧ (recordsStored [⟨true, false, []⟩, ⟨false, false, []⟩, ⟨false, true, []⟩, ⟨true, true, []⟩]).isSome = true
      ∧ attends pendingCommit (.s .s1) ∧ Sup.s1 = pendingCommit.holder ∧ pendingCommit.map.commit = .pending 0
      ∧ (8 : Nat) < 9 ∧ 65 < 62 + 4 ∧ recordsStored [⟨true, false, [⟨1, 2, 0, 1, 0, 0, 0⟩]⟩] = none := by
  unfold attends; decide +kernel

theorem meets_StageSiteIsRangeCheckedWhenStaged :
    (paramsOf ⟨3000, 60, 255, 600, 1800, 1800, 2, 1⟩).isSome = true
      ∧ paramsOf ⟨3010, 60, 255, 600, 1800, 1800, 2, 1⟩ = none := by decide

/-- A staged map that differs from the active one in cell 1. -/
def restaged : State := site.setMap { site.map with staged := { siteMap with cells := siteMap.cells.set 0 none } }

/-- A map of one cell, 5, of eight cranes that are declared alike. -/
def oneCell (d : Decl) (k : CellDecl) : MapBody := ⟨Vector.replicate 8 (some d), (Vector.replicate 64 none).set 4 (some k)⟩

/-- A declaration of a crane whose vane may not be released. -/
def unvaned : Decl := { declThree with vanePermit := 0 }

/-- A cell of the members 1, 2, ... with these roles and this span. -/
def cellOf_ (start len : Nat) (roles : List Role) : CellDecl :=
  ⟨true, false, roles.zipIdx.map fun p => ⟨p.2 + 1, p.1, start, len⟩⟩

/-- A map whose first `n` cells are GUARDED cells of the cranes 1 and 2. -/
def manyCells (n : Nat) : MapBody :=
  ⟨Vector.replicate 8 (some unvaned),
    Vector.ofFn fun x => if x.val < n then some (cellOf_ 0 500 [.jib, .jib]) else none⟩

/-- R2, R11: declarations one past each bound of its range. -/
def declsOutside : List Decl :=
  [{ unvaned with jib := 99, park := 0 }, { unvaned with jib := 901 }, { unvaned with hookMax := 99 },
    { unvaned with hookMax := 3001 }, { unvaned with park := 601 }, { unvaned with reaction := 2001 },
    { unvaned with slewDec := 0 }, { unvaned with slewDec := 256 }, { unvaned with trolDec := 0 },
    { unvaned with trolDec := 64 }, { unvaned with slewMargin := 64 }, { unvaned with radMargin := 64 },
    { unvaned with windFactor := 256 }, { unvaned with vanePermit := 2 }]

/-- R11: cells one past a bound of checks 2 to 4, with the check that fails. -/
def cellsOutside : List (CellDecl × MapFailure) :=
  [(cellOf_ 0 500 [.jib], .members), (cellOf_ 0 500 [.jib, .jib, .jib, .jib], .members),
    (⟨true, false, [⟨1, .jib, 0, 500⟩, ⟨9, .jib, 0, 500⟩]⟩, .members),
    (⟨true, false, [⟨1, .jib, 0, 500⟩, ⟨1, .jib, 0, 500⟩]⟩, .members), (cellOf_ 4096 500 [.jib, .jib], .span),
    (cellOf_ 0 0 [.jib, .jib], .span), (cellOf_ 0 2049 [.jib, .jib], .span),
    (cellOf_ 0 500 [.jib, .line 201 200 50], .band), (cellOf_ 0 500 [.jib, .line 200 601 50], .band),
    (cellOf_ 0 500 [.jib, .line 200 300 1001], .band)]

/-- R11: what passes at each bound: declarations, cells, 24 cells of a crane. -/
def mapsInside : List MapBody :=
  [manyCells 24, oneCell unvaned (cellOf_ 4095 2048 [.jib, .jib]), oneCell unvaned (cellOf_ 0 1 [.jib, .jib, .jib]),
    oneCell unvaned (cellOf_ 0 500 [.jib, .line 600 600 1000]),
    { oneCell unvaned (cellOf_ 0 500 [.jib, .jib]) with
      decls := ((Vector.replicate 8 (some unvaned)).set 6 (some ⟨100, 100, 0, 0, 1, 1, 0, 0, 0, 0⟩)).set 7
        (some ⟨900, 3000, 900, 2000, 255, 63, 63, 63, 255, 1⟩) }]

/-- R11: each check fails at the lowest number at which it does, and names it where every earlier check passes. -/
theorem meets_failsFirst :
    (∀ d ∈ declsOutside, failsFirst { manyCells 25 with decls := (manyCells 25).decls.set 6 (some d) } .range 7)
      ∧ (∀ p ∈ cellsOutside, failsFirst (oneCell unvaned p.1) p.2 5)
      ∧ failsFirst { siteMap with decls := siteMap.decls.set 1 none } .members 1 ∧ failsFirst (manyCells 25) .limit 1
      ∧ failsFirst { manyCells 25 with cells := (manyCells 25).cells.set 60 (some (cellOf_ 0 0 [.jib])) } .members 61
      ∧ failsFirst siteMap .vane 1 := by
  refine ⟨fun d h => (Laws.validate_spec _).1 _ _ |>.mp ?_, fun p h => (Laws.validate_spec _).1 _ _ |>.mp ?_,
    (Laws.validate_spec _).1 _ _ |>.mp (by decide +kernel), (Laws.validate_spec _).1 _ _ |>.mp (by decide +kernel),
    (Laws.validate_spec _).1 _ _ |>.mp (by decide +kernel), (Laws.validate_spec _).1 _ _ |>.mp (by decide +kernel)⟩
  · revert d; decide +kernel
  · revert p; decide +kernel

theorem meets_mapValid : (∀ m ∈ mapsInside, mapValid m) ∧ mapValid restaged.map.staged := by
  refine ⟨fun m h => (Laws.validate_spec _).2.mp ?_, (Laws.validate_spec _).2.mp (by decide +kernel)⟩
  revert m; decide +kernel

theorem meets_CommitIsRefusedOrBecomesPending :
    drained (restaged.modCell 0 fun r => { r with grant := some ⟨0, .auto⟩ }) (differing restaged.map) = false
      ∧ attends pendingCommit (.s .s1) ∧ pendingCommit.map.commit = .pending 0 := by
  unfold attends; decide +kernel

/-- The staged map removes cell 1: a booking of it is cancelled, one of cell 2 stays. A STALE crane, an OUT_OF_SERVICE
one and one that has sent no REPORT have their touch sets formed. -/
theorem meets_CommitActivatesTheStagedMap :
    attends restaged (.s .s1) ∧ drained restaged (differing restaged.map) = true
      ∧ (cellIn restaged.map.active 0).isSome ∧ (restaged.map.staged.cells[(0 : CellNo)]).isNone
      ∧ (restaged.setBook ⟨[bookingIn .booked], 8⟩).booking 7 = some (bookingIn .booked)
      ∧ (0 : CellNo) ∈ (bookingIn .booked).cells ∧ 0 ∈ differing restaged.map
      ∧ memberIn (some restaged.map.staged) 0 0 = none
      ∧ memberIn (some restaged.map.staged) 1 0 ≠ none
      ∧ (restaged.modCrane 0 fun r => { r with link := .stale }).declared 0 = true
      ∧ ((restaged.modCrane 0 fun r => { r with duty := .outOfService }).crane 0).duty = .outOfService
      ∧ (CraneRec.reset).link = .none := by
  unfold attends; decide +kernel

/-- A staged map in which cell 1 is removed and cell 2 becomes GUARDED; crane 1 waits there with AUTO, and cell 3 is
held, with an ENTRY request and the claim of booking 7 in its list. -/
def guarding : State :=
  ((site.setMap { site.map with staged :=
      { siteMap with cells := (siteMap.cells.set 0 none).set 1 ((siteMap.cells[1]).map fun d => { d with guarded := true }) } }).modCell 1
    fun r => { r with list := [.auto 0] }).modCell 2 fun r =>
      { r with grant := some ⟨0, .entry⟩, list := [.claim 7 1 90, .entry 1 1000] }

theorem meets_CommitActivatesTheStagedMap_cells :
    attends guarding (.s .s1) ∧ guarding.map.commit = .idle
      ∧ drained guarding (differing guarding.map) = true ∧ 1 ∈ differing guarding.map
      ∧ (cellIn guarding.map.active 1).isSome ∧ (guarding.map.staged.cells[(1 : CellNo)]).any (·.guarded) = true
      ∧ Entry.auto 0 ∈ (guarding.cell 1).list ∧ (guarding.cell 2).grant = some ⟨0, .entry⟩
      ∧ (∀ d ∈ guarding.book.live, d.number ≠ 7)
      ∧ (guarding.cell 2).list.filter (survivesActivation guarding (nextOf (.commit (.s .s1)) guarding) 2)
          = [.entry 1 1000] := by
  unfold attends; decide +kernel

theorem meets_mapValid_guarding : mapValid guarding.map.staged := (Laws.validate_spec _).2.mp (by decide +kernel)

/-- R14: the AUTO request has left the cell that is now GUARDED, and the held cell is as it was. -/
theorem test_commit_disposes_of_auto_requests :
    ((nextOf (.commit (.s .s1)) guarding).cell 1).list = []
      ∧ (nextOf (.commit (.s .s1)) guarding).cell 2 = guarding.cell 2 := by decide +kernel

/-- A pending commit that marks cell 1, FREE with two ENTRY requests. -/
def draining : State :=
  (site.setMap { site.map with commit := .pending 0, draining := (Vector.replicate 64 false).set 0 true }).modCell 0 fun r =>
    { r with list := [.entry 1 10, .entry 0 10] }

theorem meets_PendingCommitIsAbandoned :
    attends draining (.s .s1) ∧ draining.map.commit = .pending 0 ∧ draining.isDraining 0 = true
      ∧ ¬dueForCell draining 0 ∧ (draining.cell 0).grant = none
      ∧ (draining.cell 0).list = [.entry 1 10, .entry 0 10] ∧ draining.windBars = false
      ∧ draining.othersTouch 1 0 = false ∧ draining.isDraining 1 = false := by
  unfold attends dueForCell; decide +kernel

/-- Crane 1 at the angle of its cells, and far from them. -/
def arriving : RawReport := ⟨100, 0, 100, 0, 50, 0⟩
def leaving : RawReport := ⟨2000, 0, 100, 0, 50, 0⟩

/-- Crane 1 holds the OPEN cell 2 as AUTO and touches it; in `queueing` crane 2 holds it and crane 1 waits with AUTO.
-/
def inside : State :=
  (site.modCell 1 fun r => { r with grant := some ⟨0, .auto⟩ }).modEnv 0 fun e => { e with touch := [(1, noMotion)] }
def queueing : State := inside.modCell 1 fun r => { r with grant := some ⟨1, .entry⟩, list := [.auto 0] }

/-- R70: the OPEN cell that crane 1's report brings into its touch set is taken as AUTO. -/
theorem test_report_takes_an_open_cell :
    ((nextOf (.report (.c 0) arriving) site).cell 1).grant = some ⟨0, .auto⟩ := by decide +kernel

/-- R72: an AUTO grant goes with its touch. -/
theorem test_report_releases_an_auto_grant :
    ((nextOf (.report (.c 0) leaving) inside).cell 1).grant = none := by decide +kernel

/-- A cell that joins a touch set is on its occasion of auto-take, FREE and clear, or HELD by another; one that leaves
held as AUTO, and one that leaves with an AUTO request in its list. -/
theorem meets_touchServed :
    (let t := nextOf (.report (.c 0) arriving) site;
      triesAutoTake site t 0 False 1 ∧ ¬dueForCell site 1 ∧ (site.cell 1).grant = none ∧ site.barred 1 = false
        ∧ (site.cell 1).list = [] ∧ t.othersTouch 0 1 = false)
    ∧ (let s := site.modCell 1 fun r => { r with grant := some ⟨1, .entry⟩ };
      triesAutoTake s (nextOf (.report (.c 0) arriving) s) 0 False 1 ∧ ¬dueForCell s 1)
    ∧ (let t := nextOf (.report (.c 0) leaving) inside;
      leftTouch inside t 0 1 ∧ hasEntry 0 (inside.cell 1).list = false ∧ cellClaimsDue inside 1 ∧ ¬dueForCell inside 1)
    ∧ (let t := nextOf (.report (.c 0) leaving) queueing;
      leftTouch queueing t 0 1 ∧ (queueing.cell 1).grant = some ⟨1, .entry⟩ ∧ ¬dueForCell queueing 1) := by
  refine ⟨⟨⟨⟨_, rfl, by decide +kernel⟩, ?_⟩, ?_⟩, ⟨⟨⟨_, rfl, by decide +kernel⟩, ?_⟩, ?_⟩, ?_, ?_⟩
  · decide +kernel
  · unfold dueForCell; decide +kernel
  · decide +kernel
  · unfold dueForCell; decide +kernel
  · unfold leftTouch dueForCell cellClaimsDue dueNaming; decide +kernel
  · unfold leftTouch dueForCell; decide +kernel

/-- SERVICE of a LIVE crane that touches the OPEN cell 2 (R70), and PARK of one that holds cell 2 at some distance. -/
theorem meets_touchServed_by_duty :
    (let s := site.modCrane 0 fun r => { r with duty := .parked, report := some ⟨100, 0, 100, 0, 50, false, false, false⟩ };
      let t := nextOf (.service (.s .s1) (some 1)) s;
      triesAutoTake s t 0 True 1 ∧ ¬dueForCell s 1)
    ∧ (let s := (site.modCell 1 fun r => { r with grant := some ⟨0, .entry⟩ }).modCrane 0 fun r =>
        { r with parkSw := .asserted };
      let t := nextOf (.park (.c 0) none) s;
      s.holds 0 1 = true ∧ t.holds 0 1 = false ∧ hasEntry 0 (s.cell 1).list = false ∧ cellClaimsDue s 1)
    ∧ (let s := (held .entry).modCell 0 fun r => { r with grant := some ⟨1, .entry⟩, list := [.entry 0 10] };
      s.holds 0 0 = false ∧ withoutRequest 0 (s.cell 0).list = [] ∧ ¬dueForCell s 0) := by
  refine ⟨⟨⟨⟨_, rfl, by decide +kernel⟩, ?_⟩, ?_⟩, ?_, ?_⟩
  · decide +kernel
  · unfold dueForCell; decide +kernel
  · unfold cellClaimsDue dueNaming; decide +kernel
  · unfold dueForCell; decide +kernel

theorem meets_ReportIsStoredAndFormsTheTouchSet :
    attends site (.c 0) ∧ site.declared 2 = false ∧ site.decl 0 = some declThree ∧ site.map.commit = .idle := by
  unfold attends; decide +kernel

/-- Crane 1 stands parked, with a request and an ENTRY grant, before it is known to the duty register. -/
theorem meets_DutyRequestsChangeTheDuty :
    (let s := (held .entry).modCrane 0 fun r => { r with duty := .undeclared, parkSw := .asserted };
      attends s (.s .s1) ∧ namesCrane (.s .s1) (some 1) 0 ∧ linkAllows s (.s .s1) ∧ s.declared 0 = true
        ∧ s.map.commit = .idle ∧ (s.crane 0).duty ≠ .inService ∧ s.wind.state ≠ .vane
        ∧ (s.crane 0).vaneFb ≠ .asserted ∧ (s.crane 0).duty ≠ .parked ∧ (s.crane 0).duty ≠ .outOfService
        ∧ (s.crane 0).parkSw = .asserted ∧ s.liftInProgress 0 = false ∧ (s.crane 0).link = .live
        ∧ (s.crane 0).report.isSome ∧ s.holds 0 0 = true)
    ∧ attends site (.c 0) ∧ namesCrane (.c 0) none 0 ∧ linkAllows site (.c 0) := by
  unfold attends namesCrane linkAllows; decide +kernel

theorem meets_DutyRequestsAreRefusedInOrder :
    site.authorized (.s .s2) = false ∧ State.reset.noMapLink (.c 0) = true ∧ site.declared 7 = false
      ∧ (site.crane 0).duty = .inService ∧ (inWind .vane).wind.state = .vane ∧ (site.crane 0).parkSw ≠ .asserted
      ∧ (let s := (lifting .landing).modCrane 0 fun r => { r with parkSw := .asserted, vaneFb := .asserted };
        s.liftInProgress 0 = true ∧ (s.crane 0).vaneFb = .asserted)
      ∧ linkAllows site (.s .s1) ∧ attends site (.s .s1) := by unfold linkAllows attends; decide +kernel

/-- Crane 1 silent for 600 ms, the default silence limit; STALE and silent for 5 s, the default lost limit. -/
theorem meets_SilentLinksFallToStaleAndLost :
    (let s := site.modCrane 0 fun r => { r with since := some 600 };
      s.phase = .running ∧ s.map.commit = .idle ∧ (s.crane 0).link = .live ∧ (s.crane 0).since = some 600
        ∧ s.map.params.silence ≤ 600)
    ∧ (let s := site.modCrane 0 fun r => { r with since := some 5000, link := .stale };
      (s.crane 0).link = .stale ∧ s.map.params.lost * 1000 ≤ 5000)
    ∧ ((held .auto).cell 0).grant = some ⟨0, .auto⟩ ∧ 0 ∉ touchCells ((held .auto).env 0)
    ∧ requestOf 1 [.entry 1 10] = some (.entry 1 10)
    ∧ isAutoEntry (.entry 1 10) = false
    ∧ (let s := (booked .due).modCell 0 fun r => { r with grant := some ⟨1, .entry⟩, list := [.claim 7 0 90, .auto 0] };
      Entry.claim 7 0 90 ∈ (s.cell 0).list ∧ s.booking 7 = some (bookingIn .due) ∧ (bookingIn .due).crane = 0) := by
  decide +kernel

/-- Crane 1, out of service, comes to its park switch: its vane is released, or withheld for the cell that crane 2
holds. -/
def comingToRest : State := site.modCrane 0 fun r => { r with duty := .outOfService }

theorem meets_InputLevelsAreTakenWithTheirNotices :
    (let s := site.modCrane 0 fun r =>
        { r with duty := .parked, parkSw := .asserted, parkSel := .falling, vaneSel := .rising };
      s.phase = .running ∧ (s.crane 0).parkSw ≠ levelOf false
        ∧ (s.crane 0).parkSw ≠ .unsettled ∧ includesEdge (s.crane 0).parkSel false = true
        ∧ standsParked (s.crane 0).duty = true ∧ (s.crane 0).vaneFb ≠ levelOf true
        ∧ (s.crane 0).vaneFb ≠ .unsettled ∧ includesEdge (s.crane 0).vaneSel true = true)
    ∧ (comingToRest.crane 0).parkSw ≠ levelOf true ∧ (comingToRest.out 0).vane = false
    ∧ ((nextOf (.parkSwEdge 0 true) comingToRest).out 0).vane = true
    ∧ (let s := comingToRest.modCell 0 fun r => { r with grant := some ⟨1, .entry⟩ };
      ((nextOf (.parkSwEdge 0 true) s).out 0).vane = false ∧ ((nextOf (.parkSwEdge 0 true) s).out 0).withheld = [(0, 1)])
    ∧ vaneCurrent released ∧ (released.out 0).vane = true ∧ (released.out 0).check = .idle
    ∧ (released.crane 0).vaneFb ≠ levelOf true
    ∧ (let s := released.modCrane 0 fun r => { r with vaneFb := .asserted, vaneFault := true };
      vaneCurrent s ∧ (s.crane 0).vaneFb ≠ levelOf false ∧ (s.out 0).vane ≠ false) := by
  unfold vaneCurrent; decide +kernel

theorem meets_EnvelopesStayWithinTheirBounds :
    declInRange declThree = true ∧ declInRange ⟨900, 3000, 900, 2000, 1, 1, 63, 63, 255, 1⟩ = true
      ∧ (-255 : Int) ≤ -255 ∧ (900 : Nat) ≤ 900 ∧ (999 : Nat) ≤ 999 := by decide

/-- Differences 1, 2047, 2049 and 4095 between centre and jib, with the centre at 0. -/
theorem meets_SlewClosingMotionsFollowTheCentre :
    ((0 : Int) - 4095) % 4096 = 1 ∧ ((0 : Int) - 2049) % 4096 = 2047 ∧ ((0 : Int) - 2048) % 4096 = 2048
      ∧ ((0 : Int) - 2047) % 4096 = 2049 ∧ ((0 : Int) - 1) % 4096 = 4095 := by decide

theorem meets_EnterIsRefusedByItsFirstFailingCheck :
    attends site (.c 0) ∧ whoSuits (.c 0) none = true ∧ linkAllows site (.c 0) ∧ craneNamed (.s .s1) (some 9) = none
      ∧ firstRefusal [((held .auto).holds 0 0, .already), (true, .booked)] = some .already
      ∧ site.authorized (.s .s2) = false ∧ State.reset.noMapLink (.c 0) = true := by
  unfold attends linkAllows; decide +kernel

theorem meets_EnterIsGrantedWhenTheCellIsClear :
    attends site (.s .s1) ∧ namesCrane (.s .s1) (some 1) 0 ∧ mayEnter site (.s .s1) 0 0 ∧ (site.cell 0).grant = none
      ∧ (site.cell 0).list = [] ∧ (site.cell 0).covered = none ∧ site.othersTouch 0 0 = false
      ∧ site.map.commit = .idle := by
  unfold attends namesCrane mayEnter linkAllows; decide +kernel

theorem meets_EnterIsQueuedOtherwise :
    attends (held .entry) (.c 1) ∧ namesCrane (.c 1) none 1 ∧ mayEnter (held .entry) (.c 1) 1 0
      ∧ ((held .entry).cell 0).grant.isSome ∧ ¬dueForCell (held .entry) 0 := by
  unfold attends namesCrane mayEnter linkAllows dueForCell; decide +kernel

/-- Crane 1 holds cell 1 and crane 2 waits for it. -/
def waitedFor (left : Nat) : State := (held .entry).modCell 0 fun r => { r with list := [.entry 1 left] }

/-- Booking 7 of crane 1 is DUE, its claim the head of the list of cell 1, which crane 2 holds; a recall runs, or is
overdue. -/
def recalled (r : Recall) : State := claiming.modCell 0 fun k => { k with list := [.claim 7 0 90], recallState := r }

/-- A lift of crane 1 on cell 1 has passed its window, and the claim of booking 8, DUE, waits there: of crane 2, at the
head, or of crane 1, covered. -/
def overrunLift (c : Crane) : State :=
  (((lifting .landing).setBook
      ⟨[{ bookingIn .landing with start := 20, overrun := true }, { bookingIn .due with number := 8, crane := c }], 9⟩).modCell 0
    fun k => if c = 0 then { k with covered := some 8 } else { k with list := [.claim 8 c 90] }).modCrane c
      fun k => { k with due := some 8 }

/-- Crane 1 still touches cell 1. -/
def within (s : State) : State := s.modEnv 0 fun e => { e with touch := [(0, noMotion)] }

/-- No request, a request, the crane's own covered claim, a lift under way, a recall that runs or is overdue for the
claim at the head, and the claim of the next booking behind an overrunning lift. -/
theorem meets_freedAndServed :
    (∀ s ∈ [held .auto, waitedFor 10, covering .auto, lifting .landing, recalled (.running 5000), recalled .overdue,
        overrunLift 1, overrunLift 0], cellClaimsDue s 0)
      ∧ freedList (covering .auto) 0 = [.entry 1 10, .claim 7 0 90]
      ∧ freedList (recalled .overdue) 0 = [.claim 7 0 90] ∧ freedList (overrunLift 0) 0 = [.claim 8 0 90] := by
  refine ⟨?_, by decide +kernel⟩
  unfold cellClaimsDue dueNaming; decide +kernel

/-- A LEAVE of a recalled cell, a FORCE_RELEASE and an ABORT of an overrunning lift, with the crane in the cell or not. -/
theorem meets_release_of_a_claimed_cell :
    (∀ r ∈ [Recall.running 5000, .overdue], attends (recalled r) (.c 1) ∧ linkAllows (recalled r) (.c 1)
        ∧ ((recalled r).cell 0).grant = some ⟨1, .entry⟩ ∧ (recalled r).map.commit = .idle)
      ∧ ∀ c ∈ [(0 : Crane), 1], attends (overrunLift c) (.s .s1) ∧ (overrunLift c).present 0 = true
        ∧ ((overrunLift c).cell 0).grant = some ⟨0, .booked⟩ ∧ ((overrunLift c).crane 0).lift = some 7
        ∧ ((overrunLift c).booking 7).any (·.state == .landing) = true
        ∧ (overrunLift c).touches 0 0 = false ∧ (within (overrunLift c)).touches 0 0 = true := by
  unfold attends linkAllows; decide +kernel

theorem meets_keptAsEntry : ∀ c ∈ [(0 : Crane), 1], cellClaimsDue (within (overrunLift c)) 0 := by
  unfold cellClaimsDue dueNaming; decide +kernel

/-- R76, R77, R150, R151: the recalled cell goes to the crane of the claim, BOOKED. -/
theorem test_leave_of_a_recalled_cell_admits :
    (nextOf (.leave (.c 1) none 1) (recalled .overdue)).cell 0
      = { grant := some ⟨0, .booked⟩, covered := none, list := [], recallState := .idle } := by decide +kernel

/-- R76, R157: the cell that crane 1 has not left is recalled for the claim of crane 2 as the lift ends. -/
theorem test_abort_in_a_claimed_cell_starts_its_recall :
    let t := nextOf (.abort (.s .s1) 7) (within (overrunLift 1));
    (t.cell 0).grant = some ⟨0, .entry⟩ ∧ (t.cell 0).recallState = .running (site.map.params.recallLimit * 1000)
      ∧ Notice.recalled 0 8 1 ∈ (t.port (.c 0)).notices := by decide +kernel

/-- The claim of booking 7 at the head of a cell that crane 2 holds and that is recalled, before a request; at the head
of a FREE cell, before a request; covered. -/
def claimStates : List State :=
  [(recalled .overdue).modCell 0 fun k => { k with list := [.claim 7 0 90, .entry 0 10] },
    claiming.modCell 0 fun k => { k with grant := none, list := [.claim 7 0 90, .entry 1 10] }, covering .entry]

/-- The three events that withdraw claims (R139, R146, R152): CANCEL; the late limit, 150; a setting back to 89. -/
theorem meets_claimsLeft :
    (∀ s ∈ claimStates, claimsDue s ∧ attends s (.c 0) ∧ attends s (.s .s1) ∧ s.booking 7 = some (bookingIn .due)
        ∧ s.map.commit = .idle ∧ dueWhere s (fun b => decide (b.start + b.late ≤ 150)) 7 = true
        ∧ dueWhere s (fun b => decide (b.start + b.late ≤ 149)) 7 = false
        ∧ dueWhere s (fun b => decide (89 < b.start)) 7 = true ∧ dueWhere s (fun b => decide (90 < b.start)) 7 = false
        ∧ ∀ d ∈ s.book.live, d.state ≠ .booked)
      ∧ withoutClaims (· == 7) [.claim 7 0 90, .entry 0 10, .claim 8 1 91] = [.entry 0 10, .claim 8 1 91] := by
  refine ⟨?_, by decide⟩
  unfold claimsDue cellClaimsDue dueNaming attends; decide +kernel

/-- R77, R139: with its claim a recall ends; the request stays, and of the FREE cell it is granted. -/
theorem test_cancel_ends_the_recall :
    claimStates.map (fun s => (nextOf (.cancel (.c 0) 7) s).cell 0) =
      [{ grant := some ⟨1, .entry⟩, covered := none, list := [.entry 0 10], recallState := .idle },
        { grant := some ⟨1, .entry⟩, covered := none, list := [], recallState := .idle },
        { grant := some ⟨0, .entry⟩, covered := none, list := [.entry 1 10], recallState := .idle }] := by
  decide +kernel

/-- R77, R146: the same of a forward setting to the late limit, and of a setting back before the start. -/
theorem test_setclock_ends_the_recall :
    ∀ v ∈ [150, 89], claimStates.map (fun s => (nextOf (.setClock (.s .s1) v) s).cell 0)
      = claimStates.map fun s => (nextOf (.cancel (.c 0) 7) s).cell 0 := by
  decide +kernel

theorem meets_LeaveFreesTheCellAndServesItsHead :
    attends (waitedFor 10) (.s .s1) ∧ namesCrane (.s .s1) (some 1) 0 ∧ linkAllows (waitedFor 10) (.s .s1)
      ∧ ((waitedFor 10).cell 0).grant = some ⟨0, .entry⟩ ∧ (waitedFor 10).barred 0 = false
      ∧ (waitedFor 10).othersTouch 1 0 = false ∧ site.holds 0 0 = false
      ∧ ((held .booked).cell 0).grant = some ⟨0, .booked⟩ ∧ ((covering .auto).cell 0).grant = some ⟨0, .auto⟩
      ∧ attends (covering .auto) (.c 0) ∧ site.authorized (.s .s2) = false ∧ attends site (.s .s2)
      ∧ State.reset.authorized (.c 0) = true ∧ State.reset.noMapLink (.c 0) = true ∧ attends State.reset (.c 0)
      ∧ linkAllows site (.s .s1) ∧ attends site (.s .s1) ∧ site.declared 7 = false ∧ site.declared 0 = true
      ∧ site.present 63 = false := by
  unfold attends namesCrane linkAllows; decide +kernel

/-- A lift on cells 1 and 2; its crane still touches cell 2, or has left it. -/
def liftOnTwo (inside : Bool) : State :=
  ((((lifting .landing).setBook ⟨[{ bookingIn .landing with cells := [0, 1] }], 8⟩).modCell 1 fun r =>
    { r with grant := some ⟨0, .booked⟩ }).modEnv 0 fun e => { e with touch := if inside then [(1, noMotion)] else [] })

theorem meets_aborted_lift_on_two_cells :
    (∀ inside ∈ [true, false], let s := liftOnTwo inside;
      attends s (.s .s1) ∧ s.present 0 = true ∧ s.map.commit = .idle ∧ (s.cell 0).grant = some ⟨0, .booked⟩
        ∧ (s.crane 0).lift = some 7 ∧ s.booking 7 = some { bookingIn .landing with cells := [0, 1] }
        ∧ (s.cell 1).grant = some ⟨0, .booked⟩ ∧ s.touches 0 1 = inside ∧ ¬dueForCell s 1)
      ∧ cellClaimsDue (liftOnTwo false) 1 := by
  refine ⟨?_, ?_⟩
  · unfold attends dueForCell; decide +kernel
  · unfold cellClaimsDue dueNaming; decide +kernel

theorem meets_ForceReleaseFreesAHeldCell :
    attends (lifting .landing) (.s .s1) ∧ (lifting .landing).present 0 = true
      ∧ ((lifting .landing).cell 0).grant = some ⟨0, .booked⟩ ∧ ((lifting .landing).crane 0).lift = some 7
      ∧ (lifting .landing).booking 7 = some (bookingIn .landing)
      ∧ site.present 63 = false ∧ site.present 0 = true ∧ (site.cell 0).grant = none
      ∧ ((held .auto).cell 0).grant = some ⟨0, .auto⟩ := by
  unfold attends; decide +kernel

/-- Cell 1 with its lists changed; the claim is that of booking 7, DUE. -/
def waiting (grant : Option Grant) (l : List Entry) : State :=
  (booked .due).modCell 0 fun r => { r with grant := grant, list := l }

/-- Crane 2's wait runs out: behind the head; at the head of a HELD cell before a claim of another crane; at the head
of a FREE cell before that claim. -/
theorem meets_requestLeft :
    (let l := ((waiting none [.claim 7 0 90, .entry 1 0]).cell 0).list;
      Entry.entry 1 0 ∈ l ∧ (withoutRequest 1 l).head? = l.head?)
      ∧ (let s := waiting (some ⟨1, .entry⟩) [.entry 2 0, .claim 7 0 90];
        Entry.entry 2 0 ∈ (s.cell 0).list ∧ s.map.commit = .idle ∧ (s.cell 0).recallState = .idle ∧ cellClaimsDue s 0
          ∧ (s.cell 0).covered = none ∧ withoutRequest 2 (s.cell 0).list = [.claim 7 0 90])
      ∧ (let s := waiting none [.entry 1 0, .claim 7 0 90];
        (s.cell 0).grant = none ∧ (s.cell 0).recallState = .idle ∧ cellClaimsDue s 0
          ∧ withoutRequest 1 (s.cell 0).list = [.claim 7 0 90]) := by
  refine ⟨by decide +kernel, ?_, ?_⟩ <;> (unfold cellClaimsDue dueNaming; decide +kernel)

/-- With no DUE booking: at the head of a FREE cell before a request, and alone in the list of a HELD one. -/
theorem meets_requestLeft_without_claims :
    (let s := site.modCell 0 fun r => { r with list := [.entry 1 0, .entry 0 10] };
      ¬dueForCell s 0 ∧ (s.cell 0).grant = none ∧ (s.cell 0).covered = none
        ∧ withoutRequest 1 (s.cell 0).list = [.entry 0 10] ∧ s.barred 0 = false ∧ s.othersTouch 0 0 = false)
      ∧ ¬dueForCell (waitedFor 0) 0 ∧ withoutRequest 1 ((waitedFor 0).cell 0).list = [] := by
  unfold dueForCell; decide +kernel

theorem meets_WaitAndRecallTimersRunOut :
    Entry.entry 1 0 ∈ ((waitedFor 0).cell 0).list ∧ (waitedFor 0).phase = .running
      ∧ ((held .entry).modCell 0 fun r => { r with recallState := .running 0 }).cell 0
        = { (held .entry).cell 0 with recallState := .running 0 } := by decide +kernel

theorem meets_ManualInhibitsAreSetAndCleared :
    attends site (.s .s1) ∧ (⟨true, false, false, false, false⟩ : Lines) ≠ noMotion
      ∧ linesUnion (site.out 0).src.manual ⟨true, false, false, false, false⟩ ≠ (site.out 0).src.manual
      ∧ (site.port (.s .s1)).mask.crane = true ∧ (site.port (.s .s2)).mask.crane = false := by
  unfold attends; decide +kernel

/-! ### Notices -/

/-- The classes that a supervisor's mask enables, and a supervisor whose mask enables none. -/
theorem meets_told :
    (site.port (.s .s1)).mask = ⟨true, true, true, true, true⟩ ∧ (site.port (.s .s2)).mask = noClasses
      ∧ (bookingIn .due).origin = .s .s1 ∧ (∃ c, site.declared c = true) ∧ ∀ p, (site.port p).notices.length ≤ 1 :=
  ⟨by decide +kernel, by decide +kernel, rfl, ⟨0, by decide +kernel⟩, fun p => by
    have h : ∀ i : Fin 10, (site.ports[i]).notices.length ≤ 1 := by decide +kernel
    exact h (portIndex p)⟩

/-- R29, R74, R81: crane 2, waiting with an ENTRY request, falls silent. -/
theorem test_silence_is_told :
    let s := allCranes.foldl composeQuiet ((waitedFor 10).modCrane 1 fun r => { r with since := some 600 });
    let t := nextOf (.silenceLimitExpiry 1) s;
    Notice.link 1 .live .stale ∈ (t.port (.s .s1)).notices
      ∧ Notice.withdrawn 1 0 .entry .link ∈ (t.port (.c 1)).notices
      ∧ Notice.inhibit 1 (t.out 1).lines (t.out 1).src ∈ (t.port (.c 1)).notices
      ∧ (t.out 1).lines ≠ (s.out 1).lines ∧ Notice.link 1 .live .stale ∉ (t.port (.s .s2)).notices := by
  decide +kernel

/-- R81, R85: a manual inhibit of crane 1. -/
theorem test_inhibit_is_told :
    let t := nextOf (.inhibitSet (.s .s1) 1 ⟨true, false, false, false, false⟩) (allCranes.foldl composeQuiet site);
    Notice.inhibit 0 (t.out 0).lines (t.out 0).src ∈ (t.port (.c 0)).notices
      ∧ Notice.manualInhibit 0 ⟨true, false, false, false, false⟩ (.s .s1) ∈ (t.port (.s .s1)).notices := by
  decide +kernel

/-- R125, R153: SITE_STOP in CALM, with booking 7 ADMITTED. -/
theorem test_site_stop_is_told :
    let t := nextOf (.siteStop (.s .s1)) (lifting .admitted);
    Notice.wind .change .calm .stop .manual true false ∈ (t.port (.c 1)).notices
      ∧ Notice.booking 7 0 (some .admitted) (.state .landing) none none ∈ (t.port (.s .s1)).notices := by decide +kernel

/-- R130, R154: booking 7 lapses, and a lift passes its window. -/
theorem test_clock_second_is_told :
    Notice.booking 7 0 (some .due) (.outcome .lapsed) none none ∈ ((nextOf .clockSecond
        (claiming.setBook ⟨[{ bookingIn .due with late := 11 }], 8⟩)).port (.c 0)).notices
      ∧ Notice.overrun 7 0 90 11 ∈ ((nextOf .clockSecond
        ((lifting .landing).setBook ⟨[{ bookingIn .landing with duration := 11 }], 8⟩)).port (.c 0)).notices := by
  decide +kernel

/-- A DUE booking that an event admits, a lift whose overrun an event marks. -/
theorem meets_admissionTold_and_overrunTold :
    (let t := nextOf .clockSecond ((booked .booked).setBook ⟨[{ bookingIn .booked with start := 101 }], 8⟩);
      bookStateOf t 7 = some .admitted)
    ∧ (let s := (lifting .landing).setBook ⟨[{ bookingIn .landing with duration := 11 }], 8⟩;
      (s.booking 7).any (·.overrun) = false ∧ ((nextOf .clockSecond s).booking 7).any (·.overrun) = true) := by
  decide +kernel

theorem meets_SetSignalDrivesTheLineAfresh :
    sigCfgOf ⟨0, 9, 1, 2⟩ = some ⟨true, .vaneFault, .activeLow, .flash⟩
      ∧ sigCfgOf ⟨1, 0, 0, 1⟩ = some ⟨false, .windAlert, .activeHigh, .pulse⟩ ∧ sigCfgOf ⟨2, 0, 0, 0⟩ = none
      ∧ sigCfgOf ⟨0, 10, 0, 0⟩ = none ∧ sigCfgOf ⟨0, 1, 0, 0⟩ = some ⟨true, .windHold, .activeHigh, .level⟩ := by
  decide

theorem meets_FeedbackPulseAndFlashTimersRunOut :
    (let s := (released.modOut 0 fun o => { o with check := .releaseWait 0 }).modSig 0 fun r =>
        { r with cfg := ⟨true, .vaneFault, .activeHigh, .pulse⟩ };
      vaneCurrent s ∧ (s.sig 0).cfg.enabled = true ∧ s.sources.vaneFault = false)
      ∧ vaneCurrent (site.modOut 0 fun o => { o with check := .applyWait 0 })
      ∧ (let s := site.modSig 0 fun _ => ⟨⟨true, .noMap, .activeHigh, .pulse⟩, .active, some 0⟩;
        (s.sig 0).phase = some 0 ∧ (s.sig 0).cfg.mode = .pulse)
      ∧ (let s := site.modSig 0 fun _ => ⟨⟨true, .noMap, .activeHigh, .flash⟩, .active, some 0⟩;
        (s.sig 0).phase = some 0 ∧ (s.sig 0).cfg.mode = .flash) := by
  unfold vaneCurrent; decide +kernel

/-- The site with two channels of K = 64. -/
def measured (a b : ChanRec) : State := site.setMeas { site.meas with a := a, b := b, warmup := false }

def chan (n : Nat) : ChanRec := { ChanRec.reset ⟨64, false⟩ with count := n }

theorem meets_PulsesAreCountedUpTo1023 :
    site.phase = .running ∧ (channel (measured (chan 1023) (chan 0)).meas .a).cal.k ≠ 0 := by decide +kernel

theorem meets_SampleFormsGustAndMean :
    (measured (chan 50) (chan 0)).meas.waiting = none
      ∧ (channel (measured (chan 50) (chan 0)).meas .a).status ≠ .disabled
      ∧ 59 ≤ { site.meas with accCount := 59 }.accCount ∧ ((lifting .admitted).cell 0).grant = some ⟨0, .booked⟩
      ∧ ((lifting .admitted).book.live.map (·.number)).Nodup
      ∧ (lifting .admitted).booking 7 = some (bookingIn .admitted) := by decide +kernel

theorem meets_ChannelsFaultAndClearAtTheirRuns :
    (let k := channel (measured { chan 1023 with highRun := 3 } (chan 0)).meas .a;
      k.status = .valid ∧ k.count = 1023 ∧ k.highRun = 3)
    ∧ (let m := (measured { chan 0 with stuckRun := 119 } (chan 50)).meas;
      (channel m .a).status = .valid ∧ (channel m .a).count = 0 ∧ (channel m .a).stuckRun = 119
        ∧ (channel m .b).status = .valid ∧ 50 ≤ min 999 ((channel m .b).count * (channel m .b).cal.k / 64))
    ∧ (let k : ChanRec := { chan 1022 with status := .faultHigh, clearRun := 11 };
      k.status = .faultHigh ∧ k.count < 1023 ∧ k.clearRun = 11)
    ∧ (let k : ChanRec := { chan 1 with status := .faultStuck, clearRun := 11 };
      k.status = .faultStuck ∧ 0 < k.count ∧ k.clearRun = 11) := by decide +kernel

/-- One more sample of the same speed on a full ring of it. -/
def blowing (g : Nat) (w : WindRec) : State :=
  (site.setWind w).setMeas { site.meas with a := chan g, ring := List.replicate 12 g, warmup := false, mean := some 50 }

/-- A gust at each set level; the mean alone at its own; a crane in service, and none. -/
theorem meets_WindRisesAtTheSampleThatMeetsIt :
    (sampled (blowing 200 site.wind).meas).gust = some 200 ∧ (sampled (blowing 160 site.wind).meas).gust = some 160
      ∧ (sampled (blowing 120 site.wind).meas).gust = some 120
      ∧ (sampled (blowing 160 site.wind).meas).active = defaultThresholds
      ∧ (sampled (blowing 160 site.wind).meas).mean = some 50
      ∧ (let s := (blowing 100 site.wind).setMeas { (blowing 100 site.wind).meas with mean := some 150 };
        (sampled s.meas).gust = some 100 ∧ (sampled s.meas).mean = some 150 ∧ defaultThresholds.meanSet = 150)
      ∧ site.declared 0 = true ∧ (site.crane 0).duty = .inService
      ∧ (∀ c, State.reset.declared c = false) ∧ ((lifting .admitted).book.live.map (·.number)).Nodup
      ∧ (lifting .admitted).booking 7 = some (bookingIn .admitted) := by decide +kernel

/-- Below every release level, with the calm count one or two short of its period; and at a release level, with a
higher state not met. -/
theorem meets_CalmCountsBringTheWindStateDown :
    (let s := blowing 60 { site.wind with state := .vane, stopCount := 2399 };
      let m := sampled s.meas;
      m.gust = some 60 ∧ m.warmup = false ∧ windMet m.active 60 m.mean = .calm ∧ 60 < m.active.stopRel
        ∧ m.mean = some 50 ∧ 50 < m.active.meanRel ∧ s.wind.manual = false ∧ s.wind.ready = false
        ∧ 4 * m.active.stopCalm ≤ s.wind.stopCount + 1 ∧ s.map.params.holdoff = true
        ∧ 60 < m.active.alertRel ∧ 4 * m.active.alertCalm ≤ 239 + 1 ∧ 60 < m.active.holdRel
        ∧ 4 * m.active.holdCalm ≤ 1199 + 1 ∧ 2398 + 1 < 4 * m.active.stopCalm ∧ 238 + 1 < 4 * m.active.alertCalm
        ∧ 1198 + 1 < 4 * m.active.holdCalm ∧ 0 < m.active.stopCalm)
    ∧ (let s := blowing 170 { site.wind with state := .vane, ready := true, stopCount := 2400 };
      let m := sampled s.meas;
      m.gust = some 170 ∧ windRank (windMet m.active 170 m.mean) ≤ windRank s.wind.state ∧ ¬170 < m.active.stopRel
        ∧ ¬140 < m.active.holdRel ∧ ¬100 < m.active.alertRel ∧ s.wind.ready = true
        ∧ (s.port (.s .s1)).mask.wind = true) := by decide +kernel

theorem meets_SiteStopAndResume :
    attends site (.s .s1) ∧ site.wind.manual = false ∧ craneInService site = true ∧ site.wind.state ≠ .vane
      ∧ (let s := site.setWind { site.wind with state := .vane, ready := true };
        attends s (.s .s1) ∧ s.wind.state = .vane ∧ s.wind.ready = true ∧ s.wind.manual = false)
      ∧ attends (inWind .stop) (.s .s1) ∧ attends State.reset (.s .s1) ∧ craneInService State.reset = false
      ∧ windRank State.reset.wind.state < 3 ∧ State.reset.wind.manual = false
      ∧ attends (site.setWind { site.wind with manual := true }) (.s .s1)
      ∧ (let s := lifting .admitted;
        attends s (.s .s1) ∧ s.wind.manual = false ∧ windRank s.wind.state < 3 ∧ (s.book.live.map (·.number)).Nodup
          ∧ s.booking 7 = some (bookingIn .admitted) ∧ s.map.commit = .idle)
      ∧ (inWind .stop).wind.manual = false := by unfold attends; decide +kernel

theorem meets_ParkTimeoutBringsTheSiteToVane :
    (let s := site.setWind { site.wind with state := .stop, parkTimer := some 0 };
      s.phase = .running ∧ s.wind.state = .stop ∧ s.wind.parkTimer = some 0 ∧ s.declared 0 = true
        ∧ (s.crane 0).duty = .inService ∧ (s.port (.c 0)).notices.length ≤ 14) := by decide +kernel

/-- Sets at each bound of R109, with the value that is named. -/
def thresholdBounds : List (Thresholds × Option Nat) :=
  let low : Thresholds := ⟨11, 10, 11, 10, 11, 10, 11, 10, 10, 10, 60⟩
  let high : Thresholds := ⟨990, 989, 990, 989, 990, 989, 990, 989, 3600, 3600, 3600⟩
  [(low, none), (high, none), (defaultThresholds, none),
    ({ low with alertSet := 9 }, some 0), ({ high with alertSet := 991 }, some 0),
    ({ low with alertRel := 9 }, some 1), ({ high with alertRel := 991 }, some 1),
    ({ low with holdSet := 9 }, some 2), ({ high with holdSet := 991 }, some 2),
    ({ low with holdRel := 9 }, some 3), ({ high with holdRel := 991 }, some 3),
    ({ low with stopSet := 9 }, some 4), ({ high with stopSet := 991 }, some 4),
    ({ low with stopRel := 9 }, some 5), ({ high with stopRel := 991 }, some 5),
    ({ low with meanSet := 9 }, some 6), ({ high with meanSet := 991 }, some 6),
    ({ low with meanRel := 9 }, some 7), ({ high with meanRel := 991 }, some 7),
    ({ low with alertRel := 11 }, some 1), ({ low with holdRel := 11 }, some 3), ({ low with stopRel := 11 }, some 5),
    ({ low with meanRel := 11 }, some 7), ({ low with alertSet := 12 }, some 2), ({ low with alertSet := 12, holdSet := 12 }, some 4),
    ({ low with alertCalm := 9 }, some 8), ({ high with alertCalm := 3601 }, some 8),
    ({ low with holdCalm := 9 }, some 9), ({ high with holdCalm := 3601 }, some 9),
    ({ low with stopCalm := 59 }, some 10), ({ high with stopCalm := 3601 }, some 10),
    ({ low with alertRel := 11, meanRel := 991 }, some 7), ({ low with alertSet := 12, meanRel := 11 }, some 7),
    ({ low with alertCalm := 9, alertSet := 12 }, some 2)]

theorem meets_thresholdChecks : ∀ p ∈ thresholdBounds, namesFirst (thresholdChecks p.1) p.2 := fun p h =>
  (Laws.thresholdsFailing_spec _ _).mpr (by revert p; decide +kernel)

theorem meets_SetWindAndSetCalWaitForTheirBoundary :
    calOf ⟨4095, 1, 4095, 1⟩ = some ⟨⟨4095, true⟩, ⟨4095, true⟩⟩ ∧ calOf ⟨4096, 0, 0, 0⟩ = none := by decide

/-- A booking that becomes DUE is ready; where another crane holds its cell, or in HOLD, it is not. -/
theorem meets_dueOrAdmitted :
    (¬dueForCrane site 0 ∧ ¬dueForCell site 0 ∧ cellClaimsDue site 0)
      ∧ (¬dueForCrane (booked .referred) 0 ∧ ¬dueForCell (booked .referred) 0 ∧ cellClaimsDue (booked .referred) 0)
      ∧ readyFor site (bookingOf site (.c 0) 0 ⟨100, 60, 59, 0, 0, [1]⟩)
      ∧ readyFor (booked .referred) (bookingIn .referred)
      ∧ ¬readyFor (held .entry) { bookingIn .booked with crane := 1 }
      ∧ ¬readyFor (inWind .hold) (bookingIn .referred) := by
  refine ⟨?_, ?_, ?_, ?_, ?_, ?_⟩
  · unfold dueForCrane dueForCell cellClaimsDue dueNaming; decide +kernel
  · unfold dueForCrane dueForCell cellClaimsDue dueNaming; decide +kernel
  all_goals unfold readyFor craneReadyFor cellReadyFor; decide +kernel

/-- Bodies of a BOOK at each bound of R133, with the field that is named. -/
def bookBounds : List (BookFields × Option BookField) :=
  [(⟨100, 60, 59, 0, 0, [1]⟩, none), (⟨101, 60, 0, 0, 0, [1]⟩, none), (⟨604900, 7200, 7199, 1, 1, [3]⟩, none),
    (⟨4294967235, 60, 0, 0, 0, [1, 2, 63, 64]⟩, none), (⟨100, 59, 0, 0, 0, [1]⟩, some .duration),
    (⟨100, 7201, 0, 0, 0, [1]⟩, some .duration), (⟨100, 60, 60, 0, 0, [1]⟩, some .lateLimit),
    (⟨100, 60, 0, 2, 0, [1]⟩, some .loadClass), (⟨100, 60, 0, 0, 2, [1]⟩, some .inspectFlag),
    (⟨100, 60, 0, 0, 0, []⟩, some .cellCount), (⟨100, 60, 0, 0, 0, [1, 2, 3, 4, 5]⟩, some .cellCount),
    (⟨100, 60, 0, 0, 0, [0]⟩, some .cellNumber), (⟨100, 60, 0, 0, 0, [1, 65]⟩, some .cellNumber),
    (⟨100, 60, 0, 0, 0, [2, 1, 2]⟩, some .cellRepeat), (⟨4294967236, 60, 0, 0, 0, [1]⟩, some .window),
    (⟨4294967236, 59, 59, 2, 2, []⟩, some .duration), (⟨4294967236, 60, 60, 2, 2, []⟩, some .lateLimit),
    (⟨4294967236, 60, 0, 2, 2, []⟩, some .loadClass), (⟨4294967236, 60, 0, 0, 2, []⟩, some .inspectFlag),
    (⟨4294967236, 60, 0, 0, 0, [0, 0, 0, 0, 0]⟩, some .cellCount), (⟨4294967236, 60, 0, 0, 0, [0, 0]⟩, some .cellNumber),
    (⟨4294967236, 60, 0, 0, 0, [1, 1]⟩, some .cellRepeat)]

theorem meets_bookFieldChecks : ∀ p ∈ bookBounds, namesFirst (bookFieldChecks p.1) p.2 := fun p h =>
  (Laws.bookFieldsFailing_spec _ _).mpr (by revert p; decide +kernel)

/-- A BOOK for cell 1 that starts at the clock, one that starts later, and one for the cell that needs a ruling. -/
theorem meets_BookEntersTheBook :
    attends site (.c 0) ∧ namesCrane (.c 0) none 0 ∧ site.noMap = false ∧ site.clock.isSet = true
      ∧ site.declared 0 = true
      ∧ (∀ f ∈ [BookFields.mk 100 60 59 0 0 [1], ⟨101, 60, 0, 0, 0, [1]⟩, ⟨604900, 7200, 7199, 1, 1, [3]⟩],
        (∀ x ∈ bookCells f, site.present x = true ∧ (site.member x 0).isSome ∧ site.isDraining x = false)
          ∧ site.clock.count < f.start + f.late ∧ f.start ≤ site.clock.count + 604800)
      ∧ rulingCells site (bookCells ⟨100, 60, 59, 0, 0, [1]⟩) = []
      ∧ rulingCells site (bookCells ⟨604900, 7200, 7199, 1, 1, [3]⟩) ≠ [] ∧ site.book.live.length < 96
      ∧ (let k : Book := ⟨[{ bookingIn .booked with number := 65535 }], 65535⟩;
        (∃ b ∈ k.live, b.number = (k.next - 1 + 0) % 65535 + 1) ∧ ∀ b ∈ k.live, b.number ≠ (k.next - 1 + 1) % 65535 + 1)
      := by
  unfold attends namesCrane; decide +kernel

theorem meets_BookIsRefusedInOrder :
    whoSuits (.s .s1) (some 9) = true ∧ craneNamed (.s .s1) (some 8) = some 7 ∧ site.declared 7 = false
      ∧ (0 : Nat) + 59 ≤ site.clock.count ∧ site.clock.count + 604800 < 604901
      ∧ [(63 : CellNo)].find? (fun x => !site.present x) = some 63
      ∧ (booked .booked).book.live.find? (conflicts 1 [0] 689 60) = some (bookingIn .booked)
      ∧ (List.replicate 96 (bookingIn .booked)).all (fun b => !conflicts 1 [0] 690 60 b) = true := by decide +kernel

theorem meets_RuleDecidesAReferredBooking :
    attends (booked .referred) (.s .s1) ∧ (booked .referred).booking 7 = some (bookingIn .referred)
      ∧ (bookingIn .referred).start ≤ site.clock.count
      ∧ (booked .referred |>.setClock ⟨89, true, 1000⟩).clock.count < (bookingIn .referred).start
      ∧ (bookingIn .booked).state ≠ .referred ∧ liftsUnderWay (booked .referred)
      ∧ (booked .referred).booking 65535 = none := by
  unfold attends liftsUnderWay; decide +kernel

theorem meets_CancelEndsABookingNotUnderWay :
    attends claiming (.c 0) ∧ claiming.noMapLink (.c 0) = false
      ∧ claiming.booking 7 = some (bookingIn .due) ∧ (bookingIn .due).crane = 0
      ∧ claiming.booking 65535 = none ∧ (bookingIn .inspect).state = .inspect ∧ liftsUnderWay (booked .booked)
      ∧ attends State.reset (.c 0) ∧ State.reset.noMapLink (.c 0) = true := by
  unfold attends liftsUnderWay; decide +kernel

/-- Another booking that is not DUE stands beside the one that a RULE, ABORT, FINISH or END is for. -/
theorem meets_other_bookings :
    (let s := (booked .referred).setBook ⟨[bookingIn .referred, { bookingIn .booked with number := 8, start := 691 }], 9⟩;
      attends s (.s .s1) ∧ s.booking 7 = some (bookingIn .referred) ∧ (s.booking 8).any (·.state == .booked) = true)
    ∧ (let s := (lifting .inspect).setBook ⟨[bookingIn .inspect, { bookingIn .booked with number := 8, start := 691 }], 9⟩;
      attends s (.s .s1) ∧ s.booking 7 = some (bookingIn .inspect) ∧ (s.booking 8).any (·.state == .booked) = true) := by
  unfold attends; decide +kernel

/-- At the value 101: a REFERRED and a DUE booking one second before their late limits, BOOKED ones that start at and
after it, and windows that end at and after it. -/
theorem meets_bookJudgedAt :
    (∀ st ∈ [BookState.referred, .booked, .due, .inspect], (booked st).booking 7 = some (bookingIn st)
        ∧ ((booked st).book.live.map (·.number)).Nodup ∧ (booked st).map.commit = .idle)
      ∧ (101 < 90 + 12 ∧ 90 ≤ 101) ∧ (101 < { bookingIn .booked with start := 102 }.start)
      ∧ (let b := { bookingIn .booked with start := 101, late := 1 }; b.start ≤ 101 ∧ 101 < b.start + b.late)
      ∧ (markedAt 101 { bookingIn .landing with duration := 11 }).overrun = true
      ∧ (markedAt 101 { bookingIn .landing with duration := 12 }).overrun = false := by decide +kernel

/-- Crane 1 is still in its cell, or has left it. -/
theorem meets_LiftsEndByAbortFinishAndEnd :
    attends (lifting .landing) (.c 0) ∧ attends (lifting .inspect) (.s .s1)
      ∧ (lifting .landing).booking 7 = some (bookingIn .landing) ∧ ((lifting .landing).crane 0).lift = some 7
      ∧ (lifting .landing).noMap = false ∧ (lifting .landing).map.commit = .idle
      ∧ (bookingIn .landing).inspect = false ∧ (lifting .landing).map.params.endHold = .none
      ∧ ((lifting .landing).cell 0).grant = some ⟨0, .booked⟩
      ∧ ((lifting .landing).modEnv 0 fun e => { e with touch := [(0, noMotion)] }).touches 0 0 = true
      ∧ ¬dueForCell (lifting .landing) 0 ∧ (lifting .landing).touches 0 0 = false
      ∧ attends State.reset (.c 0) ∧ State.reset.noMap = true ∧ attends site (.c 0) ∧ (site.crane 0).lift = none
      ∧ attends (lifting .inspect) (.c 0) ∧ ((lifting .inspect).crane 0).lift = some 7
      ∧ (lifting .inspect).booking 7 = some (bookingIn .inspect) ∧ (lifting .inspect).booking 65535 = none := by
  unfold attends dueForCell; decide +kernel

/-- Forward to 150, the late limit of a DUE booking; backward to 89, before its start; forward to the start of a BOOKED
one. -/
theorem meets_SetClockJudgesTheBook :
    attends claiming (.s .s1) ∧ claiming.clock.count = 100 ∧ (claiming.book.live.map (·.number)).Nodup
      ∧ claiming.booking 7 = some (bookingIn .due) ∧ (bookingIn .due).start + (bookingIn .due).late = 150
      ∧ 89 < (bookingIn .due).start ∧ claiming.map.commit = .idle
      ∧ ((booked .booked).setClock ⟨89, true, 1000⟩).clock.count < 90 ∧ (bookingIn .booked).start = 90
      ∧ (claiming.port (.s .s1)).mask.site = true ∧ (claiming.cell 0).grant = some ⟨1, .entry⟩
      ∧ ¬89 < { bookingIn .due with start := 89 }.start := by unfold attends; decide +kernel

/-- The next second, 101: the late limit of a REFERRED and of a DUE booking, a BOOKED booking's start, a lift's end of
window. -/
theorem meets_ClockSecondJudgesTheBook :
    claiming.map.commit = .idle ∧ (claiming.book.live.map (·.number)).Nodup
      ∧ (nextOf .clockSecond (claiming.setBook ⟨[{ bookingIn .due with late := 11 }], 8⟩)).booking 7 = none
      ∧ site.clock.isSet = true ∧ site.clock.count < 4294967295
      ∧ (let b := { bookingIn .referred with late := 11 };
        (site.setBook ⟨[b], 8⟩).booking 7 = some b ∧ b.start + b.late ≤ site.clock.count + 1)
      ∧ (let b := { bookingIn .due with late := 11 };
        let s := claiming.setBook ⟨[b], 8⟩;
        s.booking 7 = some b ∧ b.start + b.late ≤ s.clock.count + 1
          ∧ ∀ d ∈ s.book.live, d.state = .booked → s.clock.count + 1 < d.start)
      ∧ (bookingIn .booked).start ≤ site.clock.count + 1
      ∧ (let b := { bookingIn .landing with duration := 11 };
        b.start + b.duration ≤ site.clock.count + 1) := by decide +kernel

theorem meets_StoreWritesEndWithTheirReadBack :
    (site.setStore { site.store with writing := some (.calibration Cal.default) }).store.writing
      = some (.calibration Cal.default) ∧ site.store.retry = false := by decide +kernel

theorem meets_ResetsHoldTheOutputsAndEmptyThePorts :
    site.phase = .running ∧ { site with restartReady := true }.restartReady = true := by decide +kernel

/-- A panel reset in VANE and in STOP, a power-on reset, and the reset of a RESTART, each with the store idle. -/
theorem meets_StartUpLeavesTheTabledValues :
    (∀ s ∈ [nextOf .panelReset (inWind .vane), nextOf .panelReset (inWind .stop), nextOf .powerOnReset (inWind .vane),
        nextOf .restartReset { site with restartReady := true }],
      s.phase = .resetting ∧ s.store.writing = none ∧ s.store.waiting = [])
    ∧ (nextOf .panelReset (inWind .vane)).cause ≠ .power ∧ (nextOf .panelReset (inWind .vane)).wind.state = .vane
    ∧ (nextOf .panelReset (inWind .stop)).wind.state = .stop ∧ (nextOf .powerOnReset (inWind .vane)).cause = .power
    ∧ (nextOf .restartReset { site with restartReady := true }).cause = .command := by decide +kernel

end Sys2Proof.Tests
end

/-! SUPPORT. The staging of whole maps and of site parameters (R7, R10), and the vane conflict of a cell (R12). -/

namespace Sys2Proof.Machine.Laws

/-! ### Staging requests past their checks -/

/-- The authority holder with no pending commit passes the checks of a staging request (R6). -/
theorem firstRefusal_stageChecks_idle {x : Sup} {s : State} (hx : x = s.holder) (hi : s.map.commit = .idle) :
    firstRefusal (stageChecks s (.s x)) = none := by
  simp [firstRefusal, stageChecks, State.authorized, isPending, hx, hi]

theorem stage_accepts {x : Sup} {s : State} (hx : x = s.holder) (hi : s.map.commit = .idle) (k : ReqKind)
    {f : MapUnit → Option (MapUnit × Result)} {m : MapUnit} {r : Result} (hf : f s.map = some (m, r)) :
    stage k x f s = (s.setMap m).answer (.s x) k r := by
  simp only [stage, firstRefusal_stageChecks_idle hx hi, hf]

theorem stage_refuses {x : Sup} {s : State} (hx : x = s.holder) (hi : s.map.commit = .idle) (k : ReqKind)
    {f : MapUnit → Option (MapUnit × Result)} (hf : f s.map = none) :
    stage k x f s = s.refuse (.s x) k .badField := by
  simp only [stage, firstRefusal_stageChecks_idle hx hi, hf]

/-! ### The request rows at a port that attends -/

theorem exec_stageClear_attended {x : Sup} {s : State} (h : attends s (.s x)) :
    exec (.stageClear (.s x)) s = .next (doStageClear x s).transmit :=
  congrArg Host.Outcome.next (arrive_attended h .stageClear)

theorem exec_stageCopy_attended {x : Sup} {s : State} (h : attends s (.s x)) :
    exec (.stageCopy (.s x)) s = .next (doStageCopy x s).transmit :=
  congrArg Host.Outcome.next (arrive_attended h .stageCopy)

theorem exec_stageSite_attended {x : Sup} {s : State} (h : attends s (.s x)) (v : RawParams) :
    exec (.stageSite (.s x) v) s = .next (doStageSite x v s).transmit :=
  congrArg Host.Outcome.next (arrive_attended h (.stageSite v))

/-! ### Whole maps (R7) -/

theorem declCount_empty : declCount MapBody.empty = 0 := by decide

theorem cellCount_empty : cellCount MapBody.empty = 0 := by decide

theorem stagedAs_empty (u : MapUnit) (v : SiteParams) :
    stagedAs u MapBody.empty v = ({ u with staged := MapBody.empty, stagedParams := v }, .stagedCounts 0 0) := by
  simp only [stagedAs, declCount_empty, cellCount_empty]

/-- STAGE_COPY stages the active map, or under NO_MAP the empty one. -/
theorem doStageCopy_accepts {x : Sup} {s : State} (hx : x = s.holder) (hi : s.map.commit = .idle) {b : MapBody}
    (hb : s.map.active.getD MapBody.empty = b) :
    doStageCopy x s = (s.setMap (stagedAs s.map b s.map.params).1).answer (.s x) .stageCopy
      (stagedAs s.map b s.map.params).2 :=
  stage_accepts hx hi .stageCopy (by rw [hb])

/-- Settles O19: the request passes the checks of R6 and the counts are those of the map now staged. -/
theorem stageClearAndCopyReplaceTheStagedMap : Obligations.StageClearAndCopyReplaceTheStagedMap := by
  intro x s ha hx hi
  refine ⟨?clear, fun m hm => ?copy, fun hn => ?noMap⟩
  case clear =>
    rw [exec_stageClear_attended ha, doStageClear,
      stage_accepts hx hi .stageClear (congrArg some (stagedAs_empty s.map SiteParams.default))]
  case copy =>
    rw [exec_stageCopy_attended ha, doStageCopy_accepts hx hi (b := m) (by rw [hm]; rfl)]
    rfl
  case noMap =>
    rw [exec_stageCopy_attended ha, doStageCopy_accepts hx hi (b := MapBody.empty) (by rw [hn]; rfl),
      stagedAs_empty]

/-! ### Site parameters (R5, R10) -/

theorem flagOf_eq_ite (n : Nat) : flagOf n = if n ≤ 1 then some (n == 1) else none := by
  match n with
  | 0 | 1 => rfl
  | n + 2 => simp [flagOf]

theorem endHoldOf_eq_ite (n : Nat) :
    endHoldOf n = if n ≤ 2 then some (if n = 0 then .none else if n = 1 then .heavy else .all) else none := by
  match n with
  | 0 | 1 | 2 => rfl
  | n + 3 => simp [endHoldOf]

/-- The parameters of a STAGE_SITE lie in the ranges of R5. -/
def paramsWithin (v : RawParams) : Prop :=
  200 ≤ v.silence ∧ v.silence ≤ 3000 ∧ v.silence % 10 = 0 ∧ 2 ≤ v.lost ∧ v.lost ≤ 60
    ∧ 5 ≤ v.enterWait ∧ v.enterWait ≤ 255 ∧ 10 ≤ v.recallLimit ∧ v.recallLimit ≤ 600 ∧ 60 ≤ v.parkTimeout
    ∧ v.parkTimeout ≤ 1800 ∧ 30 ≤ v.commitWait ∧ v.commitWait ≤ 1800 ∧ v.endHold ≤ 2 ∧ v.holdoff ≤ 1

theorem paramsOf_of_within {v : RawParams} (h : paramsWithin v) :
    paramsOf v = some
      { silence := v.silence, lost := v.lost, enterWait := v.enterWait, recallLimit := v.recallLimit,
        parkTimeout := v.parkTimeout, commitWait := v.commitWait,
        endHold := if v.endHold = 0 then .none else if v.endHold = 1 then .heavy else .all,
        holdoff := v.holdoff == 1 } := by
  unfold paramsWithin at h
  obtain ⟨he, hh⟩ : v.endHold ≤ 2 ∧ v.holdoff ≤ 1 := by omega
  rw [paramsOf, if_pos (by omega), endHoldOf_eq_ite, if_pos he, flagOf_eq_ite, if_pos hh]

/-- A parameter out of its range is a number out of range, or an unknown end-hold policy or resume holdoff. -/
theorem paramsOf_of_not_within {v : RawParams} (h : ¬paramsWithin v) : paramsOf v = none := by
  unfold paramsOf
  split
  case isFalse => rfl
  case isTrue hr =>
    have hcodes : ¬v.endHold ≤ 2 ∨ ¬v.holdoff ≤ 1 := by unfold paramsWithin at h; omega
    rcases hcodes with he | hh
    · rw [endHoldOf_eq_ite, if_neg he]
    · rw [flagOf_eq_ite, if_neg hh]
      cases endHoldOf v.endHold <;> rfl

/-- Settles O21: the staged parameters are those that `paramsOf` reads, and it reads exactly what is in range. -/
theorem stageSiteIsRangeCheckedWhenStaged : Obligations.StageSiteIsRangeCheckedWhenStaged := by
  intro x v s ha hx hi inRange
  rw [exec_stageSite_attended ha, doStageSite]
  refine ⟨fun hin => ?_, fun hout => ?_⟩
  · rw [stage_accepts hx hi .stageSite (by rw [paramsOf_of_within hin]; rfl)]
  · rw [stage_refuses hx hi .stageSite (by rw [paramsOf_of_not_within hout]; rfl)]

/-! ### Vane conflicts (R12) -/

/-- The crane of a member has the vane permit. -/
def vanePermitted (m : MapBody) (k : Member) : Prop := ∃ e, declOfNumber m k.crane = some e ∧ e.vanePermit = 1

theorem vaneJib_iff (m : MapBody) (k : Member) : vaneJib m k = true ↔ vanePermitted m k ∧ k.role = .jib := by
  simp only [vaneJib, vanePermitted, Bool.and_eq_true, beq_iff_eq, Option.any_eq_true, and_comm]

theorem vaneLineInBand_iff (m : MapBody) (k : Member) :
    vaneLineInBand m k = true ↔ ∃ lo hi clearance e, k.role = .line lo hi clearance
      ∧ declOfNumber m k.crane = some e ∧ e.vanePermit = 1 ∧ lo ≤ e.park ∧ e.park ≤ hi := by
  unfold vaneLineInBand
  cases k.role with
  | jib => simp
  | line lo hi clearance =>
    simp only [Option.any_eq_true, Bool.and_eq_true, beq_iff_eq, decide_eq_true_eq, Role.line.injEq]
    constructor
    · rintro ⟨e, he, hv, hband⟩
      exact ⟨lo, hi, clearance, e, ⟨rfl, rfl, rfl⟩, he, hv, hband⟩
    · rintro ⟨_, _, _, e, ⟨rfl, rfl, rfl⟩, he, hv, hband⟩
      exact ⟨e, he, hv, hband⟩

theorem pairwise_false_iff {α : Type} (l : List α) : l.Pairwise (fun _ _ => False) ↔ l.length < 2 := by
  match l with
  | [] | [_] => simp
  | _ :: _ :: _ => exact iff_of_false (fun h => List.rel_of_pairwise_cons h List.mem_cons_self) (by simp)

/-- Two elements pass a test exactly where it is passed at two places. -/
theorem two_le_length_filter_iff {α : Type} (p : α → Bool) (l : List α) :
    2 ≤ (l.filter p).length ↔
      ∃ (i j : Nat) (a b : α), i < j ∧ l[i]? = some a ∧ l[j]? = some b ∧ p a = true ∧ p b = true := by
  rw [← not_lt, ← pairwise_false_iff, List.pairwise_filter, List.pairwise_iff_getElem]
  constructor
  · intro h
    push Not at h
    obtain ⟨i, j, hi, hj, hij, ha, hb, -⟩ := h
    exact ⟨i, j, l[i], l[j], hij, List.getElem?_eq_getElem hi, List.getElem?_eq_getElem hj, ha, hb⟩
  · rintro ⟨i, j, a, b, hij, hia, hjb, ha, hb⟩ h
    obtain ⟨hi, rfl⟩ := List.getElem?_eq_some_iff.mp hia
    obtain ⟨hj, rfl⟩ := List.getElem?_eq_some_iff.mp hjb
    exact h i j hi hj hij ha hb

/-- Settles O22: the first case counts the vane-permitted JIB members, the second looks for one beside a LINE member. -/
theorem vaneConflictIsTheRuleOfTwoReleasedCranes : Obligations.VaneConflictIsTheRuleOfTwoReleasedCranes := by
  intro m d permits
  simp only [vaneConflict, Bool.or_eq_true, decide_eq_true_eq, Bool.and_eq_true]
  refine or_congr ?twoJibs ?jibAndLine
  case twoJibs =>
    simp only [two_le_length_filter_iff, vaneJib_iff]
    constructor
    · rintro ⟨i, j, a, b, hij, hi, hj, ⟨hpa, hra⟩, hpb, hrb⟩
      exact ⟨i, j, a, b, hij, hi, hj, hpa, hpb, hra, hrb⟩
    · rintro ⟨i, j, a, b, hij, hi, hj, hpa, hpb, hra, hrb⟩
      exact ⟨i, j, a, b, hij, hi, hj, ⟨hpa, hra⟩, hpb, hrb⟩
  case jibAndLine =>
    simp only [List.any_eq_true, vaneJib_iff, vaneLineInBand_iff]
    constructor
    · rintro ⟨⟨a, ha, hpa, hra⟩, b, hb, hline⟩
      exact ⟨a, ha, b, hb, hpa, hra, hline⟩
    · rintro ⟨a, ha, b, hb, hpa, hra, hline⟩
      exact ⟨⟨a, ha, hpa, hra⟩, b, hb, hline⟩

end Sys2Proof.Machine.Laws

/-! SUPPORT. The slew closing motions by the offset of the span's centre (R55). -/

namespace Sys2Proof.Machine.Laws

/-! ### Slew closing motions (R55) -/

theorem angleSub_cast (a b : Nat) : (angleSub a b : Int) = ((a : Int) - b) % 4096 := by
  unfold angleSub
  omega

/-- The offset of the centre of a member's span from the jib. -/
def centreOffset (m : Member) (r : Report) : Nat := angleSub (spanCentre m) r.theta

theorem centreOffset_cast (m : Member) (r : Report) :
    (centreOffset m r : Int) = (((m.start + (m.len - 1) / 2) % 4096 : Nat) - (r.theta : Int)) % 4096 :=
  angleSub_cast (spanCentre m) r.theta

theorem slewClosing_some (r : Report) (m : Member) :
    slewClosing (some r) m =
      if r.doubtAngle || centreOffset m r = 0 || centreOffset m r = 2048 then (true, true)
      else if centreOffset m r < 2048 then (false, true)
      else (true, false) := rfl

theorem slewClosing_both {r : Report} {m : Member}
    (h : r.doubtAngle = true ∨ centreOffset m r = 0 ∨ centreOffset m r = 2048) :
    slewClosing (some r) m = (true, true) := by
  rw [slewClosing_some, if_pos (by simpa [or_assoc] using h)]

/-- The centre lies to the right. -/
theorem slewClosing_right {r : Report} {m : Member} (ha : r.doubtAngle = false) (hlo : 1 ≤ centreOffset m r)
    (hhi : centreOffset m r ≤ 2047) : slewClosing (some r) m = (false, true) := by
  have hboth : ¬(centreOffset m r = 0 ∨ centreOffset m r = 2048) := by omega
  rw [slewClosing_some, if_neg (by simpa [ha] using hboth), if_pos (by omega)]

/-- The centre lies to the left. -/
theorem slewClosing_left {r : Report} {m : Member} (ha : r.doubtAngle = false) (hlo : 2049 ≤ centreOffset m r) :
    slewClosing (some r) m = (true, false) := by
  have hboth : ¬(centreOffset m r = 0 ∨ centreOffset m r = 2048) := by omega
  rw [slewClosing_some, if_neg (by simpa [ha] using hboth), if_neg (by omega)]

theorem closingMotions_slewL (rep : Option Report) (m : Member) :
    (closingMotions rep m).slewL = (slewClosing rep m).1 := by
  unfold closingMotions
  cases m.role <;> rfl

theorem closingMotions_slewR (rep : Option Report) (m : Member) :
    (closingMotions rep m).slewR = (slewClosing rep m).2 := by
  unfold closingMotions
  cases m.role <;> rfl

/-- JIB and LINE members alike have the slew closing motions among their closing motions. -/
theorem closingMotions_slew_iff (rep : Option Report) (m : Member) (left right : Bool) :
    (closingMotions rep m).slewL = left ∧ (closingMotions rep m).slewR = right ↔
      slewClosing rep m = (left, right) := by
  rw [closingMotions_slewL, closingMotions_slewR, Prod.ext_iff]

/-- Settles O33: the slew closing motions are those of the offset, and the offset is the difference of R55. -/
theorem slewClosingMotionsFollowTheCentre : Obligations.SlewClosingMotionsFollowTheCentre := by
  intro m rep
  simp only [closingMotions_slew_iff]
  refine ⟨?noReport, ?report⟩
  case noReport =>
    rintro rfl
    rfl
  case report =>
    rintro r rfl -
    rw [← centreOffset_cast]
    refine ⟨fun h => slewClosing_both (h.imp_right fun hd => ?_),
      fun ha hlo hhi => slewClosing_right ha ?_ ?_, fun ha hlo _ => slewClosing_left ha ?_⟩ <;> omega

end Sys2Proof.Machine.Laws

/-! SUPPORT. The refusals of an ENTER (R65). -/

namespace Sys2Proof.Machine.Laws

/-! ### The operands of a request that names a cell -/

@[simp] theorem cellOf_cellNo (x : CellNo) : cellOf (cellNo x) = some x := by
  have hx : 1 ≤ x.val + 1 ∧ x.val + 1 ≤ 64 := by omega
  simp [cellOf, cellNo, hx]

theorem cellOf_eq_none {n : Nat} (h : n < 1 ∨ 64 < n) : cellOf n = none := by
  rw [← Option.not_isSome_iff_eq_none, cellOf_isSome]
  omega

/-! ### Checks 1 and 2 of R65 -/

theorem firstRefusal_linkChecks_notAuthority {s : State} {p : Port} (ha : s.authorized p = false) :
    firstRefusal (linkChecks s p) = some .notAuthority := by
  simp [linkChecks, firstRefusal, ha]

theorem firstRefusal_linkChecks_noMap {s : State} {p : Port} (ha : s.authorized p = true)
    (hm : s.noMapLink p = true) : firstRefusal (linkChecks s p) = some .noMap := by
  simp [linkChecks, firstRefusal, ha, hm]

theorem firstRefusal_linkChecks_allowed {s : State} {p : Port} (hl : linkAllows s p) :
    firstRefusal (linkChecks s p) = none := by
  obtain ⟨ha, hm⟩ := hl
  simp [linkChecks, firstRefusal, ha, hm]

/-! ### ENTER, stage by stage -/

theorem exec_enter_attended {p : Port} {w : Option Nat} {s : State} (h : attends s p) (hw : whoSuits p w = true)
    (n : Nat) : exec (.enter p w n) s = .next (doEnter p w n s).transmit := by
  have hnamed : perform p (.enter w n) s = doEnter p w n s := if_pos hw
  rw [← hnamed]
  exact congrArg Host.Outcome.next (arrive_attended h (.enter w n))

theorem doEnter_of_linkChecks_refuse {p : Port} {s : State} {why : Reason}
    (h : firstRefusal (linkChecks s p) = some why) (w : Option Nat) (n : Nat) :
    doEnter p w n s = s.refuse p .enter why := by
  simp only [doEnter, h]

/-- Check 3 of R65: the crane or the cell is out of range. -/
theorem doEnter_badField {p : Port} {w : Option Nat} {n : Nat} {s : State} (hl : linkAllows s p)
    (h : craneNamed p w = none ∨ cellOf n = none) : doEnter p w n s = s.refuse p .enter .badField := by
  simp only [doEnter, firstRefusal_linkChecks_allowed hl]
  rcases h with hc | hx
  · rw [hc]
  · rw [hx]
    cases craneNamed p w <;> rfl

theorem doEnter_of_enterChecks_refuse {p : Port} {w : Option Nat} {s : State} {c : Crane} {x : CellNo} {why : Reason}
    (hl : linkAllows s p) (hc : craneNamed p w = some c) (h : firstRefusal (enterChecks s c x) = some why) :
    doEnter p w (cellNo x) s = s.refuse p .enter why (enterItem s c x why) := by
  simp only [doEnter, firstRefusal_linkChecks_allowed hl, hc, cellOf_cellNo, h]

/-- Settles O34: at each of the three stages of `doEnter` the first check that fails is the one refused; the last stage
runs checks 4 to 12, which are the model's `enterChecks`. -/
theorem enterIsRefusedByItsFirstFailingCheck : Obligations.EnterIsRefusedByItsFirstFailingCheck := by
  intro p w n s hatt hw
  simp only [exec_enter_attended hatt hw]
  refine ⟨fun ha => ?notAuthority, fun ha hm => ?noMap, fun hl hbad => ?badField, fun c x why hl hc hn hfirst => ?table⟩
  case notAuthority =>
    rw [doEnter_of_linkChecks_refuse (firstRefusal_linkChecks_notAuthority ha)]
  case noMap =>
    rw [doEnter_of_linkChecks_refuse (firstRefusal_linkChecks_noMap ha hm)]
  case badField =>
    rw [doEnter_badField hl (hbad.imp_right cellOf_eq_none)]
  case table =>
    have hchecks : firstRefusal (enterChecks s c x) = some why := hfirst
    rw [hn, doEnter_of_enterChecks_refuse hl hc hchecks, enterItem]

end Sys2Proof.Machine.Laws

/-! SUPPORT. What a request and what a step can do, said once: every request is refused, answered, or has one of the
effects of `Performed`; every step is a chain of the machine's own events (`Event`). -/

namespace Sys2Proof.Machine.Laws

/-! ### What a request can do -/

/-- What a request at port `p` can leave: nothing but a response, or the effect of its rule past its checks, with the
checks that later proofs need. -/
inductive Performed (p : Port) (s : State) : State → Prop
  | ignored : Performed p s s
  | responded (r : Response) : Performed p s (s.respond p r)
  | readStatus (r : Response) : Performed p s ((s.modPort p fun q => { q with overflow := false }).respond p r)
  | masked (m : Classes) (r : Response) : Performed p s ((s.modPort p fun q => { q with mask := m }).respond p r)
  | reported (c : Crane) (d : Decl) (r : RawReport) (hp : p = .c c) (hd : s.decl c = some d) :
      Performed p s (takeReport s c d r)
  | entered (c : Crane) (x : CellNo) (h : firstRefusal (enterChecks s c x) = none) :
      Performed p s (acceptEnter s p c x)
  | left (c : Crane) (x : CellNo) (h : firstRefusal (leaveChecks s c x) = none) : Performed p s (acceptLeave s p c x)
  | booked (c : Crane) (f : BookFields) (h : bookRefusal s c f = none) : Performed p s (acceptBook s p c f)
  | cancelled (n : Nat) (b : Booking) (hb : s.booking n = some b) (hu : underWay b.state = false) :
      Performed p s (acceptCancel s p b)
  | ended (c : Crane) (b : Booking) (hp : p = .c c) (hb : liftOf s c = some b) : Performed p s (endLift s p b)
  | dutyChanged (k : ReqKind) (c : Crane) (d : Duty) (hd : s.declared c = true) :
      Performed p s ((changeDuty s p c d).answer p k (.duty d))
  | authorityGiven (y : Sup) (m : AuthorityMove) (r : Response) : Performed p s ((giveAuthority s y m).respond p r)
  | forced (x : CellNo) (g : Grant) (hg : (s.cell x).grant = some g) (r : Response) :
      Performed p s ((conclude s (forceFree s x g)).respond p r)
  | manualPlaced (k : ReqKind) (c : Crane) (m : Lines) : Performed p s (answerInhibit (placeManual s p c m) p k c)
  | signalSet (l : SigLine) (g : SigCfg) (r : Response) : Performed p s ((configureLine s l g).respond p r)
  | edgesSelected (c : Crane) (i : Input) (e : EdgeSel) (r : Response) :
      Performed p s ((selectEdges s c i e).respond p r)
  | ruled (n : Nat) (b : Booking) (a : Bool) (hb : s.booking n = some b) (hr : b.state = .referred) :
      Performed p s (giveRuling s p b a)
  | released (n : Nat) (b : Booking) (o : BookOutcome) (q : Option Port) (r : Response) (hb : s.booking n = some b)
      (hu : underWay b.state = true) : Performed p s ((conclude s (bookingRelease s b none o q)).respond p r)
  | clockSet (y : Sup) (v : Nat) (hp : p = .s y) : Performed p s (acceptClock s p v)
  | siteStopped (y : Sup) (hp : p = .s y) (r : Response) : Performed p s ((conclude s (siteStops s)).respond p r)
  | flagCleared (r : Response) :
      Performed p s ((announceWind (s.setWind { s.wind with manual := false }) s.wind.state).respond p r)
  | resumed (y : Sup) (hp : p = .s y) (r : Response) (hv : s.wind.state = .vane) :
      Performed p s ((conclude s (moveWind s .hold s.wind.cause none)).respond p r)
  | windSet (t : Thresholds) (q : Port) (r : Response) :
      Performed p s (((s.setMeas { s.meas with pendingSet := some t }).notifyClass .wind (.windTablePending t q)).respond
        p r)
  | calSet (k : Cal) (q : Port) (r : Response) :
      Performed p s (((startWrite (s.setMeas { s.meas with waiting := some k }) (.calibration k)).notifyClass .wind
        (.calibration k q)).respond p r)
  | staged (m : MapBody) (v : SiteParams) (r : Response) :
      Performed p s ((s.setMap { s.map with staged := m, stagedParams := v }).respond p r)
  | committed (h : s.map.commit = .idle) : Performed p s (decideCommit s p)
  | commitCancelled (r : Response) : Performed p s ((endCommit s .commitCancelled).respond p r)

section
variable {p : Port} {s : State}

theorem refuse_performed (k : ReqKind) (w : Reason) (r : Result) : Performed p s (s.refuse p k w r) := .responded _

theorem answer_performed (k : ReqKind) (r : Result) : Performed p s (s.answer p k r) := .responded _

theorem doReport_performed (c : Crane) (r : RawReport) : Performed (.c c) s (doReport c r s) := by
  unfold doReport
  split
  · exact .reported c _ r rfl ‹_›
  · exact .ignored

theorem doEnter_performed (w : Option Nat) (n : Nat) : Performed p s (doEnter p w n s) := by
  unfold doEnter
  split
  · exact refuse_performed _ _ _
  · split
    · split
      · exact refuse_performed _ _ _
      · exact .entered _ _ ‹_›
    · exact refuse_performed _ _ _

theorem doLeave_performed (w : Option Nat) (n : Nat) : Performed p s (doLeave p w n s) := by
  unfold doLeave
  split
  · exact refuse_performed _ _ _
  · split
    · split
      · exact refuse_performed _ _ _
      · exact .left _ _ ‹_›
    · exact refuse_performed _ _ _

theorem decideDuty_performed (k : ReqKind) (d : Duty) (f : State → Crane → List (Bool × Reason)) (w : Option Nat) :
    Performed p s (decideDuty k d f p w s) := by
  unfold decideDuty
  split
  · exact refuse_performed _ _ _
  · split
    · exact refuse_performed _ _ _
    · split
      · exact refuse_performed _ _ _
      · rename_i c _ hd
        split
        · exact answer_performed _ _
        · split
          · exact refuse_performed _ _ _
          · exact .dutyChanged k c d (by simpa using hd)

theorem doBook_performed (w : Option Nat) (f : BookFields) : Performed p s (doBook p w f s) := by
  unfold doBook
  split
  · exact refuse_performed _ _ _
  · split
    · exact refuse_performed _ _ _
    · split
      · exact refuse_performed _ _ _
      · split
        · exact refuse_performed _ _ _
        · split
          · exact refuse_performed _ _ _
          · exact .booked _ f ‹_›

theorem booking_of_bookingSeen {n : Nat} {b : Booking} (h : s.bookingSeen p n = some b) : s.booking n = some b :=
  (Option.filter_eq_some_iff.mp h).1

theorem doCancel_performed (n : Nat) : Performed p s (doCancel p n s) := by
  unfold doCancel
  split
  · exact refuse_performed _ _ _
  · split
    · exact refuse_performed _ _ _
    · split
      · exact refuse_performed _ _ _
      · rename_i b hb
        split
        · exact refuse_performed _ _ _
        · rename_i hu
          exact .cancelled n b (booking_of_bookingSeen hb) (by simpa using hu)

theorem doEnd_performed (c : Crane) : Performed (.c c) s (doEnd c s) := by
  unfold doEnd
  split
  · exact refuse_performed _ _ _
  · split
    · exact refuse_performed _ _ _
    · exact .ended c _ rfl ‹_›

theorem doStatus_performed (t n : Nat) : Performed p s (doStatus p t n s) := by
  unfold doStatus
  split
  · exact refuse_performed _ _ _
  · exact .readStatus _

theorem doTake_performed (x : Sup) : Performed (.s x) s (doTake x s) := by
  unfold doTake
  split
  · exact answer_performed _ _
  · split
    · exact .authorityGiven _ _ _
    · exact refuse_performed _ _ _

theorem doHandover_performed (x : Sup) : Performed (.s x) s (doHandover x s) := by
  unfold doHandover
  split
  · exact .authorityGiven _ _ _
  · exact refuse_performed _ _ _

theorem doRestart_performed (x : Sup) : Performed (.s x) s (doRestart x s) := by
  unfold doRestart
  split
  · exact answer_performed _ _
  · exact refuse_performed _ _ _

theorem doForceRelease_performed (x : Sup) (n : Nat) : Performed (.s x) s (doForceRelease x n s) := by
  unfold doForceRelease
  dsimp only
  split
  · exact refuse_performed _ _ _
  · split
    · exact refuse_performed _ _ _
    · split
      · exact refuse_performed _ _ _
      · split
        · exact refuse_performed _ _ _
        · exact .forced _ _ ‹_› _

theorem changeManual_performed (k : ReqKind) (f : Lines → Lines → Lines) (x : Sup) (n : Nat) (m : Lines) :
    Performed (.s x) s (changeManual k f x n m s) := by
  unfold changeManual
  dsimp only
  split
  · exact refuse_performed _ _ _
  · split
    · exact refuse_performed _ _ _
    · split
      · exact refuse_performed _ _ _
      · exact .manualPlaced _ _ _

theorem doSetSignal_performed (x : Sup) (n : Nat) (g : RawSignal) : Performed (.s x) s (doSetSignal x n g s) := by
  unfold doSetSignal
  dsimp only
  split
  · exact refuse_performed _ _ _
  · split
    · exact .signalSet _ _ _
    · exact refuse_performed _ _ _

theorem doSetInput_performed (x : Sup) (c i e : Nat) : Performed (.s x) s (doSetInput x c i e s) := by
  unfold doSetInput
  dsimp only
  split
  · exact refuse_performed _ _ _
  · split
    · exact .edgesSelected _ _ _ _
    · exact refuse_performed _ _ _

theorem doRule_performed (n r : Nat) : Performed p s (doRule p n r s) := by
  unfold doRule
  split
  · exact refuse_performed _ _ _
  · split
    · split
      · exact .ruled n _ _ ‹_› ‹_›
      · exact refuse_performed _ _ _
    · exact .ignored

theorem doAbort_performed (n : Nat) : Performed p s (doAbort p n s) := by
  unfold doAbort
  split
  · exact refuse_performed _ _ _
  · split
    · split
      · exact .released n _ _ _ _ ‹_› ‹_›
      · exact refuse_performed _ _ _
    · exact .ignored

theorem doFinish_performed (n : Nat) : Performed p s (doFinish p n s) := by
  unfold doFinish
  split
  · exact refuse_performed _ _ _
  · split
    · split
      · rename_i b hb hi
        exact .released n b _ _ _ hb (by rw [hi]; rfl)
      · exact refuse_performed _ _ _
    · exact .ignored

theorem doSetClock_performed (x : Sup) (v : Nat) : Performed (.s x) s (doSetClock (.s x) v s) := by
  unfold doSetClock
  split
  · exact refuse_performed _ _ _
  · exact .clockSet x v rfl

theorem doSiteStop_performed (x : Sup) : Performed (.s x) s (doSiteStop x s) := by
  unfold doSiteStop
  dsimp only
  split
  · exact refuse_performed _ _ _
  · split
    · exact answer_performed _ _
    · exact .siteStopped x rfl _

theorem doResume_performed (x : Sup) : Performed (.s x) s (doResume x s) := by
  unfold doResume
  dsimp only
  split
  · exact refuse_performed _ _ _
  · split
    · exact .flagCleared _
    · split
      · rename_i h
        exact .resumed x rfl _ h.1
      · exact refuse_performed _ _ _

theorem doSetWind_performed (x : Sup) (t : Thresholds) : Performed (.s x) s (doSetWind x t s) := by
  unfold doSetWind
  dsimp only
  split
  · exact refuse_performed _ _ _
  · split
    · exact refuse_performed _ _ _
    · exact .windSet _ _ _

theorem doSetCal_performed (x : Sup) (k : RawCal) : Performed (.s x) s (doSetCal x k s) := by
  unfold doSetCal
  dsimp only
  split
  · exact refuse_performed _ _ _
  · split
    · exact refuse_performed _ _ _
    · exact .calSet _ _ _

/-- A staging request past its checks replaces the staged map and the staged parameters alone. -/
def stagesOnly (f : MapUnit → Option (MapUnit × Result)) : Prop :=
  ∀ u m r, f u = some (m, r) → ∃ b v, m = { u with staged := b, stagedParams := v }

theorem stage_performed (k : ReqKind) (x : Sup) {f : MapUnit → Option (MapUnit × Result)} (hf : stagesOnly f) :
    Performed (.s x) s (stage k x f s) := by
  unfold stage
  split
  · exact refuse_performed _ _ _
  · split
    · exact refuse_performed _ _ _
    · rename_i m r h
      obtain ⟨b, v, rfl⟩ := hf _ _ _ h
      exact .staged b v _

theorem doStageClear_performed (x : Sup) : Performed (.s x) s (doStageClear x s) :=
  stage_performed _ x fun _ _ _ h => by
    obtain ⟨rfl, -⟩ := Prod.mk.inj (Option.some.inj h)
    exact ⟨_, _, rfl⟩

theorem doStageCopy_performed (x : Sup) : Performed (.s x) s (doStageCopy x s) :=
  stage_performed _ x fun _ _ _ h => by
    obtain ⟨rfl, -⟩ := Prod.mk.inj (Option.some.inj h)
    exact ⟨_, _, rfl⟩

theorem doStageCrane_performed (x : Sup) (n : Nat) (d : Option Decl) : Performed (.s x) s (doStageCrane x n d s) :=
  stage_performed _ x fun u m r h => by
    obtain ⟨c, -, hc⟩ := Option.map_eq_some_iff.mp h
    obtain ⟨rfl, -⟩ := Prod.mk.inj hc
    exact ⟨_, u.stagedParams, rfl⟩

theorem doStageCell_performed (x : Sup) (n : Nat) (l : List RawRecord) : Performed (.s x) s (doStageCell x n l s) :=
  stage_performed _ x fun u m r h => by
    split at h
    · obtain ⟨ds, -, hc⟩ := Option.map_eq_some_iff.mp h
      obtain ⟨rfl, -⟩ := Prod.mk.inj hc
      exact ⟨_, u.stagedParams, rfl⟩
    · cases h

theorem doStageRemoveCell_performed (x : Sup) (n : Nat) : Performed (.s x) s (doStageRemoveCell x n s) :=
  stage_performed _ x fun u m r h => by
    obtain ⟨k, -, hc⟩ := Option.map_eq_some_iff.mp h
    obtain ⟨rfl, -⟩ := Prod.mk.inj hc
    exact ⟨_, u.stagedParams, rfl⟩

theorem doStageSite_performed (x : Sup) (v : RawParams) : Performed (.s x) s (doStageSite x v s) :=
  stage_performed _ x fun u m r h => by
    obtain ⟨k, -, hc⟩ := Option.map_eq_some_iff.mp h
    obtain ⟨rfl, -⟩ := Prod.mk.inj hc
    exact ⟨u.staged, _, rfl⟩

theorem isPending_eq_false_iff (m : MapUnit) : isPending m = false ↔ m.commit = .idle := by
  unfold isPending
  cases m.commit <;> simp

/-- A staging request or COMMIT past its common checks finds no commit pending. -/
theorem commit_idle_of_stageChecks {x : Sup} (h : firstRefusal (stageChecks s (.s x)) = none) :
    s.map.commit = .idle := by
  have hc := firstRefusal_none h (isPending s.map, .commitPending) (by simp [stageChecks])
  exact (isPending_eq_false_iff s.map).mp hc

theorem doCommit_performed (x : Sup) : Performed (.s x) s (doCommit x s) := by
  unfold doCommit
  split
  · exact refuse_performed _ _ _
  · split
    · exact refuse_performed _ _ _
    · exact .committed (commit_idle_of_stageChecks ‹_›)

theorem doCommitCancel_performed (x : Sup) : Performed (.s x) s (doCommitCancel x s) := by
  unfold doCommitCancel
  split
  · exact refuse_performed _ _ _
  · exact .commitCancelled _

theorem named_performed {k : ReqKind} {w : Option Nat} {f : State → State} (h : Performed p s (f s)) :
    Performed p s (named p k w s f) := by
  unfold named
  split
  · exact h
  · exact refuse_performed _ _ _

theorem onSup_performed {k : ReqKind} {f : Sup → State → State} (h : ∀ x, Performed (.s x) s (f x s)) :
    Performed p s (onSup p k s f) := by
  cases p with
  | c c => exact refuse_performed _ _ _
  | s x => exact h x

theorem onCrane_performed {k : ReqKind} {f : Crane → State → State} (h : ∀ c, Performed (.c c) s (f c s)) :
    Performed p s (onCrane p k s f) := by
  cases p with
  | c c => exact h c
  | s x => exact refuse_performed _ _ _

end

/-- Every request at a port has one of the effects of `Performed`. -/
theorem perform_performed (p : Port) (r : Request) (s : State) : Performed p s (perform p r s) := by
  cases r
  case report => exact onCrane_performed fun _ => doReport_performed _ _
  case enter => exact named_performed (doEnter_performed _ _)
  case leave => exact named_performed (doLeave_performed _ _)
  case book => exact named_performed (doBook_performed _ _)
  case cancel => exact doCancel_performed _
  case endLift => exact onCrane_performed fun _ => doEnd_performed _
  case park => exact named_performed (decideDuty_performed _ _ _ _)
  case service => exact named_performed (decideDuty_performed _ _ _ _)
  case oos => exact named_performed (decideDuty_performed _ _ _ _)
  case status => exact doStatus_performed _ _
  case noticeMask => exact onSup_performed fun _ => .masked _ _
  case take => exact onSup_performed fun _ => doTake_performed _
  case handover => exact onSup_performed fun _ => doHandover_performed _
  case restart => exact onSup_performed fun _ => doRestart_performed _
  case forceRelease => exact onSup_performed fun _ => doForceRelease_performed _ _
  case inhibitSet => exact onSup_performed fun _ => changeManual_performed _ _ _ _ _
  case inhibitClear => exact onSup_performed fun _ => changeManual_performed _ _ _ _ _
  case setSignal => exact onSup_performed fun _ => doSetSignal_performed _ _ _
  case setInput => exact onSup_performed fun _ => doSetInput_performed _ _ _ _
  case rule =>
    cases p with
    | c c => exact refuse_performed _ _ _
    | s x => exact doRule_performed _ _
  case abort =>
    cases p with
    | c c => exact refuse_performed _ _ _
    | s x => exact doAbort_performed _
  case finish =>
    cases p with
    | c c => exact refuse_performed _ _ _
    | s x => exact doFinish_performed _
  case setClock =>
    cases p with
    | c c => exact refuse_performed _ _ _
    | s x => exact doSetClock_performed _ _
  case siteStop => exact onSup_performed fun _ => doSiteStop_performed _
  case resume => exact onSup_performed fun _ => doResume_performed _
  case setWind => exact onSup_performed fun _ => doSetWind_performed _ _
  case setCal => exact onSup_performed fun _ => doSetCal_performed _ _
  case stageClear => exact onSup_performed fun _ => doStageClear_performed _
  case stageCopy => exact onSup_performed fun _ => doStageCopy_performed _
  case stageCrane => exact onSup_performed fun _ => doStageCrane_performed _ _ _
  case stageCell => exact onSup_performed fun _ => doStageCell_performed _ _ _
  case stageRemoveCell => exact onSup_performed fun _ => doStageRemoveCell_performed _ _
  case stageSite => exact onSup_performed fun _ => doStageSite_performed _ _
  case commit => exact onSup_performed fun _ => doCommit_performed _
  case commitCancel => exact onSup_performed fun _ => doCommitCancel_performed _

/-- A frame judged at its port has one of the effects of a request. -/
theorem judge_performed (p : Port) (f : Frame) (s : State) : Performed p s (judge p f s) := by
  cases f with
  | request r => exact perform_performed p r s
  | badKind k => exact .responded _
  | badLength k => exact .responded _
  | badReport => exact .ignored

/-! ### What a step can do -/

/-- The machine's own events, of which every step is a chain. -/
inductive Event : State → State → Prop
  | queued (s : State) (l : List Instr) : Event s { s with pending := l }
  | transmitted (s : State) : Event s s.transmit
  | received (s : State) (p : Port) (r : Option (List Byte)) (hr : rxBounded (s.port p).rx → rxBounded r) :
      Event s (setRx p r s)
  | buffered (s : State) (p : Port) (f : Frame) : Event s (s.modPort p (queueFrame f))
  | taken (s : State) (p : Port) (f : Frame) (l : List Frame) (hb : (s.port p).buffer = f :: l) :
      Event s (s.modPort p fun q => { q with buffer := l })
  | performed (s t : State) (p : Port) (hr : s.phase = .running) (h : Performed p s t) : Event s t
  | responseSent (s : State) (p : Port) (h : (s.port p).tx = .response) :
      Event s (s.modPort p fun q => { q with slot := none, tx := .free })
  | restartAwaited (s : State) : Event s { s with restartReady := true }
  | noticeSent (s : State) (p : Port) (h : (s.port p).tx = .notice) :
      Event s (s.modPort p fun q => { q with notices := q.notices.tail, tx := .free })
  | resetTaken (s : State) (k : ResetCause) : Event s (takeReset k s)
  | supplyFailed (s : State) (corrupt : Bool) : Event s (supplyFails corrupt s)
  | startedUp (s : State) (h : s.phase = .resetting) : Event s (startUp s)
  | secondCounted (s : State) (h : s.phase = .resetting) : Event s (countSecond s)
  | written (s : State) (good : Bool) : Event s (writeEnds good s)
  | parkSw (s : State) (c : Crane) (b : Bool) (hr : s.phase = .running) : Event s (parkSwTaken c b s)
  | vaneFb (s : State) (c : Crane) (b : Bool) (hr : s.phase = .running) : Event s (vaneFbTaken c b s)
  | takeKey (s : State) (k : Level) : Event s { s with takeKey := k }
  | pulsed (s : State) (ch : Channel) (n : Nat) : Event s (s.setMeas (pulseAt s.meas ch n))
  | sampled (s : State) (hr : s.phase = .running) : Event s (takeSample s)
  | parkTimer (s : State) (hr : s.phase = .running) : Event s (parkTimerEnds s)
  | silence (s : State) (c : Crane) (hr : s.phase = .running) : Event s (silenceEnds c s)
  | lost (s : State) (c : Crane) (hr : s.phase = .running) : Event s (lostEnds c s)
  | waitTimer (s : State) (x : CellNo) (c : Crane) (hr : s.phase = .running) : Event s (waitEnds x c s)
  | recallTimer (s : State) (x : CellNo) (hr : s.phase = .running) : Event s (recallEnds x s)
  | second (s : State) (hr : s.phase = .running) : Event s (secondPasses s)
  | commitTimer (s : State) (hr : s.phase = .running) : Event s (commitTimerEnds s)
  | feedbackTimer (s : State) (c : Crane) (hr : s.phase = .running) : Event s (feedbackTimerEnds c s)
  | pulseStopped (s : State) (l : SigLine) : Event s (s.modSig l pulseStops)
  | flashTurned (s : State) (l : SigLine) : Event s (s.modSig l flashTurns)
  | ticked (s : State) : Event s (tick s)

/-- A chain of events. -/
abbrev Events : State → State → Prop := Relation.ReflTransGen Event

/-- What every event keeps, a chain of events keeps. -/
theorem Events.keeps {P : State → Prop} (h : ∀ s t, Event s t → P s → P t) {s t : State} (he : Events s t) (hs : P s) :
    P t := by
  induction he with
  | refl => exact hs
  | tail _ e ih => exact h _ _ e ih

theorem Events.of {s t : State} (h : Event s t) : Events s t := .single h

theorem events_foldl {α : Type} {f : State → α → State} (h : ∀ s a, Events s (f s a)) (l : List α) (s : State) :
    Events s (l.foldl f s) := by
  induction l generalizing s with
  | nil => exact .refl
  | cons a l ih => exact (h s a).trans (ih _)

/-- The phase is kept by a request. -/
theorem judge_phase (p : Port) (f : Frame) (s : State) : (judge p f s).phase = s.phase := by
  have h : (judge p f s).shell = s.shell := by
    cases f with
    | request r => exact perform_shell p r s
    | badKind k => exact respond_shell _ _ _
    | badLength k => exact respond_shell _ _ _
    | badReport => rfl
  have hp : (judge p f s).shell.phase = s.shell.phase := congrArg State.phase h
  exact hp

theorem takeFrame_phase (p : Port) (s : State) : (takeFrame p s).phase = s.phase := by
  unfold takeFrame
  split
  · rfl
  · split
    · rfl
    · rw [judge_phase]; rfl

theorem takeFrame_events {s : State} (p : Port) (hr : s.phase = .running) : Events s (takeFrame p s) := by
  unfold takeFrame
  split
  · exact .refl
  · split
    · exact .refl
    · rename_i f l hb
      exact (Events.of (.taken s p f l hb)).tail (.performed _ _ p hr (judge_performed p f _))

theorem takeFrames_events {s : State} (p : Port) (hr : s.phase = .running) : Events s (takeFrames p s) :=
  (takeFrame_events p hr).trans (takeFrame_events p (by rw [takeFrame_phase, hr]))

theorem takeFrames_phase (p : Port) (s : State) : (takeFrames p s).phase = s.phase := by
  rw [takeFrames, takeFrame_phase, takeFrame_phase]

theorem deliver_events {s : State} (p : Port) (f : Frame) (hr : s.phase = .running) : Events s (deliver p f s) :=
  .head (.buffered s p f) (takeFrames_events p hr)

theorem frameEnds_events {s : State} (p : Port) (l : List Byte) (hr : s.phase = .running) :
    Events s (frameEnds p l s) := by
  unfold frameEnds
  split
  · split
    · exact deliver_events p _ hr
    · exact .refl
  · exact .refl

theorem rxByte_events {s : State} (p : Port) (b : Byte) (hr : s.phase = .running) : Events s (rxByte p s b) := by
  unfold rxByte
  split
  · split
    · exact .of (.received s p _ fun _ => trivial)
    · exact .refl
  · split
    · rename_i hb
      exact .of (.received s p _ fun _ => ⟨hb.1, hb.2, by simp⟩)
    · exact .of (.received s p _ fun _ => trivial)
  · rename_i len got hrx
    dsimp only
    split
    · rename_i hl
      refine .of (.received s p _ fun h => ?_)
      rw [hrx] at h
      exact ⟨h.1, h.2.1, by simpa using hl⟩
    · exact .head (.received s p none fun _ => trivial) (frameEnds_events p _ hr)

theorem rxByte_phase (p : Port) (s : State) (b : Byte) : (rxByte p s b).phase = s.phase := by
  have hd : ∀ f s, (deliver p f s).phase = s.phase := fun f s => takeFrames_phase p _
  unfold rxByte frameEnds
  split
  · split <;> rfl
  · split <;> rfl
  · dsimp only
    split
    · rfl
    · split
      · split
        · rw [hd]; rfl
        · rfl
      · rfl

theorem rxBytes_events {s : State} (p : Port) (l : List Byte) (hr : s.phase = .running) :
    Events s (l.foldl (rxByte p) s) := by
  induction l generalizing s with
  | nil => exact .refl
  | cons b l ih => exact (rxByte_events p b hr).trans (ih (by rw [rxByte_phase, hr]))

theorem responseEnds_events {s : State} (p : Port) (hr : s.phase = .running) : Events s (responseEnds p s) := by
  unfold responseEnds
  split
  · rename_i h
    dsimp only
    split
    · exact .head (.responseSent s p h) (Events.of (.restartAwaited _))
    · exact .head (.responseSent s p h) (takeFrames_events p hr)
  · exact .refl

theorem noticeEnds_events (s : State) (p : Port) : Events s (noticeEnds p s) := by
  unfold noticeEnds
  split
  · exact .of (.noticeSent s p ‹_›)
  · exact .refl

theorem whenRunning_events {s : State} {f : State → State} (h : s.phase = .running → Events s (f s)) :
    Events s (whenRunning f s) := by
  unfold whenRunning
  split
  · exact (h ‹_›).tail (.transmitted _)
  · exact .refl

theorem arrive_events (s : State) (p : Port) (r : Request) : Events s (arrive p r s) :=
  whenRunning_events fun hr => deliver_events p _ hr

theorem sampleIf_events {s : State} (b : Bool) (hr : s.phase = .running) : Events s (sampleIf b s) := by
  unfold sampleIf
  split
  · exact .of (.sampled s hr)
  · exact .refl

/-- Every command is a chain of events. -/
theorem exec_events (i : Instr) (s t : State) (h : exec i s = .next t) : Events s t := by
  have hreq : ∀ p r, arrive p r s = t → Events s t := fun p r e => e ▸ arrive_events s p r
  cases i <;> injection h with h
  case badKind p k b =>
    subst h
    refine whenRunning_events fun hr => ?_
    unfold badKindArrives
    split
    · exact deliver_events p _ hr
    · exact .refl
  case frameReceived p l => exact h ▸ whenRunning_events fun hr => rxBytes_events p l hr
  case frameIdleTimeout p => exact h ▸ whenRunning_events fun hr => .of (.received s p none fun _ => trivial)
  case responseSent p => exact h ▸ whenRunning_events fun hr => responseEnds_events p hr
  case noticeSent p => exact h ▸ whenRunning_events fun _ => noticeEnds_events s p
  case powerOnReset => exact h ▸ .of (.resetTaken s .power)
  case panelReset =>
    subst h
    unfold panelPressed
    split
    · exact .of (.resetTaken s _)
    · split
      · exact .refl
      · exact .of (.resetTaken s _)
    · exact .refl
  case restartReset =>
    subst h
    unfold restartTaken
    split
    · exact .of (.resetTaken s _)
    · exact .refl
  case startUp =>
    subst h
    unfold startIfIdle
    split
    · rename_i hs
      exact .of (.startedUp s hs.1)
    · exact .refl
  case parkSwEdge c b => exact h ▸ whenRunning_events fun hr => .of (.parkSw s c b hr)
  case vaneFbEdge c b => exact h ▸ whenRunning_events fun hr => .of (.vaneFb s c b hr)
  case takeKeyTaken b => exact h ▸ whenRunning_events fun _ => .of (.takeKey s _)
  case anemPulse ch n => exact h ▸ whenRunning_events fun _ => .of (.pulsed s ch n)
  case sample => exact h ▸ whenRunning_events fun hr => .of (.sampled s hr)
  case faultHigh => exact h ▸ whenRunning_events fun hr => sampleIf_events _ hr
  case faultStuck => exact h ▸ whenRunning_events fun hr => sampleIf_events _ hr
  case channelClearRunReached => exact h ▸ whenRunning_events fun hr => sampleIf_events _ hr
  case blockComplete => exact h ▸ whenRunning_events fun hr => sampleIf_events _ hr
  case alertCalmReached => exact h ▸ whenRunning_events fun hr => sampleIf_events _ hr
  case holdCalmReached => exact h ▸ whenRunning_events fun hr => sampleIf_events _ hr
  case stopCalmReached => exact h ▸ whenRunning_events fun hr => sampleIf_events _ hr
  case resumeReady => exact h ▸ whenRunning_events fun hr => sampleIf_events _ hr
  case parkTimeout => exact h ▸ whenRunning_events fun hr => .of (.parkTimer s hr)
  case silenceLimitExpiry c => exact h ▸ whenRunning_events fun hr => .of (.silence s c hr)
  case lostLimitExpiry c => exact h ▸ whenRunning_events fun hr => .of (.lost s c hr)
  case waitExpired x c => exact h ▸ whenRunning_events fun hr => .of (.waitTimer s x c hr)
  case recallOverdue x => exact h ▸ whenRunning_events fun hr => .of (.recallTimer s x hr)
  case clockSecond =>
    subst h
    unfold secondRow
    split
    · exact whenRunning_events fun hr => .of (.second s hr)
    · exact .of (.secondCounted s ‹_›)
    · exact .refl
  case commitExpired => exact h ▸ whenRunning_events fun hr => .of (.commitTimer s hr)
  case storeWriteDone good =>
    subst h
    unfold writeRow
    split
    · exact whenRunning_events fun _ => .of (.written s good)
    · exact .of (.written s good)
    · exact .refl
  case vaneFault c => exact h ▸ whenRunning_events fun hr => .of (.feedbackTimer s c hr)
  case pulseEnd l => exact h ▸ whenRunning_events fun _ => .of (.pulseStopped s l)
  case flashPhase l => exact h ▸ whenRunning_events fun _ => .of (.flashTurned s l)
  case startByte p => exact h ▸ whenRunning_events fun hr => rxByte_events p _ hr
  case lossOfSupply b => exact h ▸ .of (.supplyFailed s b)
  all_goals exact hreq _ _ h

/-- Every step is a chain of events. -/
theorem step_events {s t : State} (h : step s = .next t) : Events s t := by
  unfold step at h
  split at h
  · exact .head (.queued s _) (exec_events _ _ _ h)
  · unfold idle at h
    split at h
    · exact exec_events _ _ _ h
    · injection h with h
      exact h ▸ .of (.ticked s)

/-- What every event keeps, every step keeps. -/
theorem step_keeps {P : State → Prop} (h : ∀ s t, Event s t → P s → P t) {s t : State} (hs : P s)
    (hst : step s = .next t) : P t := (step_events hst).keeps h hs

end Sys2Proof.Machine.Laws

/-! SUPPORT. The measurement state stays within its bounds (R99 to R106): it changes at pulses, at samples, by SETWIND
and SETCAL, at start-up and as the gate runs, and nowhere else. -/

namespace Sys2Proof.Machine.Laws

/-! ### Where the measurement state is left alone -/

theorem meas_of_core {s t : State} (h : t.core = s.core) : t.meas = s.meas := by
  have hm : t.core.meas = s.core.meas := congrArg State.meas h
  exact hm

theorem giveAuthority_meas (s : State) (x : Sup) (m : AuthorityMove) : (giveAuthority s x m).meas = s.meas := rfl

theorem storeReport_core (s : State) (c : Crane) (d : Decl) (r : RawReport) : (storeReport s c d r).core = s.core := by
  unfold storeReport
  dsimp only
  split
  · rfl
  · rw [setLink_core]; rfl

theorem takeReport_core (s : State) (c : Crane) (d : Decl) (r : RawReport) : (takeReport s c d r).core = s.core := by
  simp only [takeReport, conclude_core, touchService_core, formTouch_core, fullComputation_core, storeReport_core]

theorem tellLeft_core (s : State) (p : Port) (c : Crane) (x : CellNo) : (tellLeft s p c x).core = s.core := by
  unfold tellLeft; split <;> simp

theorem forceFree_core (s : State) (x : CellNo) (g : Grant) : (forceFree s x g).core = s.core := by
  unfold forceFree
  dsimp only
  split
  · split <;> simp
  · simp

theorem placeManual_core (s : State) (p : Port) (c : Crane) (m : Lines) : (placeManual s p c m).core = s.core := by
  unfold placeManual
  dsimp only
  split <;> simp

theorem configureLine_core (s : State) (l : SigLine) (g : SigCfg) : (configureLine s l g).core = s.core := by
  simp [configureLine]

theorem selectEdges_core (s : State) (c : Crane) (i : Input) (e : EdgeSel) : (selectEdges s c i e).core = s.core := by
  unfold selectEdges; split <;> rfl

theorem acceptRuling_core (s : State) (b : Booking) : (acceptRuling s b).core = s.core := by
  unfold acceptRuling; split <;> simp

theorem withdrawReady_core (s : State) : (withdrawReady s).core = s.core := by
  unfold withdrawReady; split <;> simp

theorem siteStops_core (s : State) : (siteStops s).core = s.core := by
  unfold siteStops
  dsimp only
  split
  · simp
  · simp [withdrawReady_core]
  · simp

theorem makePending_core (s : State) (l : List CellNo) : (makePending s l).core = s.core := by simp [makePending]

theorem endCommit_core (s : State) (n : Notice) : (endCommit s n).core = s.core := by simp [endCommit, abandonCommit]

@[simp] theorem respond_meas (s : State) (p : Port) (r : Response) : (s.respond p r).meas = s.meas := rfl

theorem answer_meas (s : State) (p : Port) (k : ReqKind) (r : Result) : (s.answer p k r).meas = s.meas := rfl

/-- A request changes of the measurement state the pending threshold set and the waiting settings alone. -/
theorem Performed.meas {p : Port} {s t : State} (h : Performed p s t) :
    ∃ k w, t.meas = { s.meas with pendingSet := k, waiting := w } := by
  have same : ∀ u : State, u.core = s.core → ∃ k w, u.meas = { s.meas with pendingSet := k, waiting := w } :=
    fun u hu => ⟨s.meas.pendingSet, s.meas.waiting, by rw [meas_of_core hu]⟩
  have keep : ∀ (u : State) (r : Response), u.core = s.core →
      ∃ k w, (u.respond p r).meas = { s.meas with pendingSet := k, waiting := w } := fun u r hu => same u hu
  cases h with
  | ignored => exact same s rfl
  | responded r => exact keep s r rfl
  | readStatus r => exact ⟨s.meas.pendingSet, s.meas.waiting, rfl⟩
  | masked m r => exact ⟨s.meas.pendingSet, s.meas.waiting, rfl⟩
  | reported c d r => exact same _ (takeReport_core s c d r)
  | entered c x =>
    unfold acceptEnter
    split
    · exact keep _ _ (by simp)
    · exact keep _ _ (by simp [placeRequest])
  | left c x => exact keep _ _ (by simp [tellLeft_core])
  | booked c f =>
    unfold acceptBook
    dsimp only
    split
    · exact keep _ _ (by simp)
    · exact keep _ _ (by simp)
  | cancelled n b =>
    unfold acceptCancel
    dsimp only
    split
    · exact keep _ _ (by simp)
    · exact keep _ _ (by simp)
  | ended c b =>
    unfold endLift
    split
    · exact keep _ _ (by simp)
    · exact keep _ _ (by simp)
  | dutyChanged k c d => exact keep _ _ (by simp)
  | authorityGiven y m r => exact ⟨s.meas.pendingSet, s.meas.waiting, rfl⟩
  | forced x g hg r => exact keep _ _ (by simp [forceFree_core])
  | manualPlaced k c m => exact keep _ _ (placeManual_core s p c m)
  | signalSet l g r => exact keep _ _ (configureLine_core s l g)
  | edgesSelected c i e r => exact keep _ _ (selectEdges_core s c i e)
  | ruled n b a =>
    unfold giveRuling
    split
    · exact keep _ _ (acceptRuling_core s b)
    · exact keep _ _ (by simp)
  | released n b o q r => exact keep _ _ (by simp)
  | clockSet y v =>
    refine ⟨s.meas.pendingSet, s.meas.waiting, ?_⟩
    unfold acceptClock
    dsimp only
    rw [answer_meas, meas_of_core (notifyClass_core _ _ _), meas_of_core (compose_core _ _),
      meas_of_core (judgeBook_core _ _ _)]
    rfl
  | siteStopped y hp r => exact keep _ _ (by simp [siteStops_core])
  | flagCleared r => exact keep _ _ (by simp)
  | resumed y hp r => exact keep _ _ (by simp)
  | windSet k q r =>
    exact ⟨some k, s.meas.waiting, meas_of_core (notifyClass_core (s.setMeas { s.meas with pendingSet := some k }) _ _)⟩
  | calSet k q r =>
    exact ⟨s.meas.pendingSet, some k, meas_of_core (notifyClass_core
      (startWrite (s.setMeas { s.meas with waiting := some k }) (.calibration k)) _ _)⟩
  | staged m v r => exact ⟨s.meas.pendingSet, s.meas.waiting, rfl⟩
  | committed h =>
    unfold decideCommit
    dsimp only
    split
    · exact keep _ _ (by simp)
    · exact keep _ _ (makePending_core s _)
  | commitCancelled r => exact keep _ _ (endCommit_core s _)

/-! ### Samples -/

theorem announceChannel_core (ch : Channel) (a b : ChanStatus) (v : Bool) (s : State) :
    (announceChannel ch a b v s).core = s.core := by
  unfold announceChannel; split <;> simp

theorem announceChannels_core (a b : Meas) (s : State) : (announceChannels a b s).core = s.core := by
  simp [announceChannels, announceChannel_core]

theorem announceTable_core (m : Meas) (s : State) : (announceTable m s).core = s.core := by
  unfold announceTable; split <;> simp

theorem staysAt_core (s : State) (n : Nat) : (staysAt s n).core = s.core := by
  unfold staysAt
  dsimp only
  split <;> simp [withdrawReady_core]

theorem becomesReady_core (s : State) (n : Nat) : (becomesReady s n).core = s.core := by simp [becomesReady]

theorem applyStep_core (s : State) (w : WindStep) : (applyStep s w).core = s.core := by
  unfold applyStep
  split <;> simp [staysAt_core, becomesReady_core]

theorem takeSample_meas (s : State) : (takeSample s).meas = sampled s.meas := by
  unfold takeSample
  dsimp only
  rw [meas_of_core (conclude_core _ _), meas_of_core (applyStep_core _ _), meas_of_core (announceTable_core _ _)]
  rfl

/-! ### Bounds -/

theorem chanBounded_pulse {k : ChanRec} (h : chanBounded k) (n : Nat) : chanBounded (pulse k n) := by
  unfold pulse
  obtain ⟨hc, hl, hs, hh, hst, hcl⟩ := h
  split
  · exact ⟨by dsimp only; omega, hl, hs, hh, hst, hcl⟩
  · exact ⟨hc, hl, hs, hh, hst, hcl⟩

theorem speedOf_le (n k : Nat) : speedOf n k ≤ 999 := Nat.min_le_left _ _

theorem chanBounded_endGate {k : ChanRec} (h : chanBounded k) : chanBounded (endGate k) := by
  obtain ⟨hc, -, -, hh, hst, hcl⟩ := h
  exact ⟨Nat.zero_le _, by simpa [endGate] using hc, by simp [endGate, speedOf_le], hh, hst, hcl⟩

theorem chanBounded_validRuns {k : ChanRec} (h : chanBounded k) (n : Nat) (j : Bool) : chanBounded (validRuns k n j) := by
  obtain ⟨hc, hl, hs, hh, hst, hcl⟩ := h
  unfold validRuns
  extract_lets high stuck
  clear_value high stuck
  split
  · exact ⟨hc, hl, hs, by dsimp only; omega, by dsimp only; omega, by dsimp only; omega⟩
  · split
    · exact ⟨hc, hl, hs, by dsimp only; omega, by dsimp only; omega, by dsimp only; omega⟩
    · exact ⟨hc, hl, hs, by dsimp only; omega, by dsimp only; omega, hcl⟩

theorem chanBounded_clearRuns {k : ChanRec} (h : chanBounded k) (b : Bool) : chanBounded (clearRuns k b) := by
  obtain ⟨hc, hl, hs, hh, hst, hcl⟩ := h
  unfold clearRuns
  extract_lets run
  clear_value run
  split
  · exact ⟨hc, hl, hs, hh, hst, by dsimp only; omega⟩
  · exact ⟨hc, hl, hs, hh, hst, by dsimp only; omega⟩

theorem chanBounded_gateChannel {k : ChanRec} (h : chanBounded k) (j : Bool) : chanBounded (gateChannel k j) := by
  unfold gateChannel
  split
  · exact h
  · exact chanBounded_validRuns (chanBounded_endGate h) _ _
  · exact chanBounded_clearRuns (chanBounded_endGate h) _
  · exact chanBounded_clearRuns (chanBounded_endGate h) _

theorem chanBounded_reset (c : CalSetting) : chanBounded (ChanRec.reset c) := by
  simp [chanBounded, ChanRec.reset]

theorem chanBounded_applySetting {k : ChanRec} (h : chanBounded k) (c : CalSetting) : chanBounded (applySetting k c) := by
  unfold applySetting
  split
  · exact h
  · exact chanBounded_reset c

/-- The channels stay within their bounds through the gate's end and the settings that take effect there. -/
theorem chanBounded_applyWaiting {m : Meas} (ha : chanBounded m.a) (hb : chanBounded m.b) :
    chanBounded (applyWaiting m).a ∧ chanBounded (applyWaiting m).b := by
  unfold applyWaiting
  split
  · exact ⟨ha, hb⟩
  · exact ⟨chanBounded_applySetting ha _, chanBounded_applySetting hb _⟩

theorem partSpeed_le {k : ChanRec} (h : chanBounded k) : (partSpeed k).all (· ≤ 999) = true := by
  unfold partSpeed
  split
  · exact h.2.2.1
  · rfl

theorem largest_le {a b : Option Nat} (ha : a.all (· ≤ 999) = true) (hb : b.all (· ≤ 999) = true) :
    (largest a b).all (· ≤ 999) = true := by
  unfold largest
  split
  · simp_all
  · exact ha
  · exact hb

theorem getD_le {a : Option Nat} (h : a.all (· ≤ 999) = true) : a.getD 999 ≤ 999 := by
  cases a with
  | none => simp
  | some x => simpa using h

theorem length_pushRing_le {n : Nat} {l : List Nat} (hn : 0 < n) (h : l.length ≤ n) (e : Nat) :
    (pushRing n l e).length ≤ n := by
  unfold pushRing
  split
  · rw [List.length_append, List.length_singleton]; omega
  · rw [List.length_append, List.length_tail, List.length_singleton]; omega

theorem mem_pushRing {n : Nat} {l : List Nat} {e x : Nat} (h : x ∈ pushRing n l e) : x ∈ l ∨ x = e := by
  unfold pushRing at h
  split at h
  · simpa using h
  · rcases List.mem_append.mp h with h | h
    · exact .inl (List.mem_of_mem_tail h)
    · exact .inr (List.mem_singleton.mp h)

theorem sum_le_of_forall_le {l : List Nat} {b : Nat} (h : ∀ x ∈ l, x ≤ b) : l.sum ≤ b * l.length := by
  rw [Nat.mul_comm]
  simpa using List.sum_le_card_nsmul l b h

theorem average_le {l : List Nat} {b : Nat} (h : ∀ x ∈ l, x ≤ b) : average l ≤ b := by
  unfold average
  rcases Nat.eq_zero_or_pos l.length with h0 | hpos
  · simp [h0]
  · exact Nat.div_le_of_le_mul ((sum_le_of_forall_le h).trans_eq (Nat.mul_comm _ _))

/-- Steps 4 to 6 of a sample on channels within their bounds (R104 to R106). -/
theorem measBounded_form {m : Meas} (h : measBounded m) :
    measBounded (formBlock (formGust (formEffective m))) := by
  obtain ⟨ha, hb, -, hrl, hr, -, hac, hs, hml, hm, hmean⟩ := h
  have he : (largest (partSpeed m.a) (partSpeed m.b)).getD 999 ≤ 999 :=
    getD_le (largest_le (partSpeed_le ha) (partSpeed_le hb))
  set e := (largest (partSpeed m.a) (partSpeed m.b)).getD 999 with hedef
  have hring : ∀ x ∈ pushRing 12 m.ring e, x ≤ 999 := fun x hx =>
    (mem_pushRing hx).elim (hr x) fun hx => hx ▸ he
  have heff : (formGust (formEffective m)).effective.getD 999 = e := rfl
  have hacc : (formGust (formEffective m)).accCount = m.accCount := rfl
  unfold formBlock
  dsimp only
  rw [heff]
  split
  · rename_i hbound
    have hsum : (m.accSum + e) / 60 ≤ 999 := by omega
    have hmring : ∀ x ∈ pushRing 40 m.meanRing ((m.accSum + e) / 60), x ≤ 999 := fun x hx =>
      (mem_pushRing hx).elim (hm x) fun hx => hx ▸ hsum
    exact ⟨ha, hb, by simpa [formGust, formEffective] using he, length_pushRing_le (by omega) hrl e, hring,
      by simpa [formGust, formEffective] using average_le hring, by dsimp only; omega, by dsimp only; omega,
      length_pushRing_le (by omega) hml _, hmring, by simpa [formGust, formEffective] using average_le hmring⟩
  · rename_i hbound
    have hcount : m.accCount + 1 < 60 := by
      simp only [boundary, hacc, decide_eq_true_eq] at hbound
      omega
    exact ⟨ha, hb, by simpa [formGust, formEffective] using he, length_pushRing_le (by omega) hrl e, hring,
      by simpa [formGust, formEffective] using average_le hring, hcount,
      by simp only [formGust, formEffective]; omega, hml, hm, hmean⟩

theorem measBounded_sampled {m : Meas} (h : measBounded m) : measBounded (sampled m) := by
  obtain ⟨ha, hb, hrest⟩ := h
  have hw : measBounded (applyWaiting (gateChannels m)) := by
    obtain ⟨ka, kb⟩ := chanBounded_applyWaiting (m := gateChannels m) (chanBounded_gateChannel ha _)
      (chanBounded_gateChannel hb _)
    refine ⟨ka, kb, ?_⟩
    unfold applyWaiting
    split <;> exact hrest
  exact measBounded_form hw

theorem measBounded_reset (k : Cal) (t : Thresholds) : measBounded (Meas.reset k t) := by
  refine ⟨chanBounded_reset _, chanBounded_reset _, ?_⟩
  simp [Meas.reset]

theorem measBounded_pulseAt {m : Meas} (h : measBounded m) (ch : Channel) (n : Nat) : measBounded (pulseAt m ch n) := by
  obtain ⟨ha, hb, hrest⟩ := h
  cases ch with
  | a => exact ⟨chanBounded_pulse ha n, hb, hrest⟩
  | b => exact ⟨ha, chanBounded_pulse hb n, hrest⟩

/-! ### Every event -/

theorem startUp_meas (s : State) :
    (startUp s).meas = Meas.reset (s.store.calibration.getD Cal.default) (s.store.threshold.getD defaultThresholds) := by
  have hn : ∀ (u : State) (q : Port) (n : Notice), (u.notify q n).meas = u.meas := fun _ _ _ => rfl
  have ha : ∀ u : State, (applySignals u).meas = u.meas := fun _ => rfl
  unfold startUp
  dsimp only
  rw [transmit_meas, hn, hn, ha, foldl_keeps State.meas composeQuiet (fun _ _ => rfl),
    foldl_keeps State.meas formTouch (fun _ _ => rfl)]
  rfl

theorem tellEdge_core (c : Crane) (i : Input) (e : EdgeSel) (o : Level) (b : Bool) (s : State) :
    (tellEdge c i e o b s).core = s.core := by
  unfold tellEdge; split <;> simp

theorem tellParkLost_core (c : Crane) (b : Bool) (s : State) : (tellParkLost c b s).core = s.core := by
  unfold tellParkLost; split <;> simp

theorem parkSwTaken_core (c : Crane) (b : Bool) (s : State) : (parkSwTaken c b s).core = s.core := by
  unfold parkSwTaken
  dsimp only
  split
  · rfl
  · simp [tellParkLost_core, tellEdge_core]

theorem vaneFbTaken_core (c : Crane) (b : Bool) (s : State) : (vaneFbTaken c b s).core = s.core := by
  unfold vaneFbTaken
  dsimp only
  split
  · rfl
  · simp [tellEdge_core]

theorem tellNotParked_core (s : State) (c : Crane) : (tellNotParked s c).core = s.core := by
  unfold tellNotParked; split <;> simp

theorem parkTimerEnds_core (s : State) : (parkTimerEnds s).core = s.core := by
  unfold parkTimerEnds
  split
  · rw [conclude_core, foldl_core _ (fun b a => tellNotParked_core b a), moveWind_core]
  · rfl

theorem silenceEnds_core (c : Crane) (s : State) : (silenceEnds c s).core = s.core := by
  unfold silenceEnds; split <;> simp

theorem lostEnds_core (c : Crane) (s : State) : (lostEnds c s).core = s.core := by
  unfold lostEnds; split <;> simp

theorem waitEnds_core (x : CellNo) (c : Crane) (s : State) : (waitEnds x c s).core = s.core := by
  unfold waitEnds; split <;> simp

theorem tellOverdue_core (s : State) (x : CellNo) : (tellOverdue s x).core = s.core := by
  unfold tellOverdue; split <;> simp

theorem recallEnds_core (x : CellNo) (s : State) : (recallEnds x s).core = s.core := by
  unfold recallEnds; split <;> simp [tellOverdue_core]

theorem commitTimerEnds_core (s : State) : (commitTimerEnds s).core = s.core := by
  unfold commitTimerEnds; split <;> simp [endCommit_core]

theorem feedbackTimerEnds_core (c : Crane) (s : State) : (feedbackTimerEnds c s).core = s.core := by
  unfold feedbackTimerEnds; split <;> simp

theorem writeEnds_core (good : Bool) (s : State) : (writeEnds good s).core = s.core := by
  unfold writeEnds
  split
  · rfl
  · dsimp only
    split
    · rfl
    · split <;> simp

theorem secondPasses_meas (s : State) : (secondPasses s).meas = s.meas := by
  unfold secondPasses
  split
  · rw [meas_of_core (compose_core _ _), meas_of_core (secondChecks_core _ _)]; rfl
  · rfl

/-- Every event keeps the measurement state within its bounds. -/
theorem Event.measBounded {s t : State} (h : Event s t) (hm : measBounded s.meas) : measBounded t.meas := by
  have keep : t.core = s.core → Machine.measBounded t.meas := fun e => meas_of_core e ▸ hm
  cases h with
  | queued l => exact hm
  | transmitted => rw [transmit_meas]; exact hm
  | received p r => exact hm
  | buffered p f => exact hm
  | taken p f l => exact hm
  | performed _ p hr h =>
    obtain ⟨k, w, e⟩ := Performed.meas h
    rw [e]
    exact hm
  | responseSent p => exact hm
  | restartAwaited => exact hm
  | noticeSent p => exact hm
  | resetTaken k => exact hm
  | supplyFailed b => exact hm
  | startedUp => rw [startUp_meas]; exact measBounded_reset _ _
  | secondCounted =>
    unfold countSecond
    split <;> exact hm
  | written good => exact keep (writeEnds_core good s)
  | parkSw c b => exact keep (parkSwTaken_core c b s)
  | vaneFb c b => exact keep (vaneFbTaken_core c b s)
  | takeKey k => exact hm
  | pulsed ch n => exact measBounded_pulseAt hm ch n
  | sampled => rw [takeSample_meas]; exact measBounded_sampled hm
  | parkTimer => exact keep (parkTimerEnds_core s)
  | silence c => exact keep (silenceEnds_core c s)
  | lost c => exact keep (lostEnds_core c s)
  | waitTimer x c => exact keep (waitEnds_core x c s)
  | recallTimer x => exact keep (recallEnds_core x s)
  | second => rw [secondPasses_meas]; exact hm
  | commitTimer => exact keep (commitTimerEnds_core s)
  | feedbackTimer c => exact keep (feedbackTimerEnds_core c s)
  | pulseStopped l => exact hm
  | flashTurned l => exact hm
  | ticked =>
    unfold tick
    split <;> exact hm

/-- Settles O5: every event of a step keeps the bounds, the sample by those of each of its stages. -/
theorem measurementStaysBounded : Obligations.MeasurementStaysBounded := fun _ _ hm hst =>
  step_keeps (P := fun s => measBounded s.meas) (fun _ _ e => e.measBounded) hm hst

end Sys2Proof.Machine.Laws

/-! SUPPORT. What the blocks keep while they serve an event (R79): `Serves s t` says it once, and each shared operation
has one lemma that it serves so. -/

namespace Sys2Proof.Machine

/-- The port has only taken notices into its queue (R162). -/
def PortRec.TookNotices (q r : PortRec) : Prop := ∃ l : List Notice, r = l.foldl (fun k n => queueNotice n k) q

/-- What conflicts, order and bounds read of a booking. -/
def Booking.frame (b : Booking) : Nat × Crane × Nat × Nat × Nat × List CellNo :=
  (b.number, b.crane, b.start, b.duration, b.late, b.cells)

/-- The booking is `a` further on within an event: its frame is kept, and its state is, but that a DUE one may be
admitted and a lift go on. -/
def Booking.MovedFrom (b a : Booking) : Prop :=
  b.frame = a.frame
    ∧ (b.state = a.state ∨ (a.state = .due ∧ underWay b.state = true) ∨ (underWay a.state = true ∧ underWay b.state = true))

/-- Every booking of `k` is one of `j` further on. -/
def Book.MovedFrom (k j : Book) : Prop := ∀ b ∈ k.live, ∃ a ∈ j.live, b.MovedFrom a

/-- Every grant was the holder's before. -/
def gainsNone (s t : State) : Prop :=
  ∀ x g, (t.cell x).grant = some g → ∃ g0, (s.cell x).grant = some g0 ∧ g0.holder = g.holder

/-- The lift book with what the crane table and the cell table say of it. -/
def bookKept (s : State) : Prop := bookBounded s.book ∧ liftsUnderWay s ∧ claimsDue s

/-- What the blocks keep while they serve an event, whatever the state. -/
structure Passes (s t : State) : Prop where
  core : t.core = s.core
  notices : ∀ q, (s.port q).TookNotices (t.port q)
  sigs : t.sigs = s.sigs
  sources : t.sources = s.sources
  wind : t.wind = s.wind ∨ (s.wind.state = .stop ∧ t.wind = windMoved s.wind .vane .parked none)
  holders : s.windBars = true → gainsNone s t

/-- What the blocks keep while they serve an event: of a sound book too. -/
structure Serves (s t : State) : Prop extends Passes s t where
  next : t.book.next = s.book.next
  book : bookKept s → bookKept t ∧ t.book.MovedFrom s.book

/-! ### Reflexivity and transitivity -/

theorem PortRec.TookNotices.refl (q : PortRec) : q.TookNotices q := ⟨[], rfl⟩

theorem PortRec.TookNotices.trans {a b c : PortRec} (h : a.TookNotices b) (k : b.TookNotices c) : a.TookNotices c := by
  obtain ⟨l, rfl⟩ := h
  obtain ⟨m, rfl⟩ := k
  exact ⟨l ++ m, List.foldl_append.symm⟩

theorem Booking.MovedFrom.refl (b : Booking) : b.MovedFrom b := ⟨rfl, .inl rfl⟩

theorem Booking.MovedFrom.trans {a b c : Booking} (h : c.MovedFrom b) (k : b.MovedFrom a) : c.MovedFrom a := by
  obtain ⟨hf, hs⟩ := h
  obtain ⟨kf, ks⟩ := k
  refine ⟨hf.trans kf, ?_⟩
  rcases hs with hs | ⟨hs, hc⟩ | ⟨hs, hc⟩
  · rw [hs]; exact ks
  · rcases ks with ks | ⟨-, ks⟩ | ⟨-, ks⟩
    · exact .inr (.inl ⟨ks ▸ hs, hc⟩)
    · simp [hs, underWay] at ks
    · simp [hs, underWay] at ks
  · rcases ks with ks | ⟨ks, -⟩ | ⟨ks, -⟩
    · exact .inr (.inr ⟨ks ▸ hs, hc⟩)
    · exact .inr (.inl ⟨ks, hc⟩)
    · exact .inr (.inr ⟨ks, hc⟩)

theorem Book.MovedFrom.refl (k : Book) : k.MovedFrom k := fun b hb => ⟨b, hb, Booking.MovedFrom.refl b⟩

theorem Book.MovedFrom.trans {i j k : Book} (h : k.MovedFrom j) (h' : j.MovedFrom i) : k.MovedFrom i := by
  intro b hb
  obtain ⟨a, ha, hba⟩ := h b hb
  obtain ⟨c, hc, hac⟩ := h' a ha
  exact ⟨c, hc, hba.trans hac⟩

theorem gainsNone.refl (s : State) : gainsNone s s := fun _ g h => ⟨g, h, rfl⟩

theorem gainsNone.trans {s t u : State} (h : gainsNone s t) (k : gainsNone t u) : gainsNone s u := by
  intro x g hg
  obtain ⟨g1, h1, e1⟩ := k x g hg
  obtain ⟨g0, h0, e0⟩ := h x g1 h1
  exact ⟨g0, h0, e0.trans e1⟩

theorem Passes.refl (s : State) : Passes s s :=
  ⟨rfl, fun _ => PortRec.TookNotices.refl _, rfl, rfl, .inl rfl, fun _ => gainsNone.refl s⟩

theorem Passes.windBars {s t : State} (h : Passes s t) (hs : s.windBars = true) : t.windBars = true := by
  rcases h.wind with e | ⟨-, e⟩
  · rw [State.windBars, e]; exact hs
  · rw [State.windBars, e]; rfl

theorem Passes.trans {s t u : State} (h : Passes s t) (k : Passes t u) : Passes s u where
  core := k.core.trans h.core
  notices q := (h.notices q).trans (k.notices q)
  sigs := k.sigs.trans h.sigs
  sources := k.sources.trans h.sources
  wind := by
    rcases k.wind with e | ⟨e1, e2⟩
    · rw [e]; exact h.wind
    · rcases h.wind with e | ⟨e3, e4⟩
      · exact .inr ⟨e ▸ e1, e ▸ e2⟩
      · rw [e4] at e1; cases e1
  holders hs := (h.holders hs).trans (k.holders (h.windBars hs))

/-- A change that leaves ports, cells, signals and wind record passes. -/
theorem Passes.quiet {s t : State} (core : t.core = s.core) (ports : t.ports = s.ports) (sigs : t.sigs = s.sigs)
    (sources : t.sources = s.sources) (wind : t.wind = s.wind) (cells : t.cells = s.cells) : Passes s t := by
  have hport : ∀ q, t.port q = s.port q := fun q => by unfold State.port; rw [ports]
  have hcell : ∀ x, t.cell x = s.cell x := fun x => by unfold State.cell; rw [cells]
  exact ⟨core, fun q => ⟨[], hport q⟩, sigs, sources, .inl wind, fun _ x g hg => ⟨g, hcell x ▸ hg, rfl⟩⟩

theorem Serves.refl (s : State) : Serves s s := ⟨Passes.refl s, rfl, fun h => ⟨h, Book.MovedFrom.refl _⟩⟩

theorem Serves.windBars {s t : State} (h : Serves s t) (hs : s.windBars = true) : t.windBars = true :=
  h.toPasses.windBars hs

theorem Serves.trans {s t u : State} (h : Serves s t) (k : Serves t u) : Serves s u :=
  ⟨h.toPasses.trans k.toPasses, k.next.trans h.next, fun hs =>
    ⟨(k.book (h.book hs).1).1, (k.book (h.book hs).1).2.trans (h.book hs).2⟩⟩

/-! ### Claims of a cell record -/

/-- The claims of a cell record, covered or listed, are those of DUE bookings that name the cell. -/
def recClaimsDue (s : State) (x : CellNo) (k : CellRec) : Prop :=
  (∀ n ∈ k.covered, ∃ b ∈ s.book.live, dueNaming s x b ∧ b.number = n)
    ∧ ∀ e ∈ k.list, isRequest e = true ∨ ∃ b ∈ s.book.live, dueNaming s x b ∧ e = .claim b.number b.crane b.start

/-- The record has no claim that `k` does not have. -/
def CellRec.ClaimsWithin (j k : CellRec) : Prop :=
  (∀ n ∈ j.covered, n ∈ k.covered) ∧ ∀ e ∈ j.list, isRequest e = true ∨ e ∈ k.list

theorem recClaimsDue.mono {s : State} {x : CellNo} {j k : CellRec} (h : recClaimsDue s x k) (hj : j.ClaimsWithin k) :
    recClaimsDue s x j :=
  ⟨fun n hn => h.1 n (hj.1 n hn), fun e he => (hj.2 e he).elim .inl (h.2 e)⟩

/-- Claims are judged by the book alone. -/
theorem recClaimsDue_congr {s t : State} (h : t.book = s.book) (x : CellNo) (k : CellRec) :
    recClaimsDue t x k ↔ recClaimsDue s x k := by
  unfold recClaimsDue dueNaming State.booking
  rw [h]

theorem claimsDue_iff (s : State) : claimsDue s ↔ ∀ x, recClaimsDue s x (s.cell x) := Iff.rfl

/-- A change that leaves ports, cells, signals, wind and book, and the cranes' bookings or drops them, serves. -/
theorem Serves.quiet {s t : State} (core : t.core = s.core) (ports : t.ports = s.ports) (sigs : t.sigs = s.sigs)
    (sources : t.sources = s.sources) (wind : t.wind = s.wind) (book : t.book = s.book) (cells : t.cells = s.cells)
    (lifts : ∀ c, (∀ n ∈ (t.crane c).lift, n ∈ (s.crane c).lift) ∧ ∀ n ∈ (t.crane c).due, n ∈ (s.crane c).due) :
    Serves s t := by
  have hcell : ∀ x, t.cell x = s.cell x := fun x => by unfold State.cell; rw [cells]
  have hbooking : ∀ n, t.booking n = s.booking n := fun n => by unfold State.booking; rw [book]
  refine ⟨Passes.quiet core ports sigs sources wind cells, by rw [book], fun ⟨hb, hl, hc⟩ =>
    ⟨⟨by rw [book]; exact hb, fun c => ?_, fun x => ?_⟩, by rw [book]; exact Book.MovedFrom.refl _⟩⟩
  · obtain ⟨l1, l2⟩ := lifts c
    obtain ⟨k1, k2⟩ := hl c
    exact ⟨fun n hn => hbooking n ▸ k1 n (l1 n hn), fun n hn => hbooking n ▸ k2 n (l2 n hn)⟩
  · exact (recClaimsDue_congr book x _).mpr (hcell x ▸ hc x)

namespace Laws

theorem windBars_iff (s : State) : s.windBars = true ↔ s.wind.state = .stop ∨ s.wind.state = .vane := by
  simp [State.windBars]

theorem claimsWithin_of_sublist {j k : CellRec} (hc : j.covered = k.covered) (hl : ∀ e ∈ j.list, e ∈ k.list) :
    j.ClaimsWithin k := ⟨fun _ hn => hc ▸ hn, fun e he => .inr (hl e he)⟩

theorem serves_foldl {α : Type} {f : State → α → State} (h : ∀ s a, Serves s (f s a)) (l : List α) (s : State) :
    Serves s (l.foldl f s) := by
  induction l generalizing s with
  | nil => exact Serves.refl s
  | cons a l ih => exact (h s a).trans (ih _)

/-! ### Elementary changes -/

theorem serves_notify (s : State) (p : Port) (n : Notice) : Serves s (s.notify p n) := by
  refine ⟨⟨notify_core s p n, fun q => ?_, rfl, rfl, .inl rfl, fun _ => gainsNone.refl s⟩,
    rfl, fun h => ⟨h, Book.MovedFrom.refl _⟩⟩
  rw [State.notify, port_modPort]
  split
  · rename_i h; subst h; exact ⟨[n], rfl⟩
  · exact PortRec.TookNotices.refl _

theorem serves_notifySup (s : State) (k : NoticeClass) (n : Notice) (x : Sup) : Serves s (s.notifySup k n x) := by
  unfold State.notifySup
  split
  · exact serves_notify _ _ _
  · exact Serves.refl s

theorem serves_notifyClass (s : State) (k : NoticeClass) (n : Notice) : Serves s (s.notifyClass k n) :=
  (serves_notifySup s k n .s1).trans (serves_notifySup _ k n .s2)

theorem serves_notifyBoth (s : State) (c : Crane) (k : NoticeClass) (n : Notice) : Serves s (s.notifyBoth c k n) :=
  (serves_notify s (.c c) n).trans (serves_notifyClass _ k n)

theorem serves_notifyBookingSup (s : State) (o : Port) (n : Notice) (x : Sup) : Serves s (s.notifyBookingSup o n x) := by
  unfold State.notifyBookingSup
  split
  · exact serves_notify _ _ _
  · exact Serves.refl s

theorem serves_notifyBooking (s : State) (b : Booking) (n : Notice) : Serves s (s.notifyBooking b n) :=
  ((serves_notify s (.c b.crane) n).trans (serves_notifyBookingSup _ b.origin n .s1)).trans
    (serves_notifyBookingSup _ b.origin n .s2)

theorem serves_announceWind (s : State) (w : WindState) : Serves s (announceWind s w) :=
  (serves_foldl (fun _ _ => serves_notify _ _ _) _ s).trans (serves_notifyClass _ _ _)

/-- A change of one cell record serves where it gives the cell to nobody while the wind bars grants, and leaves no claim
but those of DUE bookings that name the cell. -/
theorem serves_modCell {s : State} {x : CellNo} {f : CellRec → CellRec}
    (hg : s.windBars = true → ∀ g, (f (s.cell x)).grant = some g →
      ∃ g0, (s.cell x).grant = some g0 ∧ g0.holder = g.holder)
    (hc : bookKept s → recClaimsDue s x (f (s.cell x))) : Serves s (s.modCell x f) := by
  refine ⟨⟨rfl, fun _ => PortRec.TookNotices.refl _, rfl, rfl, .inl rfl, fun hw y g hy => ?_⟩,
    rfl, fun h => ⟨⟨h.1, h.2.1, fun y => ?_⟩, Book.MovedFrom.refl _⟩⟩
  · rw [cell_modCell] at hy
    split at hy
    · rename_i e; subst e; exact hg hw g hy
    · exact ⟨g, hy, rfl⟩
  · have hy : recClaimsDue s y ((s.modCell x f).cell y) := by
      rw [cell_modCell]
      split
      · rename_i e; subst e; exact hc h
      · exact h.2.2 y
    exact (recClaimsDue_congr rfl y _).mpr hy

/-- A change of a cell record that keeps its grant and adds no claim serves. -/
theorem serves_modCell_list {s : State} {x : CellNo} {f : CellRec → CellRec}
    (hg : (f (s.cell x)).grant = (s.cell x).grant) (hc : (f (s.cell x)).ClaimsWithin (s.cell x)) :
    Serves s (s.modCell x f) :=
  serves_modCell (fun _ g h => ⟨g, hg ▸ h, rfl⟩) fun h => recClaimsDue.mono (h.2.2 x) hc

theorem serves_modOut (s : State) (c : Crane) (f : OutRec → OutRec) : Serves s (s.modOut c f) :=
  Serves.quiet rfl rfl rfl rfl rfl rfl rfl fun _ => ⟨fun _ => id, fun _ => id⟩

theorem serves_modEnv (s : State) (c : Crane) (f : EnvRec → EnvRec) : Serves s (s.modEnv c f) :=
  Serves.quiet rfl rfl rfl rfl rfl rfl rfl fun _ => ⟨fun _ => id, fun _ => id⟩

theorem serves_setMap (s : State) (m : MapUnit) : Serves s (s.setMap m) :=
  Serves.quiet rfl rfl rfl rfl rfl rfl rfl fun _ => ⟨fun _ => id, fun _ => id⟩

theorem serves_setStore (s : State) (k : Store) : Serves s (s.setStore k) :=
  Serves.quiet rfl rfl rfl rfl rfl rfl rfl fun _ => ⟨fun _ => id, fun _ => id⟩

/-- A change of a crane's record that names no new booking serves. -/
theorem serves_modCrane {s : State} {c : Crane} {f : CraneRec → CraneRec}
    (hl : ∀ n ∈ (f (s.crane c)).lift, n ∈ (s.crane c).lift) (hd : ∀ n ∈ (f (s.crane c)).due, n ∈ (s.crane c).due) :
    Serves s (s.modCrane c f) := by
  refine Serves.quiet rfl rfl rfl rfl rfl rfl rfl fun d => ?_
  rw [crane_modCrane]
  split
  · rename_i e; subst e; exact ⟨hl, hd⟩
  · exact ⟨fun _ => id, fun _ => id⟩

/-! ### The cell table -/

theorem serves_setGrant {s : State} {x : CellNo} {g : Grant} (w : CellCause)
    (h : s.windBars = true → ∃ g0, (s.cell x).grant = some g0 ∧ g0.holder = g.holder) : Serves s (setGrant s x g w) := by
  refine (serves_modCell (fun hw g' hg => ?_) fun hc => ?_).trans (serves_notifyClass _ _ _)
  · cases hg
    exact h hw
  · exact recClaimsDue.mono (hc.2.2 x) (claimsWithin_of_sublist rfl fun _ => id)

theorem mem_insertEntry {e f : Entry} {l : List Entry} (h : f ∈ insertEntry e l) : f = e ∨ f ∈ l := by
  induction l with
  | nil => simpa [insertEntry] using h
  | cons a l ih =>
    unfold insertEntry at h
    split at h
    · simpa using h
    · rcases List.mem_cons.mp h with h | h
      · exact .inr (h ▸ List.mem_cons_self)
      · exact (ih h).imp_right (List.mem_cons_of_mem a)

theorem mem_placeEntry {e f : Entry} {l : List Entry} (h : f ∈ placeEntry e l) : f = e ∨ f ∈ l := by
  cases l with
  | nil => simpa [placeEntry] using h
  | cons a l =>
    rcases List.mem_cons.mp h with h | h
    · exact .inr (h ▸ List.mem_cons_self)
    · exact (mem_insertEntry h).imp_right (List.mem_cons_of_mem a)

theorem serves_releaseCell (s : State) (x : CellNo) (w : CellCause) : Serves s (releaseCell s x w) := by
  refine (serves_modCell (fun _ g hg => ?_) fun hc => ⟨fun n hn => ?_, fun e he => ?_⟩).trans
    (serves_notifyClass _ _ _)
  · cases hg
  · cases hn
  obtain ⟨hcov, hlist⟩ := hc.2.2 x
  dsimp only at he
  split at he
  · rename_i claim hclaim
    rcases mem_placeEntry he with rfl | he
    · obtain ⟨n, hn, hmap⟩ := Option.bind_eq_some_iff.mp hclaim
      obtain ⟨b, hb, rfl⟩ := Option.map_eq_some_iff.mp hmap
      obtain ⟨d, hd, hdue, rfl⟩ := hcov n hn
      obtain rfl : d = b := Option.some.inj (hdue.1.symm.trans hb)
      exact .inr ⟨d, hd, hdue, rfl⟩
    · exact hlist e he
  · exact hlist e he

theorem canGrant_windBars {s : State} {x : CellNo} {c : Crane} (h : canGrant s x c = true) : s.windBars = false := by
  simp only [canGrant, State.barred, Bool.and_eq_true, Bool.not_eq_true', Bool.or_eq_false_iff] at h
  exact h.1.2.1

theorem serves_serveHead (s : State) (x : CellNo) : Serves s (serveHead s x) := by
  unfold serveHead
  split
  · exact Serves.refl s
  · rename_i e rest hlist
    split
    · exact Serves.refl s
    · split
      · rename_i hcan
        have hw := canGrant_windBars hcan
        refine ((serves_modCell_list rfl (claimsWithin_of_sublist rfl fun f hf => ?_)).trans
          (serves_setGrant _ fun h => ?_)).trans (serves_notify _ _ _)
        · rw [hlist]; exact List.mem_cons_of_mem _ hf
        · exact Bool.noConfusion (hw.symm.trans (h : s.windBars = true))
      · exact Serves.refl s

theorem serves_startRecall (s : State) (x : CellNo) : Serves s (startRecall s x) := by
  unfold startRecall
  split
  · split
    · exact (serves_modCell_list rfl (claimsWithin_of_sublist rfl fun _ => id)).trans (serves_notifyBoth _ _ _ _)
    · exact Serves.refl s
  · exact Serves.refl s

theorem serves_serveCell (s0 s : State) (x : CellNo) : Serves s (serveCell s0 s x) := by
  unfold serveCell
  extract_lets t
  have ht : Serves s t := by
    show Serves s (if _ then _ else _)
    split
    · exact serves_serveHead s x
    · exact Serves.refl s
  split
  · exact ht.trans (serves_startRecall _ _)
  · exact ht

theorem serves_serveCells (s0 s : State) : Serves s (serveCells s0 s) := serves_foldl (serves_serveCell s0) _ s

theorem serves_autoTake (c : Crane) (s : State) (x : CellNo) : Serves s (autoTake c s x) := by
  unfold autoTake
  split
  · split
    · rename_i hcan
      have hw := canGrant_windBars (Bool.and_eq_true_iff.mp hcan).1
      exact (serves_setGrant _ fun h => absurd h (by simp [hw])).trans (serves_notify _ _ _)
    · refine serves_modCell_list rfl ⟨fun _ => id, fun e he => ?_⟩
      rcases List.mem_append.mp he with he | he
      · exact .inr he
      · rw [List.mem_singleton.mp he]; exact .inl rfl
  · exact Serves.refl s

theorem serves_filterList (s : State) (x : CellNo) (p : Entry → Bool) :
    Serves s (s.modCell x fun k => { k with list := k.list.filter p }) :=
  serves_modCell_list rfl (claimsWithin_of_sublist rfl fun _ h => List.mem_of_mem_filter h)

theorem serves_touchEnded (c : Crane) (s : State) (x : CellNo) : Serves s (touchEnded c s x) := by
  unfold touchEnded
  dsimp only
  split
  · exact (serves_releaseCell s x _).trans (serves_filterList _ _ _)
  · exact serves_filterList _ _ _

theorem serves_touchService (s : State) (c : Crane) (old : List CellNo) (w : Bool) :
    Serves s (touchService s c old w) :=
  (serves_foldl (serves_touchEnded c) _ s).trans (serves_foldl (serves_autoTake c) _ _)

theorem serves_withdrawRequest (c : Crane) (w : WithdrawReason) (s : State) (x : CellNo) :
    Serves s (withdrawRequest c w s x) := by
  unfold withdrawRequest
  split
  · exact Serves.refl s
  · exact (serves_filterList _ _ _).trans (serves_notify _ _ _)

theorem serves_withdrawRequests (s : State) (c : Crane) (w : WithdrawReason) : Serves s (withdrawRequests s c w) :=
  serves_foldl (serves_withdrawRequest c w) _ s

theorem serves_parkCell (c : Crane) (s : State) (x : CellNo) : Serves s (parkCell c s x) := by
  unfold parkCell
  split
  · split
    · exact serves_releaseCell _ _ _
    · exact Serves.refl s
  · exact Serves.refl s

theorem serves_parkingRule (s : State) (c : Crane) : Serves s (parkingRule s c) :=
  (serves_foldl (serves_parkCell c) _ s).trans (serves_withdrawRequests _ _ _)

theorem serves_withdrawClaim (n : Nat) (s : State) (x : CellNo) : Serves s (withdrawClaim n s x) := by
  refine serves_modCell_list rfl ⟨fun m hm => ?_, fun e he => .inr (List.mem_of_mem_filter he)⟩
  dsimp only at hm
  split at hm
  · cases hm
  · exact hm

theorem serves_withdrawClaims (s : State) (b : Booking) : Serves s (withdrawClaims s b) :=
  serves_foldl (serves_withdrawClaim b.number) _ s

theorem book_of_sansCells {s t : State} (h : t.sansCells = s.sansCells) : t.book = s.book := by
  have hb : t.sansCells.book = s.sansCells.book := congrArg State.book h
  exact hb

/-- The claim of a DUE booking is placed in a cell that it names. -/
theorem serves_placeClaim {b : Booking} {s : State} {x : CellNo} (hb : b ∈ s.book.live) (hd : dueNaming s x b) :
    Serves s (placeClaim b s x) := by
  unfold placeClaim
  split
  · refine serves_modCell (fun _ g h => ⟨g, h, rfl⟩) fun hc => ⟨fun n hn => ?_, (hc.2.2 x).2⟩
    exact ⟨b, hb, hd, Option.some.inj hn⟩
  · refine (serves_withdrawRequest b.crane .booked s x).trans
      (serves_modCell (fun _ g h => ⟨g, h, rfl⟩) fun hc => ⟨(hc.2.2 x).1, fun e he => ?_⟩)
    rcases mem_placeEntry he with rfl | he
    · have hbook : (withdrawRequest b.crane .booked s x).book = s.book :=
        book_of_sansCells (withdrawRequest_sansCells b.crane .booked s x)
      refine .inr ⟨b, hbook ▸ hb, ⟨?_, hd.2⟩, rfl⟩
      unfold State.booking
      rw [hbook]
      exact hd.1
    · exact (hc.2.2 x).2 e he

end Laws

end Sys2Proof.Machine

/-! SUPPORT. Reads after the operations of the book and of the notices: what a notice leaves in each field, and which
booking a number names after a booking is changed, ended, or admitted. -/

namespace Sys2Proof.Machine.Laws

/-! ### After a notice -/

/-- What does not read notices is the same in states that differ in notices alone. -/
theorem of_sansNotices {γ : Type} {s t : State} (g : State → γ) (h : s.sansNotices = t.sansNotices)
    (hg : ∀ u : State, g u.sansNotices = g u) : g s = g t := (hg s).symm.trans ((congrArg g h).trans (hg t))

@[simp] theorem notify_cell (s : State) (p : Port) (n : Notice) (x : CellNo) : (s.notify p n).cell x = s.cell x :=
  of_sansNotices (fun u : State => u.cell x) (notify_sansNotices s p n) fun _ => rfl
@[simp] theorem notify_crane (s : State) (p : Port) (n : Notice) (c : Crane) : (s.notify p n).crane c = s.crane c :=
  of_sansNotices (fun u : State => u.crane c) (notify_sansNotices s p n) fun _ => rfl
@[simp] theorem notify_env (s : State) (p : Port) (n : Notice) (c : Crane) : (s.notify p n).env c = s.env c :=
  of_sansNotices (fun u : State => u.env c) (notify_sansNotices s p n) fun _ => rfl
@[simp] theorem notify_map (s : State) (p : Port) (n : Notice) : (s.notify p n).map = s.map :=
  of_sansNotices (fun u : State => u.map) (notify_sansNotices s p n) fun _ => rfl
@[simp] theorem notify_wind (s : State) (p : Port) (n : Notice) : (s.notify p n).wind = s.wind :=
  of_sansNotices (fun u : State => u.wind) (notify_sansNotices s p n) fun _ => rfl
@[simp] theorem notify_book (s : State) (p : Port) (n : Notice) : (s.notify p n).book = s.book :=
  of_sansNotices (fun u : State => u.book) (notify_sansNotices s p n) fun _ => rfl
@[simp] theorem notify_booking (s : State) (p : Port) (n : Notice) (m : Nat) :
    (s.notify p n).booking m = s.booking m :=
  of_sansNotices (fun u : State => u.booking m) (notify_sansNotices s p n) fun _ => rfl
@[simp] theorem notifyClass_cell (s : State) (k : NoticeClass) (n : Notice) (x : CellNo) :
    (s.notifyClass k n).cell x = s.cell x :=
  of_sansNotices (fun u : State => u.cell x) (notifyClass_sansNotices s k n) fun _ => rfl
@[simp] theorem notifyClass_crane (s : State) (k : NoticeClass) (n : Notice) (c : Crane) :
    (s.notifyClass k n).crane c = s.crane c :=
  of_sansNotices (fun u : State => u.crane c) (notifyClass_sansNotices s k n) fun _ => rfl
@[simp] theorem notifyClass_env (s : State) (k : NoticeClass) (n : Notice) (c : Crane) :
    (s.notifyClass k n).env c = s.env c :=
  of_sansNotices (fun u : State => u.env c) (notifyClass_sansNotices s k n) fun _ => rfl
@[simp] theorem notifyClass_map (s : State) (k : NoticeClass) (n : Notice) : (s.notifyClass k n).map = s.map :=
  of_sansNotices (fun u : State => u.map) (notifyClass_sansNotices s k n) fun _ => rfl
@[simp] theorem notifyClass_wind (s : State) (k : NoticeClass) (n : Notice) : (s.notifyClass k n).wind = s.wind :=
  of_sansNotices (fun u : State => u.wind) (notifyClass_sansNotices s k n) fun _ => rfl
@[simp] theorem notifyClass_book (s : State) (k : NoticeClass) (n : Notice) : (s.notifyClass k n).book = s.book :=
  of_sansNotices (fun u : State => u.book) (notifyClass_sansNotices s k n) fun _ => rfl
@[simp] theorem notifyClass_booking (s : State) (k : NoticeClass) (n : Notice) (m : Nat) :
    (s.notifyClass k n).booking m = s.booking m :=
  of_sansNotices (fun u : State => u.booking m) (notifyClass_sansNotices s k n) fun _ => rfl
@[simp] theorem notifyBoth_cell (s : State) (d : Crane) (k : NoticeClass) (n : Notice) (x : CellNo) :
    (s.notifyBoth d k n).cell x = s.cell x :=
  of_sansNotices (fun u : State => u.cell x) (notifyBoth_sansNotices s d k n) fun _ => rfl
@[simp] theorem notifyBoth_crane (s : State) (d : Crane) (k : NoticeClass) (n : Notice) (c : Crane) :
    (s.notifyBoth d k n).crane c = s.crane c :=
  of_sansNotices (fun u : State => u.crane c) (notifyBoth_sansNotices s d k n) fun _ => rfl
@[simp] theorem notifyBoth_env (s : State) (d : Crane) (k : NoticeClass) (n : Notice) (c : Crane) :
    (s.notifyBoth d k n).env c = s.env c :=
  of_sansNotices (fun u : State => u.env c) (notifyBoth_sansNotices s d k n) fun _ => rfl
@[simp] theorem notifyBoth_map (s : State) (d : Crane) (k : NoticeClass) (n : Notice) :
    (s.notifyBoth d k n).map = s.map :=
  of_sansNotices (fun u : State => u.map) (notifyBoth_sansNotices s d k n) fun _ => rfl
@[simp] theorem notifyBoth_wind (s : State) (d : Crane) (k : NoticeClass) (n : Notice) :
    (s.notifyBoth d k n).wind = s.wind :=
  of_sansNotices (fun u : State => u.wind) (notifyBoth_sansNotices s d k n) fun _ => rfl
@[simp] theorem notifyBoth_book (s : State) (d : Crane) (k : NoticeClass) (n : Notice) :
    (s.notifyBoth d k n).book = s.book :=
  of_sansNotices (fun u : State => u.book) (notifyBoth_sansNotices s d k n) fun _ => rfl
@[simp] theorem notifyBoth_booking (s : State) (d : Crane) (k : NoticeClass) (n : Notice) (m : Nat) :
    (s.notifyBoth d k n).booking m = s.booking m :=
  of_sansNotices (fun u : State => u.booking m) (notifyBoth_sansNotices s d k n) fun _ => rfl
@[simp] theorem notifyBooking_cell (s : State) (b : Booking) (n : Notice) (x : CellNo) :
    (s.notifyBooking b n).cell x = s.cell x :=
  of_sansNotices (fun u : State => u.cell x) (notifyBooking_sansNotices s b n) fun _ => rfl
@[simp] theorem notifyBooking_crane (s : State) (b : Booking) (n : Notice) (c : Crane) :
    (s.notifyBooking b n).crane c = s.crane c :=
  of_sansNotices (fun u : State => u.crane c) (notifyBooking_sansNotices s b n) fun _ => rfl
@[simp] theorem notifyBooking_env (s : State) (b : Booking) (n : Notice) (c : Crane) :
    (s.notifyBooking b n).env c = s.env c :=
  of_sansNotices (fun u : State => u.env c) (notifyBooking_sansNotices s b n) fun _ => rfl
@[simp] theorem notifyBooking_map (s : State) (b : Booking) (n : Notice) : (s.notifyBooking b n).map = s.map :=
  of_sansNotices (fun u : State => u.map) (notifyBooking_sansNotices s b n) fun _ => rfl
@[simp] theorem notifyBooking_wind (s : State) (b : Booking) (n : Notice) : (s.notifyBooking b n).wind = s.wind :=
  of_sansNotices (fun u : State => u.wind) (notifyBooking_sansNotices s b n) fun _ => rfl
@[simp] theorem notifyBooking_book (s : State) (b : Booking) (n : Notice) : (s.notifyBooking b n).book = s.book :=
  of_sansNotices (fun u : State => u.book) (notifyBooking_sansNotices s b n) fun _ => rfl
@[simp] theorem notifyBooking_booking (s : State) (b : Booking) (n : Notice) (m : Nat) :
    (s.notifyBooking b n).booking m = s.booking m :=
  of_sansNotices (fun u : State => u.booking m) (notifyBooking_sansNotices s b n) fun _ => rfl
@[simp] theorem announceWind_cell (s : State) (w : WindState) (x : CellNo) : (announceWind s w).cell x = s.cell x :=
  of_sansNotices (fun u : State => u.cell x) (announceWind_sansNotices s w) fun _ => rfl
@[simp] theorem announceWind_crane (s : State) (w : WindState) (c : Crane) : (announceWind s w).crane c = s.crane c :=
  of_sansNotices (fun u : State => u.crane c) (announceWind_sansNotices s w) fun _ => rfl
@[simp] theorem announceWind_env (s : State) (w : WindState) (c : Crane) : (announceWind s w).env c = s.env c :=
  of_sansNotices (fun u : State => u.env c) (announceWind_sansNotices s w) fun _ => rfl
@[simp] theorem announceWind_map (s : State) (w : WindState) : (announceWind s w).map = s.map :=
  of_sansNotices (fun u : State => u.map) (announceWind_sansNotices s w) fun _ => rfl
@[simp] theorem announceWind_wind (s : State) (w : WindState) : (announceWind s w).wind = s.wind :=
  of_sansNotices (fun u : State => u.wind) (announceWind_sansNotices s w) fun _ => rfl
@[simp] theorem announceWind_book (s : State) (w : WindState) : (announceWind s w).book = s.book :=
  of_sansNotices (fun u : State => u.book) (announceWind_sansNotices s w) fun _ => rfl
@[simp] theorem announceWind_booking (s : State) (w : WindState) (m : Nat) :
    (announceWind s w).booking m = s.booking m :=
  of_sansNotices (fun u : State => u.booking m) (announceWind_sansNotices s w) fun _ => rfl

/-! ### Bookings by number -/

theorem booking_number {s : State} {n : Nat} {b : Booking} (h : s.booking n = some b) : b.number = n := by
  simpa using List.find?_some h

theorem booking_mem {s : State} {n : Nat} {b : Booking} (h : s.booking n = some b) : b ∈ s.book.live :=
  List.mem_of_find?_eq_some h

theorem booking_self {s : State} {n : Nat} {b : Booking} (h : s.booking n = some b) : s.booking b.number = some b :=
  (booking_number h).symm ▸ h

/-- Where numbers are unique a live booking is the one of its number. -/
theorem booking_of_mem {s : State} (hu : (s.book.live.map (·.number)).Nodup) {b : Booking} (hb : b ∈ s.book.live) :
    s.booking b.number = some b := by
  unfold State.booking
  generalize s.book.live = l at hu hb
  induction l with
  | nil => cases hb
  | cons a l ih =>
    rw [List.map_cons, List.nodup_cons] at hu
    rcases List.mem_cons.mp hb with rfl | hb
    · simp
    · have hne : a.number ≠ b.number := fun e => hu.1 (e ▸ List.mem_map_of_mem hb)
      rw [List.find?_cons_of_neg (by simpa using hne)]
      exact ih hu.2 hb

theorem booking_congr {s t : State} (h : t.book = s.book) (n : Nat) : t.booking n = s.booking n := by
  unfold State.booking; rw [h]

theorem find?_map_booking (l : List Booking) (n m : Nat) (f : Booking → Booking) (hf : ∀ b, (f b).number = b.number) :
    (l.map fun b => if b.number = n then f b else b).find? (fun b => b.number == m)
      = (l.find? fun b => b.number == m).map fun b => if b.number = n then f b else b := by
  rw [List.find?_map]
  have hp : ((fun b : Booking => b.number == m) ∘ fun b => if b.number = n then f b else b)
      = fun b : Booking => b.number == m := by
    funext b
    simp only [Function.comp]
    split
    · rw [hf]
    · rfl
  rw [hp]

theorem booking_modBooking (s : State) (n m : Nat) (f : Booking → Booking) (hf : ∀ b, (f b).number = b.number) :
    (s.modBooking n f).booking m = if m = n then (s.booking n).map f else s.booking m := by
  have h : (s.modBooking n f).booking m = (s.booking m).map fun b => if b.number = n then f b else b :=
    find?_map_booking s.book.live n m f hf
  rw [h]
  cases hb : s.booking m with
  | none =>
    split
    · rename_i e; subst e; simp [hb]
    · rfl
  | some b =>
    rw [Option.map_some, booking_number hb]
    split
    · rename_i e; subst e; simp [hb]
    · rfl

@[simp] theorem modBooking_next (s : State) (n : Nat) (f : Booking → Booking) :
    (s.modBooking n f).book.next = s.book.next := rfl

/-- Which booking a number names once those of a number have left the book. -/
theorem find?_without (l : List Booking) (n m : Nat) :
    (l.filter fun c => c.number != n).find? (fun b => b.number == m)
      = if m = n then none else l.find? fun b => b.number == m := by
  induction l with
  | nil => simp
  | cons a l ih =>
    by_cases ha : a.number = n
    · rw [List.filter_cons_of_neg (by simp [ha]), ih]
      split
      · rfl
      · rename_i hm
        rw [List.find?_cons_of_neg (by simpa [ha] using fun e => hm e.symm)]
    · rw [List.filter_cons_of_pos (by simp [ha])]
      by_cases hm : a.number = m
      · rw [List.find?_cons_of_pos (by simp [hm]), List.find?_cons_of_pos (by simp [hm]), if_neg (hm ▸ ha)]
      · rw [List.find?_cons_of_neg (by simp [hm]), List.find?_cons_of_neg (by simp [hm]), ih]

theorem booking_endBooking (s : State) (b : Booking) (o : BookOutcome) (q : Option Port) (m : Nat) :
    (endBooking s b o q).booking m = if m = b.number then none else s.booking m := by
  unfold endBooking
  rw [notifyBooking_booking]
  exact find?_without s.book.live b.number m

@[simp] theorem endBooking_live (s : State) (b : Booking) (o : BookOutcome) (q : Option Port) :
    (endBooking s b o q).book.live = s.book.live.filter fun c => c.number != b.number := by
  unfold endBooking
  rw [notifyBooking_book]
  rfl

@[simp] theorem endBooking_next (s : State) (b : Booking) (o : BookOutcome) (q : Option Port) :
    (endBooking s b o q).book.next = s.book.next := by
  unfold endBooking
  rw [notifyBooking_book]
  rfl

@[simp] theorem endBooking_cell (s : State) (b : Booking) (o : BookOutcome) (q : Option Port) (x : CellNo) :
    (endBooking s b o q).cell x = s.cell x := by
  unfold endBooking
  rw [notifyBooking_cell]
  rfl

theorem endBooking_crane (s : State) (b : Booking) (o : BookOutcome) (q : Option Port) (c : Crane) :
    (endBooking s b o q).crane c = if c = b.crane then
      { s.crane c with due := if (s.crane c).due = some b.number then none else (s.crane c).due,
                       lift := if (s.crane c).lift = some b.number then none else (s.crane c).lift }
      else s.crane c := by
  unfold endBooking
  rw [notifyBooking_crane]
  show (forgetBooking s b).crane c = _
  unfold forgetBooking
  rw [crane_modCrane]
  split
  · rename_i e; subst e; rfl
  · rfl

theorem booking_moveBooking (s : State) (b : Booking) (st : BookState) (m : Nat) :
    (moveBooking s b st).booking m
      = if m = b.number then (s.booking b.number).map fun k => { k with state := st } else s.booking m := by
  unfold moveBooking
  rw [notifyBooking_booking, booking_modBooking]
  exact fun _ => rfl

/-! ### Cells one by one -/

/-- What a fold of changes of single cells leaves of a cell, where the same change made twice is made once. -/
theorem foldl_modCell_cell (f : CellRec → CellRec) (hf : ∀ k, f (f k) = f k) (l : List CellNo) (s : State) (x : CellNo) :
    (l.foldl (fun t y => t.modCell y f) s).cell x = if x ∈ l then f (s.cell x) else s.cell x := by
  induction l generalizing s with
  | nil => simp
  | cons y l ih =>
    rw [List.foldl_cons, ih, cell_modCell]
    by_cases hy : x = y
    · subst hy
      by_cases hl : x ∈ l <;> simp [hl, hf]
    · simp [hy]

theorem withoutClaim_idem (n : Nat) (l : List Entry) : withoutClaim n (withoutClaim n l) = withoutClaim n l := by
  simp [withoutClaim, List.filter_filter]

/-- A cell record after the admission of a booking of crane `c` under the number `n` (R151). -/
def admittedCell (n : Nat) (c : Crane) (k : CellRec) : CellRec :=
  { k with grant := some ⟨c, .booked⟩, list := withoutClaim n k.list,
           covered := if k.covered = some n then none else k.covered, recallState := .idle }

theorem admitCells_cell (b : Booking) (l : List CellNo) (s : State) (x : CellNo) :
    (l.foldl (admitCell b) s).cell x = if x ∈ l then admittedCell b.number b.crane (s.cell x) else s.cell x :=
  foldl_modCell_cell (admittedCell b.number b.crane)
    (fun k => by simp only [admittedCell, withoutClaim_idem]; split <;> simp_all) l s x

/-- A cell record without the claim of the booking `n`, listed or covered; a recall it stood for has ended. -/
def claimlessCell (n : Nat) (k : CellRec) : CellRec :=
  { k with list := withoutClaim n k.list, covered := if k.covered = some n then none else k.covered,
           recallState := if headClaim n k.list then .idle else k.recallState }

theorem headClaim_withoutClaim (n : Nat) (l : List Entry) : headClaim n (withoutClaim n l) = false := by
  unfold headClaim
  cases h : (withoutClaim n l).head? with
  | none => rfl
  | some e =>
    have he := List.mem_of_head? h
    simpa [withoutClaim] using (List.mem_filter.mp he).2

theorem withdrawClaims_cell (s : State) (b : Booking) (x : CellNo) :
    (withdrawClaims s b).cell x = claimlessCell b.number (s.cell x) := by
  have h := foldl_modCell_cell (claimlessCell b.number) (fun k => by
    simp only [claimlessCell, withoutClaim_idem, headClaim_withoutClaim]
    split <;> simp_all) allCells s x
  rw [if_pos (mem_allCells x)] at h
  exact h

/-- No claim of a number is left in a record. -/
def lacksClaim (n : Nat) (k : CellRec) : Prop :=
  k.covered ≠ some n ∧ ∀ e ∈ k.list, isClaimOf n e = false

theorem not_isClaimOf_of_mem_withoutClaim {n : Nat} {l : List Entry} {e : Entry} (h : e ∈ withoutClaim n l) :
    isClaimOf n e = false := by
  simpa using (List.mem_filter.mp h).2

theorem lacksClaim_admittedCell (n : Nat) (c : Crane) (k : CellRec) : lacksClaim n (admittedCell n c k) := by
  refine ⟨?_, fun e he => not_isClaimOf_of_mem_withoutClaim he⟩
  simp only [admittedCell]
  split
  · nofun
  · assumption

theorem lacksClaim_claimlessCell (n : Nat) (k : CellRec) : lacksClaim n (claimlessCell n k) := by
  refine ⟨?_, fun e he => not_isClaimOf_of_mem_withoutClaim he⟩
  simp only [claimlessCell]
  split
  · nofun
  · assumption

end Sys2Proof.Machine.Laws

/-! SUPPORT. The lift book's operations, the output unit's and the map unit's serve (`Serves`): what they keep while an
event is served. -/

namespace Sys2Proof.Machine.Laws

/-! ### The book -/

theorem bookBounded_of_sublist {j k : Book} (h : bookBounded k) (hl : j.live.Sublist k.live) (hn : j.next = k.next) :
    bookBounded j := by
  obtain ⟨hlen, hdup, hrange, hn1, hn2, hord, hlate, hconf⟩ := h
  exact ⟨hl.length_le.trans hlen, (hl.map _).nodup hdup, fun b hb => hrange b (hl.subset hb), hn ▸ hn1, hn ▸ hn2,
    hord.sublist hl, fun b hb => hlate b (hl.subset hb), hconf.sublist hl⟩

theorem frame_eq_iff (a b : Booking) :
    a.frame = b.frame ↔ a.number = b.number ∧ a.crane = b.crane ∧ a.start = b.start ∧ a.duration = b.duration
      ∧ a.late = b.late ∧ a.cells = b.cells := by
  simp [Booking.frame]

theorem pairwise_map_frame {R : Booking → Booking → Prop} {l : List Booking} {g : Booking → Booking}
    (hR : ∀ a b, R a b → R (g a) (g b)) (h : l.Pairwise R) : (l.map g).Pairwise R :=
  List.pairwise_map.mpr (h.imp fun {a b} => hR a b)

/-- The bounds of the book read the frames of its bookings alone. -/
theorem bookBounded_map {k : Book} (h : bookBounded k) (g : Booking → Booking) (hg : ∀ b, (g b).frame = b.frame) :
    bookBounded { k with live := k.live.map g } := by
  obtain ⟨hlen, hdup, hrange, hn1, hn2, hord, hlate, hconf⟩ := h
  have hf : ∀ b, (g b).number = b.number ∧ (g b).crane = b.crane ∧ (g b).start = b.start
      ∧ (g b).duration = b.duration ∧ (g b).late = b.late ∧ (g b).cells = b.cells := fun b => (frame_eq_iff _ _).mp (hg b)
  refine ⟨by simpa using hlen, ?_, ?_, hn1, hn2, ?_, ?_, ?_⟩
  · have : (k.live.map g).map (·.number) = k.live.map (·.number) := by
      rw [List.map_map]
      exact List.map_congr_left fun b _ => (hf b).1
    rw [this]
    exact hdup
  · intro b hb
    obtain ⟨a, ha, rfl⟩ := List.mem_map.mp hb
    rw [(hf a).1]
    exact hrange a ha
  · refine pairwise_map_frame (fun a b hab => ?_) hord
    unfold bookingBefore at hab ⊢
    obtain ⟨na, -, sa, -⟩ := hf a
    obtain ⟨nb, -, sb, -⟩ := hf b
    rw [na, sa, nb, sb]
    exact hab
  · intro b hb
    obtain ⟨a, ha, rfl⟩ := List.mem_map.mp hb
    obtain ⟨-, -, -, da, la, -⟩ := hf a
    rw [da, la]
    exact hlate a ha
  · refine pairwise_map_frame (fun a b hab => ?_) hconf
    unfold conflicts at hab ⊢
    obtain ⟨-, ca, sa, da, -, la⟩ := hf a
    obtain ⟨-, cb, sb, db, -, lb⟩ := hf b
    rw [ca, sa, da, la, cb, sb, db, lb]
    exact hab

theorem bookBounded_modBooking {s : State} (h : bookBounded s.book) (n : Nat) (f : Booking → Booking)
    (hf : ∀ b, (f b).frame = b.frame) : bookBounded (s.modBooking n f).book :=
  bookBounded_map h _ fun b => by
    split
    · exact hf b
    · rfl

/-- A change of the book and of the bookings the crane table names serves, where it keeps the book sound. -/
theorem serves_ofBook {s t : State} (core : t.core = s.core) (ports : t.ports = s.ports) (sigs : t.sigs = s.sigs)
    (sources : t.sources = s.sources) (wind : t.wind = s.wind) (cells : t.cells = s.cells)
    (next : t.book.next = s.book.next) (book : bookKept s → bookKept t ∧ t.book.MovedFrom s.book) : Serves s t :=
  ⟨Passes.quiet core ports sigs sources wind cells, next, book⟩

theorem movedFrom_map {l : Book} (n : Nat) (f : Booking → Booking) (hf : ∀ b ∈ l.live, b.number = n → (f b).MovedFrom b) :
    Book.MovedFrom { l with live := l.live.map fun b => if b.number = n then f b else b } l := by
  intro b hb
  obtain ⟨a, ha, rfl⟩ := List.mem_map.mp hb
  refine ⟨a, ha, ?_⟩
  split
  · rename_i e; exact hf a ha e
  · exact Booking.MovedFrom.refl a

/-- A live booking of the number is the one that the number names, in a sound book. -/
theorem eq_of_mem_of_number {s : State} (h : bookBounded s.book) {a b : Booking} (ha : a ∈ s.book.live)
    (hb : s.booking b.number = some b) (hn : a.number = b.number) : a = b := by
  have h1 := booking_of_mem h.2.1 ha
  rw [hn, hb] at h1
  exact (Option.some.inj h1).symm

/-! ### The end of a booking -/

theorem mem_forgotten {x : Option Nat} {m n : Nat} (h : n ∈ if x = some m then none else x) : n ≠ m ∧ n ∈ x := by
  split at h
  · cases h
  · rename_i hx
    exact ⟨fun e => hx (e ▸ h), h⟩

theorem forgetBooking_crane (s : State) (b : Booking) (c : Crane) :
    (forgetBooking s b).crane c = if c = b.crane then
      { s.crane c with due := if (s.crane c).due = some b.number then none else (s.crane c).due,
                       lift := if (s.crane c).lift = some b.number then none else (s.crane c).lift }
      else s.crane c := by
  unfold forgetBooking
  rw [crane_modCrane]
  split
  · rename_i e; subst e; rfl
  · rfl

/-- No crane names a forgotten booking any more, and none names another anew. -/
theorem named_forgetBooking {s : State} {b : Booking} (hs : liftsUnderWay s) (hb : s.booking b.number = some b)
    (c : Crane) :
    (∀ n ∈ ((forgetBooking s b).crane c).lift, n ≠ b.number ∧ n ∈ (s.crane c).lift)
      ∧ ∀ n ∈ ((forgetBooking s b).crane c).due, n ≠ b.number ∧ n ∈ (s.crane c).due := by
  rw [forgetBooking_crane]
  by_cases e : c = b.crane
  · rw [if_pos e]
    exact ⟨fun n hn => mem_forgotten hn, fun n hn => mem_forgotten hn⟩
  · rw [if_neg e]
    have hother : ∀ {n d}, s.booking n = some d → d.crane = c → n ≠ b.number := by
      rintro n _ h1 h2 rfl
      exact e (h2.symm.trans (congrArg Booking.crane (Option.some.inj (h1.symm.trans hb))))
    exact ⟨fun n hn => let ⟨_, h1, h2, _⟩ := (hs c).1 n hn; ⟨hother h1 h2, hn⟩,
      fun n hn => let ⟨_, h1, h2, _⟩ := (hs c).2 n hn; ⟨hother h1 h2, hn⟩⟩

/-- The claims of a record without claims of `n` are judged in any book that keeps the other DUE bookings. -/
theorem recClaimsDue_of_others {s t : State} {x : CellNo} {k : CellRec} {n : Nat} (h : recClaimsDue s x k)
    (hk : lacksClaim n k) (ht : ∀ d ∈ s.book.live, d.number ≠ n → dueNaming s x d → d ∈ t.book.live ∧ dueNaming t x d) :
    recClaimsDue t x k := by
  refine ⟨fun m hm => ?_, fun e he => ?_⟩
  · obtain ⟨d, hd, hdue, rfl⟩ := h.1 m hm
    obtain ⟨h1, h2⟩ := ht d hd (fun e => hk.1 (e ▸ hm)) hdue
    exact ⟨d, h1, h2, rfl⟩
  · rcases h.2 e he with hr | ⟨d, hd, hdue, rfl⟩
    · exact .inl hr
    · obtain ⟨h1, h2⟩ := ht d hd (fun e => by simpa [isClaimOf, e] using hk.2 _ he) hdue
      exact .inr ⟨d, h1, h2, rfl⟩

/-- A booking ends of which no cell has a claim. -/
theorem serves_endBooking {s : State} {b : Booking} (o : BookOutcome) (q : Option Port)
    (hb : s.booking b.number = some b) (hc : bookKept s → ∀ x, lacksClaim b.number (s.cell x)) :
    Serves s (endBooking s b o q) := by
  refine Serves.trans (t := (forgetBooking s b).setBook
    { s.book with live := s.book.live.filter fun c => c.number != b.number }) ?_ (serves_notifyBooking _ _ _)
  have hbook : ∀ n, ((forgetBooking s b).setBook
      { s.book with live := s.book.live.filter fun c => c.number != b.number }).booking n
        = if n = b.number then none else s.booking n := fun n => find?_without s.book.live b.number n
  refine serves_ofBook rfl rfl rfl rfl rfl rfl rfl fun hs => ⟨⟨bookBounded_of_sublist hs.1 List.filter_sublist rfl,
    fun c => ?_, fun x => ?_⟩, fun a ha => ⟨a, List.mem_of_mem_filter ha, .refl a⟩⟩
  · obtain ⟨hl, hd⟩ := named_forgetBooking hs.2.1 hb c
    refine ⟨fun n hn => ?_, fun n hn => ?_⟩
    · obtain ⟨hne, hn⟩ := hl n hn
      rw [hbook, if_neg hne]
      exact (hs.2.1 c).1 n hn
    · obtain ⟨hne, hn⟩ := hd n hn
      rw [hbook, if_neg hne]
      exact (hs.2.1 c).2 n hn
  · refine recClaimsDue_of_others (hs.2.2 x) (hc hs x) fun d hd hne hdue => ⟨?_, ?_, hdue.2⟩
    · exact List.mem_filter.mpr ⟨hd, by simpa using hne⟩
    · rw [hbook, if_neg hne]
      exact hdue.1

/-- No claim of a number that no DUE booking of the cell has. -/
theorem lacksClaim_of_ne {s : State} {n : Nat} {x : CellNo} {k : CellRec} (hk : recClaimsDue s x k)
    (hnot : ∀ d, dueNaming s x d → d.number ≠ n) : lacksClaim n k := by
  refine ⟨fun e => ?_, fun e he => ?_⟩
  · obtain ⟨d, -, hdue, hn⟩ := hk.1 _ e
    exact hnot d hdue hn
  · rcases hk.2 e he with hr | ⟨d, -, hdue, rfl⟩
    · cases e with
      | claim => simp [isRequest, entryKind] at hr
      | entry => rfl
      | auto => rfl
    · simpa [isClaimOf] using hnot d hdue

/-- A booking that is not DUE has no claim. -/
theorem lacksClaim_of_not_due {s : State} {b : Booking} (hs : bookKept s) (hb : s.booking b.number = some b)
    (hd : b.state ≠ .due) (x : CellNo) : lacksClaim b.number (s.cell x) :=
  lacksClaim_of_ne (hs.2.2 x) fun _ hdue e => hd ((Option.some.inj (hb.symm.trans (e ▸ hdue.1))) ▸ hdue.2.1)

/-- A booking that is not DUE ends. -/
theorem serves_endBooking_of_not_due {s : State} {b : Booking} (o : BookOutcome) (q : Option Port)
    (hb : s.booking b.number = some b) (hd : b.state ≠ .due) : Serves s (endBooking s b o q) :=
  serves_endBooking o q hb fun hs => lacksClaim_of_not_due hs hb hd

theorem withdrawClaims_book (s : State) (b : Booking) : (withdrawClaims s b).book = s.book :=
  book_of_sansCells (withdrawClaims_sansCells s b)

/-- A booking ends after its claims are withdrawn. -/
theorem serves_withdraw_endBooking {s : State} {b : Booking} (o : BookOutcome) (q : Option Port)
    (hb : s.booking b.number = some b) : Serves s (endBooking (withdrawClaims s b) b o q) := by
  refine (serves_withdrawClaims s b).trans (serves_endBooking o q ?_ fun _ x => ?_)
  · rw [booking_congr (withdrawClaims_book s b)]; exact hb
  · rw [withdrawClaims_cell]
    exact lacksClaim_claimlessCell _ _

theorem serves_cancelForMap (s : State) (n : Nat) : Serves s (cancelForMap s n) := by
  unfold cancelForMap
  split
  · rename_i b hb
    exact serves_withdraw_endBooking _ _ (booking_self hb)
  · exact Serves.refl s

theorem serves_lapseBooking (s : State) (n : Nat) : Serves s (lapseBooking s n) := by
  unfold lapseBooking
  split
  · exact Serves.refl s
  · rename_i b hb
    exact serves_withdraw_endBooking _ _ (booking_self hb)

/-! ### Changes of a booking's state -/

/-- The record of a booking is changed in what neither its frame nor its part in claims and lifts reads. -/
theorem serves_modBooking {s : State} {b : Booking} {f : Booking → Booking} (hf : ∀ a, (f a).frame = a.frame)
    (hb : s.booking b.number = some b) (hd : b.state = .due → (f b).state = .due)
    (hu : underWay b.state = true → underWay (f b).state = true) (hm : (f b).MovedFrom b) : Serves s (s.modBooking b.number f) := by
  have hnum : ∀ a, (f a).number = a.number := fun a => ((frame_eq_iff _ _).mp (hf a)).1
  have hread : ∀ n, (s.modBooking b.number f).booking n = if n = b.number then some (f b) else s.booking n := fun n => by
    rw [booking_modBooking _ _ _ _ hnum, hb]
    rfl
  refine serves_ofBook rfl rfl rfl rfl rfl rfl rfl fun hs => ⟨⟨bookBounded_modBooking hs.1 _ _ hf, fun c => ?_,
    fun x => ?_⟩, movedFrom_map _ _ fun a ha hn => (eq_of_mem_of_number hs.1 ha hb hn) ▸ hm⟩
  · have hcrane : (f b).crane = b.crane := ((frame_eq_iff _ _).mp (hf b)).2.1
    refine ⟨fun n hn => ?_, fun n hn => ?_⟩
    · obtain ⟨d, hd1, hd2, hd3⟩ := (hs.2.1 c).1 n hn
      rw [hread]
      split
      · rename_i e
        subst e
        obtain rfl : b = d := Option.some.inj (hb.symm.trans hd1)
        exact ⟨_, rfl, hcrane.trans hd2, hu hd3⟩
      · exact ⟨d, hd1, hd2, hd3⟩
    · obtain ⟨d, hd1, hd2, hd3⟩ := (hs.2.1 c).2 n hn
      rw [hread]
      split
      · rename_i e
        subst e
        obtain rfl : b = d := Option.some.inj (hb.symm.trans hd1)
        exact ⟨_, rfl, hcrane.trans hd2, hd hd3⟩
      · exact ⟨d, hd1, hd2, hd3⟩
  · have hdue : ∀ d ∈ s.book.live, dueNaming s x d →
        ∃ e ∈ (s.modBooking b.number f).book.live, dueNaming (s.modBooking b.number f) x e
          ∧ e.number = d.number ∧ e.crane = d.crane ∧ e.start = d.start := by
      rintro d hdl ⟨hd1, hd2, hd3⟩
      by_cases e : d.number = b.number
      · obtain rfl : b = d := Option.some.inj (hb.symm.trans (e ▸ hd1))
        obtain ⟨h1, h2, h3, -, -, h6⟩ := (frame_eq_iff _ _).mp (hf b)
        refine ⟨f b, List.mem_map.mpr ⟨b, hdl, if_pos rfl⟩, ⟨?_, hd hd2, h6 ▸ hd3⟩, h1, h2, h3⟩
        rw [h1, hread, if_pos rfl]
      · refine ⟨d, List.mem_map.mpr ⟨d, hdl, if_neg e⟩, ⟨?_, hd2, hd3⟩, rfl, rfl, rfl⟩
        rw [hread, if_neg e]
        exact hd1
    refine ⟨fun n hn => ?_, fun e he => ?_⟩
    · obtain ⟨d, h1, h2, rfl⟩ := (hs.2.2 x).1 n hn
      obtain ⟨k, k1, k2, k3, -⟩ := hdue d h1 h2
      exact ⟨k, k1, k2, k3⟩
    · rcases (hs.2.2 x).2 e he with hr | ⟨d, h1, h2, rfl⟩
      · exact .inl hr
      · obtain ⟨k, k1, k2, k3, k4, k5⟩ := hdue d h1 h2
        exact .inr ⟨k, k1, k2, by rw [k3, k4, k5]⟩

/-- A booking under way passes from one such state to another. -/
theorem serves_moveBooking {s : State} {b : Booking} {st : BookState} (hb : s.booking b.number = some b)
    (hu : underWay b.state = true) (hst : underWay st = true) : Serves s (moveBooking s b st) :=
  (serves_modBooking (f := fun k => { k with state := st }) (fun _ => rfl) hb
    (fun hd => by rw [hd] at hu; cases hu) (fun _ => hst) ⟨rfl, .inr (.inr ⟨hu, hst⟩)⟩).trans (serves_notifyBooking _ _ _)

theorem serves_markOverrun (s : State) (n : Nat) : Serves s (markOverrun s n) := by
  unfold markOverrun
  split
  · exact Serves.refl s
  · rename_i b hb
    have hk := serves_modBooking (f := fun k => { k with overrun := true }) (fun _ => rfl) (booking_self hb) id id
      ⟨rfl, .inl rfl⟩
    rw [booking_number hb] at hk
    exact hk.trans (serves_notifyBoth _ _ _ _)

theorem bookingsWhere_spec {s : State} {p : Booking → Bool} {n : Nat} (h : n ∈ bookingsWhere s p) :
    ∃ b ∈ s.book.live, p b = true ∧ b.number = n := by
  obtain ⟨b, hb, rfl⟩ := List.mem_map.mp h
  exact ⟨b, List.mem_of_mem_filter hb, by simpa using (List.mem_filter.mp hb).2, rfl⟩

/-- In a sound book a number names, further on, the booking it named. -/
theorem booking_moved {s t : State} (h : Serves s t) (hs : bookKept s) {n : Nat} {b : Booking}
    (hb : t.booking n = some b) : ∃ a, s.booking n = some a ∧ b.MovedFrom a := by
  obtain ⟨a, ha, hba⟩ := (h.book hs).2 b (booking_mem hb)
  have hn : a.number = n := ((frame_eq_iff _ _).mp hba.1).1.symm.trans (booking_number hb)
  exact ⟨a, hn ▸ booking_of_mem hs.1.2.1 ha, hba⟩

theorem underWay_moved {a b : Booking} (h : b.MovedFrom a) (ha : underWay a.state = true) : underWay b.state = true := by
  rcases h.2 with e | ⟨-, e⟩ | ⟨-, e⟩
  · exact e ▸ ha
  · exact e
  · exact e

theorem passes_toLanding (s : State) (n : Nat) : Passes s (toLanding s n) := by
  unfold toLanding
  split
  · rename_i b _
    exact Passes.trans (t := s.modBooking b.number fun k => { k with state := .landing })
      (Passes.quiet rfl rfl rfl rfl rfl rfl) (serves_notifyBooking _ _ _).toPasses
  · exact Passes.refl s

theorem passes_foldl {α : Type} {f : State → α → State} (h : ∀ s a, Passes s (f s a)) (l : List α) (s : State) :
    Passes s (l.foldl f s) := by
  induction l generalizing s with
  | nil => exact Passes.refl s
  | cons a l ih => exact (h s a).trans (ih _)

/-- The bookings under way of a list of numbers become LANDING. -/
theorem serves_toLandings (l : List Nat) (s : State) (hs : bookKept s)
    (hl : ∀ n ∈ l, ∀ b, s.booking n = some b → underWay b.state = true) : Serves s (l.foldl toLanding s) := by
  induction l generalizing s with
  | nil => exact Serves.refl s
  | cons n l ih =>
    have h1 : Serves s (toLanding s n) := by
      unfold toLanding
      split
      · rename_i b hb
        exact serves_moveBooking (booking_self hb) (hl n List.mem_cons_self b hb) rfl
      · exact Serves.refl s
    refine h1.trans (ih _ (h1.book hs).1 fun m hm b hb => ?_)
    obtain ⟨a, ha, hba⟩ := booking_moved h1 hs hb
    exact underWay_moved hba (hl m (List.mem_cons_of_mem n hm) a ha)

theorem landings_next (s : State) : (landings s).book.next = s.book.next :=
  foldl_keeps (fun t : State => t.book.next) toLanding (fun t n => by
    unfold toLanding
    split
    · unfold moveBooking
      rw [notifyBooking_book]
      rfl
    · rfl) _ s

theorem serves_landings (s : State) : Serves s (landings s) := by
  refine ⟨passes_foldl passes_toLanding _ s, landings_next s, fun hs => (serves_toLandings _ s hs fun n hn b hb => ?_).book hs⟩
  obtain ⟨a, ha, hp, rfl⟩ := bookingsWhere_spec hn
  obtain rfl : b = a := Option.some.inj (hb.symm.trans (booking_of_mem hs.1.2.1 ha))
  have hst : b.state = .admitted := by simpa using hp
  rw [hst]
  rfl

/-! ### Admission -/

theorem serves_admitCells {b : Booking} (l : List CellNo) (s : State) (hw : s.windBars = false) :
    Serves s (l.foldl (admitCell b) s) := by
  induction l generalizing s with
  | nil => exact Serves.refl s
  | cons x l ih =>
    have h1 : Serves s (admitCell b s x) :=
      serves_modCell (fun h => absurd h (by simp [hw])) fun hs => recClaimsDue.mono (hs.2.2 x)
        ⟨fun n hn => (mem_forgotten hn).2, fun e he => .inr (List.mem_of_mem_filter he)⟩
    exact h1.trans (ih _ hw)

/-- A booking has no claim on a cell that it does not name. -/
theorem lacksClaim_of_not_named {s : State} {b : Booking} {x : CellNo} (hs : bookKept s)
    (hb : s.booking b.number = some b) (hx : x ∉ b.cells) : lacksClaim b.number (s.cell x) :=
  lacksClaim_of_ne (hs.2.2 x) fun _ hdue e => hx ((Option.some.inj (hb.symm.trans (e ▸ hdue.1))) ▸ hdue.2.2)

/-- A DUE booking of which no cell has a claim any more becomes ADMITTED and its crane's lift. -/
theorem serves_admitted {s : State} {b : Booking} (hb : s.booking b.number = some b) (hd : b.state = .due)
    (hc : bookKept s → ∀ x, lacksClaim b.number (s.cell x)) :
    Serves s ((s.modBooking b.number fun k => { k with state := .admitted }).modCrane b.crane fun k =>
      { k with due := none, lift := some b.number }) := by
  have hread : ∀ n, (s.modBooking b.number fun k => { k with state := .admitted }).booking n
      = if n = b.number then some { b with state := .admitted } else s.booking n := fun n => by
    rw [booking_modBooking, hb]
    · rfl
    · exact fun _ => rfl
  refine serves_ofBook rfl rfl rfl rfl rfl rfl rfl fun hs =>
    ⟨⟨bookBounded_modBooking hs.1 _ _ fun _ => rfl, fun c => ?_, fun x => ?_⟩,
      movedFrom_map _ _ fun a ha hn => ?_⟩
  · rw [crane_modCrane]
    by_cases e : c = b.crane
    · subst e
      rw [if_pos rfl]
      refine ⟨fun n hn => ?_, fun n hn => nomatch hn⟩
      obtain rfl : b.number = n := Option.some.inj hn
      exact ⟨_, (hread _).trans (if_pos rfl), rfl, rfl⟩
    · rw [if_neg e]
      have hother : ∀ {n d}, s.booking n = some d → d.crane = c → n ≠ b.number := by
        rintro n d h1 h2 rfl
        exact e (h2.symm.trans (congrArg Booking.crane (Option.some.inj (h1.symm.trans hb))))
      refine ⟨fun n hn => ?_, fun n hn => ?_⟩
      · obtain ⟨d, h1, h2, h3⟩ := (hs.2.1 c).1 n hn
        exact ⟨d, (hread n).trans ((if_neg (hother h1 h2)).trans h1), h2, h3⟩
      · obtain ⟨d, h1, h2, h3⟩ := (hs.2.1 c).2 n hn
        exact ⟨d, (hread n).trans ((if_neg (hother h1 h2)).trans h1), h2, h3⟩
  · refine recClaimsDue_of_others (hs.2.2 x) (hc hs x) fun d hdl hne hdue => ⟨?_, ?_, hdue.2⟩
    · exact List.mem_map.mpr ⟨d, hdl, if_neg hne⟩
    · exact (hread _).trans ((if_neg hne).trans hdue.1)
  · obtain rfl := eq_of_mem_of_number hs.1 ha hb hn
    exact ⟨rfl, .inr (.inl ⟨hd, rfl⟩)⟩

theorem serves_admit {s : State} {b : Booking} (hb : s.booking b.number = some b) (hd : b.state = .due)
    (hw : s.windBars = false) : Serves s (admitBooking s b) := by
  unfold admitBooking
  have h1 : Serves s (b.cells.foldl (admitCell b) s) := serves_admitCells b.cells s hw
  have hbook : (b.cells.foldl (admitCell b) s).book = s.book := foldl_keeps State.book (admitCell b) (fun _ _ => rfl) _ _
  refine ((h1.trans (serves_admitted ?_ hd fun hs x => ?_)).trans (serves_foldl (fun _ _ => serves_notifyClass _ _ _) _ _)).trans
    (serves_notifyBooking _ _ _)
  · rw [booking_congr hbook]; exact hb
  · by_cases hx : x ∈ b.cells
    · rw [admitCells_cell, if_pos hx]
      exact lacksClaim_admittedCell _ _ _
    · exact lacksClaim_of_not_named hs (booking_congr hbook _ ▸ hb) hx

theorem windBars_of_windAdmits {s : State} {k : LoadClass} (h : windAdmits s.wind.state k = true) :
    s.windBars = false := by
  unfold State.windBars
  cases k <;> cases hw : s.wind.state <;> simp_all [windAdmits]

theorem windBars_of_admissible {s : State} {b : Booking} (h : admissible s b = true) : s.windBars = false := by
  simp only [admissible, Bool.and_eq_true] at h
  exact windBars_of_windAdmits h.1.2

theorem serves_testAdmission (s0 s : State) (n : Nat) : Serves s (testAdmission s0 s n) := by
  unfold testAdmission
  split
  · rename_i b hb
    split
    · rename_i h
      exact serves_admit (booking_self hb) h.1 (windBars_of_admissible h.2.2)
    · exact Serves.refl s
  · exact Serves.refl s

theorem serves_admissions (s0 s : State) : Serves s (admissions s0 s) := serves_foldl (serves_testAdmission s0) _ s

/-! ### The booking release -/

theorem serves_releaseBooked (b : Booking) (k : Option CellNo) (s : State) (x : CellNo) :
    Serves s (releaseBooked b k s x) := by
  unfold releaseBooked
  split
  · rename_i h
    split
    · exact serves_setGrant _ fun _ => ⟨_, h.2, rfl⟩
    · exact serves_releaseCell _ _ _
  · exact Serves.refl s

theorem serves_bookingRelease {s : State} {b : Booking} (k : Option CellNo) (o : BookOutcome) (q : Option Port)
    (hb : s.booking b.number = some b) (hc : bookKept s → ∀ x, lacksClaim b.number (s.cell x)) :
    Serves s (bookingRelease s b k o q) :=
  (serves_endBooking o q hb hc).trans (serves_foldl (serves_releaseBooked b k) _ _)

/-! ### Wind -/

theorem serves_parkingTest (s : State) : Serves s (parkingTest s) := by
  unfold parkingTest
  split
  · rename_i h
    refine Serves.trans (t := s.setWind (windMoved s.wind .vane .parked none)) ?_ (serves_announceWind _ _)
    exact ⟨⟨rfl, fun _ => PortRec.TookNotices.refl _, rfl, rfl, .inr ⟨h.1, rfl⟩, fun _ => gainsNone.refl s⟩,
      rfl, fun hs => ⟨hs, Book.MovedFrom.refl _⟩⟩
  · exact Serves.refl s

/-! ### The output unit's record of a crane -/

theorem serves_feedbackEvent (s : State) (c : Crane) (e : Bool) : Serves s (feedbackEvent s c e) := by
  unfold feedbackEvent
  dsimp only
  split
  · exact ((serves_modOut s c _).trans (serves_modCrane (fun _ => id) fun _ => id)).trans (serves_notifyBoth _ _ _ _)
  · exact serves_modOut s c _

theorem serves_composeVaneNow (s : State) (c : Crane) : Serves s (composeVaneNow s c) := by
  unfold composeVaneNow
  extract_lets held withheld level o a b
  have hb : Serves s b := by
    show Serves s (if _ then _ else _)
    split
    · exact (serves_modOut s c _).trans (serves_notifyBoth _ _ _ _)
    · exact serves_modOut s c _
  split
  · exact hb
  · exact (hb.trans (serves_notifyBoth _ _ _ _)).trans (serves_feedbackEvent _ _ _)

/-! ### The site map -/

theorem serves_startWrite (s : State) (k : Content) : Serves s (startWrite s k) := serves_setStore s _

theorem serves_formTouch (s : State) (c : Crane) : Serves s (formTouch s c) := serves_modEnv s c _

theorem serves_fullComputation (s : State) (c : Crane) : Serves s (fullComputation s c) := by
  unfold fullComputation
  split
  · exact serves_modEnv s c _
  · exact Serves.refl s

theorem serves_setLink (s : State) (c : Crane) (l : LinkState) : Serves s (setLink s c l) :=
  (serves_modCrane (fun _ => id) fun _ => id).trans (serves_notifyClass _ _ _)

theorem serves_disposeCell (a : Option MapBody) (m : MapBody) (s : State) (x : CellNo) :
    Serves s (disposeCell a m s x) := by
  unfold disposeCell
  split
  · exact serves_modCell (fun _ g hg => nomatch hg) fun _ => ⟨fun n hn => (nomatch hn), fun e he => (nomatch he)⟩
  · exact serves_filterList s x _
  · exact Serves.refl s

theorem serves_dropCrane (a : Option MapBody) (s : State) (c : Crane) : Serves s (dropCrane a s c) := by
  unfold dropCrane
  split
  · extract_lets fault u v w
    have hw : Serves s w :=
      (Serves.trans (t := u) (serves_modCrane (f := fun _ => CraneRec.reset) (fun _ hn => by cases hn)
        fun _ hn => by cases hn) (serves_modEnv _ c _)).trans (serves_modOut _ c _)
    split
    · exact hw.trans (serves_notifyBoth _ _ _ _)
    · exact hw
  · exact Serves.refl s

theorem serves_reclamp (s : State) (c : Crane) : Serves s (reclamp s c) := by
  unfold reclamp
  split
  · exact Serves.refl s
  · exact serves_modCrane (fun _ => id) fun _ => id

theorem serves_compareLimits (s : State) (c : Crane) : Serves s (compareLimits s c) := by
  unfold compareLimits
  dsimp only
  split
  · exact Serves.refl s
  · split
    · exact (serves_setLink _ _ _).trans (serves_withdrawRequests _ _ _)
    · split
      · exact serves_setLink _ _ _
      · exact Serves.refl s

theorem serves_adjustReport (m : MapBody) (l : List CellNo) (s : State) (c : Crane) :
    Serves s (adjustReport m l s c) := by
  unfold adjustReport
  dsimp only
  split
  · exact serves_modEnv s c _
  · exact Serves.refl s

theorem serves_activateMap (s : State) (l : List CellNo) : Serves s (activateMap s l) := by
  unfold activateMap
  extract_lets s0 old new a b m k c d e f g i
  have ha : Serves s a := serves_foldl (serves_disposeCell old new) _ _
  have hb : Serves s b := ha.trans (serves_foldl serves_cancelForMap _ _)
  have hm : Serves s k := hb.trans (serves_setMap _ _)
  have hc : Serves s c := hm.trans (serves_foldl (serves_dropCrane old) _ _)
  have hd : Serves s d := hc.trans (serves_foldl serves_reclamp _ _)
  have he : Serves s e := by
    show Serves s (if _ then _ else _)
    split
    · exact hd.trans (serves_foldl serves_compareLimits _ _)
    · exact hd
  have hf : Serves s f := he.trans (serves_foldl (serves_adjustReport new l) _ _)
  have hg : Serves s g := hf.trans (serves_foldl serves_formTouch _ _)
  have hi : Serves s i := hg.trans (serves_foldl (fun _ _ => serves_touchService _ _ _ _) _ _)
  exact hi.trans (serves_setMap _ _)

theorem serves_announceMap (s : State) (a b : Nat) : Serves s (announceMap s a b) :=
  ((serves_startWrite _ _).trans (serves_startWrite _ _)).trans (serves_notifyClass _ _ _)

theorem serves_activate (s : State) (l : List CellNo) : Serves s (activate s l) := by
  unfold activate
  extract_lets n t u v
  have hu : Serves s u := ((serves_activateMap s l).trans (serves_serveCells _ _)).trans (serves_admissions _ _)
  exact ((hu.trans (serves_announceMap _ _ _)).trans (serves_parkingTest _)).trans (serves_foldl serves_composeVaneNow _ _)

theorem serves_drainRetest (s0 s : State) : Serves s (drainRetest s0 s) := by
  unfold drainRetest
  split
  · exact serves_activate _ _
  · exact Serves.refl s

theorem serves_settle (s0 s : State) : Serves s (settle s0 s) :=
  ((serves_serveCells s0 s).trans (serves_admissions s0 _)).trans (serves_drainRetest s0 _)

end Sys2Proof.Machine.Laws

/-! SUPPORT. What an event of a running part leaves, said once for the output unit, the ports and the wind: either nothing
they read has moved, or its outcome has been composed (`Served`). -/

namespace Sys2Proof.Machine

/-- A port after an event that is no event of the port itself (R161, R162). -/
def PortRec.Passed (q r : PortRec) : Prop :=
  r.rx = q.rx ∧ r.buffer = q.buffer ∧ r.tx = q.tx ∧ (q.notices.length ≤ 16 → r.notices.length ≤ 16)
    ∧ (q.notices ≠ [] → r.notices ≠ []) ∧ (q.slot.isSome → r.slot.isSome)

/-- Nothing but the ports differs, and these have passed an event. -/
def Talks (s t : State) : Prop :=
  t = { s with ports := t.ports } ∧ ∀ q, (s.port q).Passed (t.port q)

/-- The level that R87 gives a crane's vane release. -/
def vaneLevel (s : State) (c : Crane) : Bool := vaneEligible s c && (jibHeld s c).isEmpty

/-- What the output unit reads has not moved, and no line of a crane has. -/
structure Unmoved (s t : State) : Prop where
  phase : t.phase = s.phase
  outs : t.outs = s.outs
  sets : ∀ c, sourceSets t c = sourceSets s c
  vane : ∀ c, vaneLevel t c = vaneLevel s c
  values : sourcesOf t = sourcesOf s
  sources : t.sources = s.sources
  sigs : (∀ l, sigFollows s.sources (s.sig l)) → ∀ l, sigFollows t.sources (t.sig l)
  cells : t.cells = s.cells
  wind : t.wind.state = s.wind.state

/-- Registers outside the tables are renewed, as those of measurement, clock and wind, and notices sent. -/
structure Renewed (s t : State) : Prop where
  phase : t.phase = s.phase
  ports : ∀ q, (s.port q).Passed (t.port q)
  sigs : t.sigs = s.sigs
  sources : t.sources = s.sources
  cells : t.cells = s.cells

/-- An event that a running part serves: nothing has moved, or the outcome is composed. Where `K` holds the wind state
before the event is the one it is served in. -/
inductive Served (K : Prop) (s : State) : State → Prop
  | quiet {t : State} (h : Unmoved s t) (hp : ∀ q, (s.port q).Passed (t.port q)) : Served K s t
  | composed {s' s0 u t : State} (hb : Renewed s s') (hw : K → s'.wind.state = s.wind.state) (h : Passes s' u)
      (ht : Talks (compose s0 u) t) : Served K s t

/-! ### Ports that pass -/

theorem PortRec.Passed.refl (q : PortRec) : q.Passed q := ⟨rfl, rfl, rfl, id, id, id⟩

theorem PortRec.Passed.trans {a b c : PortRec} (h : a.Passed b) (k : b.Passed c) : a.Passed c := by
  obtain ⟨h1, h2, h3, h4, h5, h6⟩ := h
  obtain ⟨k1, k2, k3, k4, k5, k6⟩ := k
  exact ⟨k1.trans h1, k2.trans h2, k3.trans h3, k4 ∘ h4, k5 ∘ h5, k6 ∘ h6⟩

theorem PortRec.passed_queueNotice (n : Notice) (q : PortRec) : q.Passed (queueNotice n q) := by
  unfold queueNotice
  split
  · rename_i h
    have h16 : q.notices.length < 16 := h
    exact ⟨rfl, rfl, rfl, fun _ => by simp; omega, fun _ => by simp, id⟩
  · exact ⟨rfl, rfl, rfl, id, id, id⟩

theorem PortRec.TookNotices.passed {q r : PortRec} (h : q.TookNotices r) : q.Passed r := by
  obtain ⟨l, rfl⟩ := h
  induction l generalizing q with
  | nil => exact .refl q
  | cons n l ih => exact (PortRec.passed_queueNotice n q).trans ih

theorem Renewed.refl (s : State) : Renewed s s := ⟨rfl, fun _ => .refl _, rfl, rfl, rfl⟩

theorem Renewed.trans {s t u : State} (h : Renewed s t) (k : Renewed t u) : Renewed s u :=
  ⟨k.phase.trans h.phase, fun q => (h.ports q).trans (k.ports q), k.sigs.trans h.sigs, k.sources.trans h.sources,
    k.cells.trans h.cells⟩

theorem Talks.refl (s : State) : Talks s s := ⟨rfl, fun _ => .refl _⟩

theorem Talks.trans {s t u : State} (h : Talks s t) (k : Talks t u) : Talks s u := by
  refine ⟨?_, fun q => (h.2 q).trans (k.2 q)⟩
  rw [k.1, h.1]

/-- A change of one port that the port passes. -/
theorem talks_modPort {s : State} {p : Port} {f : PortRec → PortRec} (h : (s.port p).Passed (f (s.port p))) :
    Talks s (s.modPort p f) := by
  refine ⟨rfl, fun q => ?_⟩
  rw [Laws.port_modPort]
  split
  · rename_i e; subst e; exact h
  · exact .refl _

theorem Unmoved.refl (s : State) : Unmoved s s :=
  ⟨rfl, rfl, fun _ => rfl, fun _ => rfl, rfl, rfl, id, rfl, rfl⟩

theorem Unmoved.trans {s t u : State} (h : Unmoved s t) (k : Unmoved t u) : Unmoved s u :=
  ⟨k.phase.trans h.phase, k.outs.trans h.outs, fun c => (k.sets c).trans (h.sets c),
    fun c => (k.vane c).trans (h.vane c), k.values.trans h.values, k.sources.trans h.sources, k.sigs ∘ h.sigs,
    k.cells.trans h.cells, k.wind.trans h.wind⟩

namespace Laws

theorem talks_respond (s : State) (p : Port) (r : Response) : Talks s (s.respond p r) :=
  talks_modPort ⟨rfl, rfl, rfl, id, id, fun _ => rfl⟩

theorem talks_notify (s : State) (p : Port) (n : Notice) : Talks s (s.notify p n) :=
  talks_modPort (PortRec.passed_queueNotice n _)

theorem talks_notifySup (s : State) (k : NoticeClass) (n : Notice) (x : Sup) : Talks s (s.notifySup k n x) := by
  unfold State.notifySup
  split
  · exact talks_notify _ _ _
  · exact Talks.refl s

theorem talks_notifyClass (s : State) (k : NoticeClass) (n : Notice) : Talks s (s.notifyClass k n) :=
  (talks_notifySup s k n .s1).trans (talks_notifySup _ k n .s2)

theorem talks_notifyBoth (s : State) (c : Crane) (k : NoticeClass) (n : Notice) : Talks s (s.notifyBoth c k n) :=
  (talks_notify s (.c c) n).trans (talks_notifyClass _ k n)

theorem talks_notifyBookingSup (s : State) (o : Port) (n : Notice) (x : Sup) : Talks s (s.notifyBookingSup o n x) := by
  unfold State.notifyBookingSup
  split
  · exact talks_notify _ _ _
  · exact Talks.refl s

theorem talks_notifyBooking (s : State) (b : Booking) (n : Notice) : Talks s (s.notifyBooking b n) :=
  ((talks_notify s (.c b.crane) n).trans (talks_notifyBookingSup _ b.origin n .s1)).trans
    (talks_notifyBookingSup _ b.origin n .s2)

theorem talks_foldl {α : Type} {f : State → α → State} (h : ∀ s a, Talks s (f s a)) (l : List α) (s : State) :
    Talks s (l.foldl f s) := by
  induction l generalizing s with
  | nil => exact Talks.refl s
  | cons a l ih => exact (h s a).trans (ih _)

theorem talks_announceWind (s : State) (w : WindState) : Talks s (announceWind s w) :=
  (talks_foldl (fun _ _ => talks_notify _ _ _) _ s).trans (talks_notifyClass _ _ _)

/-- What reads no port is the same after talk. -/
theorem of_talks {γ : Type} {s t : State} (g : State → γ) (h : Talks s t)
    (hg : ∀ (u : State) v, g { u with ports := v } = g u) : g t = g s := by
  rw [h.1]
  exact hg s _

/-! ### What has not moved -/

theorem renewed_of_talks {s t : State} (h : Talks s t) : Renewed s t := by
  refine ⟨?_, h.2, ?_, ?_, ?_⟩ <;> rw [h.1]

theorem unmoved_of_talks {s t : State} (h : Talks s t) : Unmoved s t := by
  rw [h.1]
  exact ⟨rfl, rfl, fun _ => rfl, fun _ => rfl, rfl, rfl, id, rfl, rfl⟩

/-! ### The composition -/

theorem serves_composeLines (s : State) (c : Crane) : Serves s (composeLines s c) := by
  unfold composeLines
  dsimp only
  split
  · exact serves_modOut s c _
  · exact (serves_modOut s c _).trans (serves_notify _ _ _)

theorem serves_composeVane (s0 s : State) (c : Crane) : Serves s (composeVane s0 s c) := by
  unfold composeVane
  split
  · exact serves_composeVaneNow s c
  · exact Serves.refl s

/-- A composition but for the signals. -/
def composeOuts (s0 s : State) : State := allCranes.foldl (composeVane s0) (allCranes.foldl composeLines s)

theorem compose_eq (s0 s : State) : compose s0 s = updateSignals (composeOuts s0 s) := rfl

theorem serves_composeOuts (s0 s : State) : Serves s (composeOuts s0 s) :=
  (serves_foldl serves_composeLines _ s).trans (serves_foldl (serves_composeVane s0) _ _)

theorem updateSignals_keeps {γ : Type} (g : State → γ) (h1 : ∀ u l f, g (State.modSig u l f) = g u)
    (h2 : ∀ u k, g (State.setSources u k) = g u) (s : State) : g (updateSignals s) = g s := by
  unfold updateSignals
  rw [h2]
  exact foldl_keeps g (followSource s.sources (sourcesOf s)) (fun u l => h1 u l _) allLines s

/-- What reads neither outputs nor notices is the same after a composition. -/
theorem of_sansOutputs {γ : Type} {s t : State} (g : State → γ) (h : s.sansOutputs = t.sansOutputs)
    (hg : ∀ u : State, g u.sansOutputs = g u) : g s = g t := (hg s).symm.trans ((congrArg g h).trans (hg t))

@[simp] theorem compose_cells (s0 s : State) : (compose s0 s).cells = s.cells :=
  of_sansOutputs State.cells (compose_sansOutputs s0 s) fun _ => rfl

@[simp] theorem compose_cell (s0 s : State) (x : CellNo) : (compose s0 s).cell x = s.cell x :=
  of_sansOutputs (fun u : State => u.cell x) (compose_sansOutputs s0 s) fun _ => rfl

@[simp] theorem compose_wind (s0 s : State) : (compose s0 s).wind = s.wind :=
  of_sansOutputs State.wind (compose_sansOutputs s0 s) fun _ => rfl

theorem updateSignals_port (s : State) (q : Port) : (updateSignals s).port q = s.port q :=
  updateSignals_keeps (fun u : State => u.port q) (fun _ _ _ => rfl) (fun _ _ => rfl) s

theorem updateSignals_sources (s : State) : (updateSignals s).sources = sourcesOf s := rfl

theorem updateSignals_values (s : State) : sourcesOf (updateSignals s) = sourcesOf s :=
  updateSignals_keeps sourcesOf (fun _ _ _ => rfl) (fun _ _ => rfl) s

/-- The ports after a composition have only taken notices. -/
theorem compose_notices (s0 s : State) (q : Port) : (s.port q).TookNotices ((compose s0 s).port q) := by
  rw [compose_eq, updateSignals_port]
  exact (serves_composeOuts s0 s).notices q

/-- The sources after a composition are those of the state it leaves. -/
theorem compose_sources (s0 s : State) : (compose s0 s).sources = sourcesOf (compose s0 s) := by
  rw [compose_eq, updateSignals_sources, updateSignals_values]

theorem sourceMoves_cfg (r : SigRec) (a b : Bool) : (sourceMoves r a b).cfg = r.cfg := by
  unfold sourceMoves
  split
  · rfl
  · split
    · rfl
    · split <;> rfl
    · split <;> rfl

theorem sourceMoves_idem (r : SigRec) (a b : Bool) : sourceMoves (sourceMoves r a b) a b = sourceMoves r a b := by
  obtain ⟨⟨en, src, sense, mode⟩, drive, phase⟩ := r
  cases en <;> cases mode <;> cases a <;> cases b <;> rfl

/-- A line after its source has moved. -/
def followed (old new : Sources) (r : SigRec) : SigRec :=
  sourceMoves r (sourceValue old r.cfg.source) (sourceValue new r.cfg.source)

theorem followed_idem (old new : Sources) (r : SigRec) : followed old new (followed old new r) = followed old new r := by
  unfold followed
  rw [sourceMoves_cfg]
  exact sourceMoves_idem _ _ _

theorem foldl_followSource_sig (old new : Sources) (ls : List SigLine) (s : State) (l : SigLine) :
    (ls.foldl (followSource old new) s).sig l = if l ∈ ls then followed old new (s.sig l) else s.sig l := by
  induction ls generalizing s with
  | nil => simp
  | cons k ls ih =>
    have h1 : (followSource old new s k).sig l = if l = k then followed old new (s.sig k) else s.sig l := by
      unfold followSource
      rw [sig_modSig]
      rfl
    rw [List.foldl_cons, ih, h1]
    by_cases hk : l = k
    · subst hk
      by_cases hl : l ∈ ls <;> simp [hl, followed_idem]
    · simp [hk]

theorem updateSignals_sig (s : State) (l : SigLine) :
    (updateSignals s).sig l = followed s.sources (updateSignals s).sources (s.sig l) := by
  have h := foldl_followSource_sig s.sources (sourcesOf s) allLines s l
  rw [if_pos (mem_allLines l)] at h
  rw [updateSignals_sources]
  unfold updateSignals
  rw [sig_setSources]
  exact h

theorem sig_of_sigs {s t : State} (h : t.sigs = s.sigs) (l : SigLine) : t.sig l = s.sig l := by
  unfold State.sig; rw [h]

/-- A line after a composition has followed its source. -/
theorem compose_sig (s0 s : State) (l : SigLine) :
    (compose s0 s).sig l = followed s.sources (compose s0 s).sources (s.sig l) := by
  have hp := (serves_composeOuts s0 s).toPasses
  rw [compose_eq, updateSignals_sig, sig_of_sigs hp.sigs, hp.sources]

/-- A line that followed its source follows it after the source has moved (R94). -/
theorem sigFollows_followed {old new : Sources} {r : SigRec} (h : sigFollows old r) :
    sigFollows new (followed old new r) := by
  obtain ⟨⟨en, src, sense, mode⟩, drive, phase⟩ := r
  cases en with
  | false => exact ⟨h.1, Bool.noConfusion, Bool.noConfusion, Bool.noConfusion⟩
  | true =>
    obtain ⟨-, hl, hp, hf⟩ := h
    unfold sigFollows followed sourceMoves
    cases mode <;> cases ha : sourceValue old src <;> cases hb : sourceValue new src <;> simp_all

/-! ### What passes -/

theorem passes_setBook (s : State) (k : Book) : Passes s (s.setBook k) := Passes.quiet rfl rfl rfl rfl rfl rfl

theorem passes_modCrane (s : State) (c : Crane) (f : CraneRec → CraneRec) : Passes s (s.modCrane c f) :=
  Passes.quiet rfl rfl rfl rfl rfl rfl

theorem passes_notifyBooking (s : State) (b : Booking) (n : Notice) : Passes s (s.notifyBooking b n) :=
  (serves_notifyBooking s b n).toPasses

theorem passes_modCell {s : State} {x : CellNo} {f : CellRec → CellRec} (hg : ∀ k, (f k).grant = k.grant) :
    Passes s (s.modCell x f) := by
  refine ⟨rfl, fun _ => PortRec.TookNotices.refl _, rfl, rfl, .inl rfl, fun _ y g hy => ?_⟩
  rw [cell_modCell] at hy
  split at hy
  · rename_i e
    subst e
    exact ⟨g, hg _ ▸ hy, rfl⟩
  · exact ⟨g, hy, rfl⟩

theorem passes_placeClaim (b : Booking) (s : State) (x : CellNo) : Passes s (placeClaim b s x) := by
  unfold placeClaim
  split
  · exact passes_modCell fun _ => rfl
  · exact (serves_withdrawRequest _ _ _ _).toPasses.trans (passes_modCell fun _ => rfl)

theorem passes_forgetBooking (s : State) (b : Booking) : Passes s (forgetBooking s b) := passes_modCrane s _ _

theorem passes_endBooking (s : State) (b : Booking) (o : BookOutcome) (q : Option Port) :
    Passes s (endBooking s b o q) :=
  ((passes_forgetBooking s b).trans (passes_setBook _ _)).trans (passes_notifyBooking _ _ _)

theorem passes_moveBooking (s : State) (b : Booking) (st : BookState) : Passes s (moveBooking s b st) :=
  Passes.trans (t := s.modBooking b.number fun k => { k with state := st }) (passes_setBook _ _)
    (passes_notifyBooking _ _ _)

theorem passes_bookingRelease (s : State) (b : Booking) (k : Option CellNo) (o : BookOutcome) (q : Option Port) :
    Passes s (bookingRelease s b k o q) :=
  (passes_endBooking s b o q).trans (serves_foldl (serves_releaseBooked b k) _ _).toPasses

theorem passes_becomeDue (s : State) (n : Nat) (f : Option BookState) : Passes s (becomeDue s n f) := by
  unfold becomeDue
  split
  · exact Passes.refl s
  · rename_i b _
    extract_lets s0 a d e u v
    have ha : Passes s a := passes_setBook _ _
    have he : Passes s e := (ha.trans (passes_modCrane _ _ _)).trans (passes_foldl (passes_placeClaim b) _ _)
    have hv : Passes s v := (he.trans (serves_serveCells _ _).toPasses).trans (passes_notifyBooking _ _ _)
    exact (hv.trans (serves_admissions _ _).toPasses).trans (serves_drainRetest _ _).toPasses

theorem passes_returnBooking (s : State) (n : Nat) : Passes s (returnBooking s n) := by
  unfold returnBooking
  split
  · exact Passes.refl s
  · exact ((serves_withdrawClaims _ _).toPasses.trans (passes_forgetBooking _ _)).trans (passes_moveBooking _ _ _)

theorem passes_takeAll {f : State → Nat → State} (hf : ∀ s n, Passes s (f s n)) (test : Booking → Bool) (s : State) :
    Passes s (takeAll test f s) :=
  passes_foldl (fun t n => by
    unfold takeIf
    split
    · exact hf t n
    · exact Passes.refl t) _ s

theorem passes_takeAllThenSettle {f : State → Nat → State} (hf : ∀ s n, Passes s (f s n)) (test : Booking → Bool)
    (s : State) : Passes s (takeAllThenSettle test f s) :=
  (passes_takeAll hf test s).trans (serves_settle _ _).toPasses

theorem takeCounting_fst (test : Booking → Bool) (f : State → Nat → State) (s : State) :
    (takeCounting test f s).1 = takeAll test f s := by
  unfold takeCounting takeAll
  generalize bookingsWhere s test = l
  have h : ∀ (l : List Nat) (a : State × Nat), (l.foldl
      (fun (a : State × Nat) n => if (a.1.booking n).any test then (f a.1 n, a.2 + 1) else (a.1, a.2)) a).1
        = l.foldl (takeIf test f) a.1 := by
    intro l
    induction l with
    | nil => exact fun _ => rfl
    | cons n l ih =>
      intro a
      rw [List.foldl_cons, List.foldl_cons, ih]
      unfold takeIf
      split <;> rfl
  exact h l (s, 0)

theorem passes_secondChecks (now : Nat) (s : State) : Passes s (secondChecks now s) :=
  (((passes_takeAll (fun t n => passes_becomeDue t n _) _ s).trans
    (passes_takeAllThenSettle (fun t n => (serves_lapseBooking t n).toPasses) _ _)).trans
    (passes_takeAll (fun t n => (serves_lapseBooking t n).toPasses) _ _)).trans
    (passes_takeAll (fun t n => (serves_markOverrun t n).toPasses) _ _)

theorem passes_judgeBook (former new : Nat) (s : State) : Passes s (judgeBook former new s).1 := by
  have hf : Passes s (forwardSetting new s).1 := by
    unfold forwardSetting
    dsimp only
    rw [takeCounting_fst]
    exact ((passes_takeAllThenSettle (fun t n => (serves_lapseBooking t n).toPasses) _ s).trans
      (passes_takeAll (fun t n => passes_becomeDue t n _) _ _)).trans
      (passes_takeAll (fun t n => (serves_markOverrun t n).toPasses) _ _)
  have hb : Passes s (backwardSetting new s).1 := passes_takeAllThenSettle passes_returnBooking _ s
  unfold judgeBook
  generalize forwardSetting new s = a at hf ⊢
  generalize backwardSetting new s = b at hb ⊢
  split
  · exact hf
  · split
    · exact hb
    · exact Passes.refl s

/-! ### How an event is served -/

section
variable {K : Prop} {s t : State}


theorem served_compose {u : State} (s0 : State) (h : Passes s u) : Served K s (compose s0 u) :=
  .composed (Renewed.refl s) (fun _ => rfl) h (Talks.refl _)

theorem served_conclude {u : State} (s0 : State) (h : Passes s u) : Served K s (conclude s0 u) :=
  served_compose s0 (h.trans (serves_settle s0 u).toPasses)

theorem served_talks {u : State} (h : Served K s t) (k : Talks t u) : Served K s u := by
  cases h with
  | quiet h hp => exact .quiet (h.trans (unmoved_of_talks k)) fun q => (hp q).trans (k.2 q)
  | composed hb hw h ht => exact .composed hb hw h (ht.trans k)

theorem served_of_unmoved (h : Unmoved s t) (hp : t.ports = s.ports) : Served K s t := by
  refine .quiet h fun q => ?_
  have e : t.port q = s.port q := by unfold State.port; rw [hp]
  rw [e]
  exact .refl _

theorem served_of_talks (h : Talks s t) : Served K s t := served_talks (served_of_unmoved (Unmoved.refl s) rfl) h

end

end Laws
end Sys2Proof.Machine

/-! SUPPORT. Every effect of a request, and every event of a running part, is served (`Served`). -/

namespace Sys2Proof.Machine.Laws

/-! ### What passes, request by request -/

theorem serves_storeReport (s : State) (c : Crane) (d : Decl) (r : RawReport) : Serves s (storeReport s c d r) := by
  unfold storeReport
  dsimp only
  split
  · exact serves_modCrane (fun _ => id) fun _ => id
  · exact (serves_modCrane (fun _ => id) fun _ => id).trans (serves_setLink _ _ _)

theorem serves_placeRequest (s : State) (c : Crane) (x : CellNo) : Serves s (placeRequest s c x) :=
  serves_modCell_list rfl ⟨fun _ => id, fun e he => by
    rcases List.mem_append.mp he with he | he
    · exact .inr he
    · rw [List.mem_singleton.mp he]; exact .inl rfl⟩

theorem serves_grantFree {s : State} {x : CellNo} {c : Crane} (h : canGrant s x c = true) (k : GrantKind) (w : CellCause) :
    Serves s (setGrant s x ⟨c, k⟩ w) :=
  serves_setGrant w fun hw => Bool.noConfusion ((canGrant_windBars h).symm.trans hw)

theorem serves_tellLeft (s : State) (p : Port) (c : Crane) (x : CellNo) : Serves s (tellLeft s p c x) := by
  cases p with
  | c _ => exact Serves.refl s
  | s _ => exact serves_notify _ _ _

theorem serves_touchForDuty (s : State) (c : Crane) : Serves s (touchForDuty s c) := by
  unfold touchForDuty
  refine Serves.trans ?_ (serves_formTouch _ _)
  split
  · exact serves_fullComputation s c
  · exact Serves.refl s

/-- A change of duty before its outcome is composed. -/
def dutyServed (s0 : State) (c : Crane) (d : Duty) : State :=
  let s := touchForDuty (s0.modCrane c fun k => { k with duty := d }) c
  let s := touchService s c (touchCells (s0.env c)) (d == .inService)
  let s := if d = .parked ∨ d = .outOfService then parkingRule s c else s
  let s := settle s0 s
  if (s0.crane c).duty = .inService then parkingTest s else s

theorem changeDuty_eq (s0 : State) (p : Port) (c : Crane) (d : Duty) :
    changeDuty s0 p c d = (compose s0 (dutyServed s0 c d)).notifyBoth c .crane (.duty c (s0.crane c).duty d p) := rfl

theorem serves_dutyServed (s : State) (c : Crane) (d : Duty) : Serves s (dutyServed s c d) := by
  unfold dutyServed
  extract_lets a b e f
  have ha : Serves s a :=
    (serves_modCrane (f := fun k => { k with duty := d }) (fun _ => id) fun _ => id).trans (serves_touchForDuty _ _)
  have hb : Serves s b := ha.trans (serves_touchService _ _ _ _)
  have he : Serves s e := by
    show Serves s (if _ then _ else _)
    split
    · exact hb.trans (serves_parkingRule _ _)
    · exact hb
  have hf : Serves s f := he.trans (serves_settle _ _)
  split
  · exact hf.trans (serves_parkingTest _)
  · exact hf

theorem booking_of_currentLift {s : State} {c : Crane} {b : Booking} (h : currentLift s c = some b) :
    ∃ n ∈ (s.crane c).lift, s.booking n = some b := by
  obtain ⟨n, hn, hb⟩ := Option.bind_eq_some_iff.mp h
  exact ⟨n, hn, hb⟩

/-- The crane's current lift is under way in a sound book, so no cell has a claim of it. -/
theorem lacksClaim_of_currentLift {s : State} {c : Crane} {b : Booking} (h : currentLift s c = some b) (hs : bookKept s)
    (x : CellNo) : lacksClaim b.number (s.cell x) := by
  obtain ⟨n, hn, hb⟩ := booking_of_currentLift h
  obtain ⟨d, hd, -, hu⟩ := (hs.2.1 c).1 n hn
  obtain rfl : b = d := Option.some.inj (hb.symm.trans hd)
  exact lacksClaim_of_not_due hs (booking_self hb) (fun e => by simp [e, underWay] at hu) x

theorem serves_forceFree (s : State) (x : CellNo) (g : Grant) : Serves s (forceFree s x g) := by
  unfold forceFree
  extract_lets u
  have hu : Serves s u := (serves_releaseCell _ _ _).trans (serves_notify _ _ _)
  split
  · split
    · rename_i b hb
      obtain ⟨n, -, hn⟩ := booking_of_currentLift hb
      exact hu.trans (serves_bookingRelease _ _ _ (booking_self hn) fun hs => lacksClaim_of_currentLift hb hs)
    · exact hu
  · exact hu

/-- The wind record is renewed, and the rest of SITE_STOP passes. -/
theorem passes_siteStops (s : State) : ∃ w, Serves (s.setWind w) (siteStops s) := by
  unfold siteStops
  extract_lets u
  split
  · exact ⟨_, serves_announceWind _ _⟩
  · unfold withdrawReady
    split
    · exact ⟨_, (serves_notifyClass _ _ _).trans (serves_announceWind _ _)⟩
    · exact ⟨_, serves_announceWind _ _⟩
  · exact ⟨_, ((serves_announceWind _ _).trans (serves_landings _)).trans (serves_parkingTest _)⟩

theorem passes_staysAt (s : State) (n : Nat) : ∃ w, Serves (s.setWind w) (staysAt s n) := by
  unfold staysAt withdrawReady
  extract_lets u v
  split
  · split
    · exact ⟨_, serves_notifyClass _ _ _⟩
    · exact ⟨_, Serves.refl _⟩
  · exact ⟨_, Serves.refl _⟩

/-- The wind record is renewed, and the rest of what a sample does to the wind state passes. -/
theorem passes_applyStep (s : State) (st : WindStep) : ∃ w, Serves (s.setWind w) (applyStep s st) := by
  unfold applyStep
  split
  · exact ⟨_, ((serves_announceWind _ _).trans (serves_landings _)).trans (serves_parkingTest _)⟩
  · exact ⟨_, serves_announceWind _ _⟩
  · exact ⟨_, serves_announceWind _ _⟩
  · exact ⟨_, serves_notifyClass _ _ _⟩
  · exact passes_staysAt s _

/-! ### What has not moved, request by request -/

/-- A change of the book that leaves which cranes have a lift in progress. -/
theorem unmoved_setBook {s : State} {k : Book} (h : ∀ c, (s.setBook k).liftInProgress c = s.liftInProgress c) :
    Unmoved s (s.setBook k) := by
  refine ⟨rfl, rfl, fun c => ?_, fun _ => rfl, rfl, rfl, id, rfl, rfl⟩
  unfold sourceSets windSet
  rw [h c]
  rfl

/-- A change of a crane's record that the output unit does not read. -/
theorem unmoved_modCrane {s : State} {c : Crane} {f : CraneRec → CraneRec} (hl : ∀ k, (f k).link = k.link)
    (hd : ∀ k, (f k).duty = k.duty) (hn : ∀ k, (f k).lift = k.lift) (hp : ∀ k, (f k).parkSw = k.parkSw)
    (hv : ∀ k, (f k).vaneFault = k.vaneFault) : Unmoved s (s.modCrane c f) := by
  have hlink : ∀ d, ((s.modCrane c f).crane d).link = (s.crane d).link := fun d => by
    rw [crane_modCrane]; split
    · rename_i e; subst e; exact hl _
    · rfl
  have hduty : ∀ d, ((s.modCrane c f).crane d).duty = (s.crane d).duty := fun d => by
    rw [crane_modCrane]; split
    · rename_i e; subst e; exact hd _
    · rfl
  have hlift : ∀ d, ((s.modCrane c f).crane d).lift = (s.crane d).lift := fun d => by
    rw [crane_modCrane]; split
    · rename_i e; subst e; exact hn _
    · rfl
  have hpark : ∀ d, ((s.modCrane c f).crane d).parkSw = (s.crane d).parkSw := fun d => by
    rw [crane_modCrane]; split
    · rename_i e; subst e; exact hp _
    · rfl
  have hfault : ∀ d, ((s.modCrane c f).crane d).vaneFault = (s.crane d).vaneFault := fun d => by
    rw [crane_modCrane]; split
    · rename_i e; subst e; exact hv _
    · rfl
  have hprog : ∀ d, (s.modCrane c f).liftInProgress d = s.liftInProgress d := fun d => by
    unfold State.liftInProgress
    rw [hlift]
    rfl
  refine ⟨rfl, rfl, fun d => ?_, fun d => ?_, ?_, rfl, id, rfl, rfl⟩
  · unfold sourceSets linkSet dutySet windSet
    rw [hlink, hduty, hprog]
    rfl
  · unfold vaneLevel vaneEligible
    rw [hpark, hduty]
    rfl
  · unfold sourcesOf
    simp only [hlink, hfault]
    rfl

theorem mem_insertBooking {b c : Booking} {l : List Booking} : c ∈ insertBooking b l ↔ c = b ∨ c ∈ l := by
  induction l with
  | nil => simp [insertBooking]
  | cons a l ih =>
    unfold insertBooking
    split
    · simp
    · simp [ih, or_left_comm]

/-- Which booking a number names once one joins the book under another number. -/
theorem find?_insertBooking (b : Booking) (l : List Booking) {n : Nat} (hn : b.number ≠ n) :
    (insertBooking b l).find? (fun c => c.number == n) = l.find? fun c => c.number == n := by
  induction l with
  | nil => simp [insertBooking, hn]
  | cons a l ih =>
    unfold insertBooking
    split
    · rw [List.find?_cons_of_neg (by simpa using hn)]
    · rw [List.find?_cons, List.find?_cons, ih]

/-- A booking that joins the book under a number that none holds is the one of its number. -/
theorem find?_insertBooking_self (b : Booking) (l : List Booking) (hl : ∀ c ∈ l, c.number ≠ b.number) :
    (insertBooking b l).find? (fun c => c.number == b.number) = some b := by
  induction l with
  | nil => simp [insertBooking]
  | cons a l ih =>
    unfold insertBooking
    split
    · simp
    · rw [List.find?_cons_of_neg (by simpa using hl a List.mem_cons_self)]
      exact ih fun c hc => hl c (List.mem_cons_of_mem a hc)

/-! ### The number given to a booking -/

/-- After a number comes the next, and 1 after the last (R131). -/
theorem freeNumber_succ (live : List Booking) (fuel n : Nat) :
    freeNumber live (fuel + 1) n
      = if live.any (fun b => b.number == n) then freeNumber live fuel (numberAfter n) else n := rfl

theorem iterate_numberAfter (n i : Nat) (hi : i ≤ 65534) :
    numberAfter^[i] n = if n ≤ 65535 ∧ 65535 < n + i then n + i - 65535 else n + i := by
  induction i with
  | zero => simp
  | succ i ih =>
    rw [Function.iterate_succ_apply', ih (by omega)]
    unfold numberAfter
    split <;> split <;> split <;> omega

/-- If the number found is held, so is every number tried. -/
theorem held_of_freeNumber_held {live : List Booking} {fuel n : Nat}
    (h : ∃ b ∈ live, b.number = freeNumber live fuel n) (i : Nat) (hi : i ≤ fuel) :
    ∃ b ∈ live, b.number = numberAfter^[i] n := by
  induction fuel generalizing n i with
  | zero => obtain rfl : i = 0 := by omega
            exact h
  | succ fuel ih =>
    rw [freeNumber_succ] at h
    by_cases hn : live.any fun b => b.number == n
    · rw [if_pos hn] at h
      cases i with
      | zero => simpa using hn
      | succ i => exact ih h i (by omega)
    · rw [if_neg hn] at h
      exact absurd (by simpa using h) hn

/-- A row of held numbers is no longer than the book. -/
theorem heldRun_le {k : Book} (hk : k.live.length < 96) {j : Nat}
    (hheld : ∀ i < j, ∃ b ∈ k.live, b.number = numberAfter^[i] k.next) : j ≤ k.live.length := by
  by_contra hlt
  have hsub : (List.range (k.live.length + 1)).map (fun i => numberAfter^[i] k.next) ⊆ k.live.map (·.number) := by
    intro m hm
    obtain ⟨i, hi, rfl⟩ := List.mem_map.mp hm
    obtain ⟨c, hc, hn⟩ := hheld i (by have := List.mem_range.mp hi; omega)
    exact List.mem_map.mpr ⟨c, hc, hn⟩
  have hnodup : ((List.range (k.live.length + 1)).map fun i => numberAfter^[i] k.next).Nodup := by
    refine List.nodup_range.map_on fun i hi j hj h => ?_
    have hi' := List.mem_range.mp hi
    have hj' := List.mem_range.mp hj
    rw [iterate_numberAfter _ _ (by omega), iterate_numberAfter _ _ (by omega)] at h
    split at h <;> split at h <;> omega
  have hlen := (List.subperm_of_subset hnodup hsub).length_le
  simp at hlen

/-- A book that is not full gives a number that no live booking holds (R131). -/
theorem numberGiven_free (k : Book) (hk : k.live.length < 96) : ∀ b ∈ k.live, b.number ≠ numberGiven k := by
  intro b hb e
  have hheld := held_of_freeNumber_held ⟨b, hb, e⟩
  have := heldRun_le hk (j := k.live.length + 1) fun i hi => hheld i (by omega)
  omega

/-- A book that passes BOOK's checks is not full (R132). -/
theorem length_of_bookRefusal {s : State} {c : Crane} {f : BookFields} (h : bookRefusal s c f = none) :
    s.book.live.length < 96 := by
  unfold bookRefusal at h
  simp only [Option.orElse_eq_orElse, Option.orElse_eq_or, Option.or_eq_none_iff] at h
  obtain ⟨-, -, -, -, -, -, -, h⟩ := h
  by_contra hlen
  have : Config.bookMax ≤ s.book.live.length := by simpa [Config.bookMax] using hlen
  simp [this] at h

theorem booking_numberGiven (s : State) (h : s.book.live.length < 96) : s.booking (numberGiven s.book) = none := by
  unfold State.booking
  rw [List.find?_eq_none]
  intro b hb
  simpa using numberGiven_free s.book h b hb

/-- Which booking a number names once an accepted BOOK is in the book (R136). -/
theorem booking_bookWith (s : State) (p : Port) (c : Crane) (f : BookFields) (h : s.book.live.length < 96) (n : Nat) :
    (s.setBook (bookWith s.book (bookingOf s p c f))).booking n
      = if n = numberGiven s.book then some (bookingOf s p c f) else s.booking n := by
  split
  · rename_i e
    subst e
    exact find?_insertBooking_self (bookingOf s p c f) s.book.live (numberGiven_free s.book h)
  · rename_i e
    exact find?_insertBooking (bookingOf s p c f) s.book.live fun e' => e e'.symm

theorem bookingOf_state (s : State) (p : Port) (c : Crane) (f : BookFields) :
    (bookingOf s p c f).state = .booked ∨ (bookingOf s p c f).state = .referred := by
  unfold bookingOf
  dsimp only
  split
  · exact .inl rfl
  · exact .inr rfl

theorem liftInProgress_of_inLift {s t : State} {c : Crane} (hc : (t.crane c).lift = (s.crane c).lift)
    (hb : ∀ n, inLift (bookStateOf t n) = inLift (bookStateOf s n)) : t.liftInProgress c = s.liftInProgress c := by
  unfold State.liftInProgress
  rw [hc]
  split
  · exact hb _
  · rfl

/-- An accepted BOOK that is not DUE moves nothing that the output unit reads. -/
theorem unmoved_bookWith (s : State) (p : Port) (c : Crane) (f : BookFields) (h : s.book.live.length < 96) :
    Unmoved s (s.setBook (bookWith s.book (bookingOf s p c f))) := by
  refine unmoved_setBook fun d => liftInProgress_of_inLift rfl fun n => ?_
  unfold bookStateOf
  rw [booking_bookWith s p c f h]
  split
  · rename_i e
    subst e
    rw [booking_numberGiven s h, Option.map_some, Option.map_none]
    rcases bookingOf_state s p c f with e | e <;> rw [e] <;> rfl
  · rfl

/-- A REFERRED booking accepted before its start moves nothing that the output unit reads. -/
theorem unmoved_ruled {s : State} {b : Booking} (hb : s.booking b.number = some b) (hr : b.state = .referred) :
    Unmoved s (s.modBooking b.number fun k => { k with state := .booked, note := none }) := by
  refine unmoved_setBook fun d => liftInProgress_of_inLift rfl fun n => ?_
  have h : (s.modBooking b.number fun k => { k with state := .booked, note := none }).booking n
      = if n = b.number then (s.booking b.number).map fun k => { k with state := .booked, note := none }
        else s.booking n := booking_modBooking _ _ _ _ fun _ => rfl
  show inLift (((s.modBooking b.number fun k => { k with state := .booked, note := none }).booking n).map _) = _
  unfold bookStateOf
  rw [h]
  split
  · rename_i e
    subst e
    rw [hb]
    simp only [Option.map_some, hr]
    rfl
  · rfl

/-! ### Every effect of a request is served -/

theorem sigFollows_driveFresh (k : Sources) (g : SigCfg) : sigFollows k (driveFresh g (sourceValue k g.source)) := by
  obtain ⟨en, src, sense, mode⟩ := g
  unfold sigFollows driveFresh
  cases en <;> cases mode <;> cases hv : sourceValue k src <;> simp [hv]

theorem unmoved_configured (s : State) (l : SigLine) (g : SigCfg) :
    Unmoved s (s.modSig l fun _ => driveFresh g (sourceValue s.sources g.source)) := by
  refine ⟨rfl, rfl, fun _ => rfl, fun _ => rfl, rfl, rfl, fun h k => ?_, rfl, rfl⟩
  rw [sig_modSig]
  split
  · exact sigFollows_driveFresh _ _
  · exact h k

theorem unmoved_selectEdges (s : State) (c : Crane) (i : Input) (e : EdgeSel) : Unmoved s (selectEdges s c i e) := by
  cases i with
  | parkSw => exact unmoved_modCrane (f := fun k => { k with parkSel := e }) (fun _ => rfl) (fun _ => rfl) (fun _ => rfl) (fun _ => rfl) fun _ => rfl
  | vaneFb => exact unmoved_modCrane (f := fun k => { k with vaneSel := e }) (fun _ => rfl) (fun _ => rfl) (fun _ => rfl) (fun _ => rfl) fun _ => rfl

/-- A change that the output unit does not read, and then talk. -/
theorem served_quiet {K : Prop} {s t u : State} (h : Unmoved s t) (hp : t.ports = s.ports) (k : Talks t u) :
    Served K s u := served_talks (served_of_unmoved h hp) k

theorem served_siteStops {K : Prop} (s : State) (hK : ¬K) : Served K s (conclude s (siteStops s)) := by
  obtain ⟨w, hw⟩ := passes_siteStops s
  exact .composed (s' := s.setWind w) ⟨rfl, fun _ => .refl _, rfl, rfl, rfl⟩ (fun k => absurd k hK)
    (hw.trans (serves_settle s _)).toPasses (Talks.refl _)

/-- Every effect of a request is served, and a request of a crane link in the wind state it finds. -/
theorem Performed.served {p : Port} {s t : State} (h : Performed p s t) : Served (∃ c, p = .c c) s t := by
  cases h with
  | ignored => exact served_of_talks (Talks.refl s)
  | responded r => exact served_of_talks (talks_respond _ _ _)
  | readStatus r =>
    exact served_of_talks ((talks_modPort ⟨rfl, rfl, rfl, id, id, id⟩).trans (talks_respond _ _ _))
  | masked m r => exact served_of_talks ((talks_modPort ⟨rfl, rfl, rfl, id, id, id⟩).trans (talks_respond _ _ _))
  | reported c d r hp hd =>
    exact served_conclude s ((((serves_storeReport s c d r).trans (serves_fullComputation _ _)).trans
      (serves_formTouch _ _)).trans (serves_touchService _ _ _ _)).toPasses
  | entered c x h =>
    unfold acceptEnter
    split
    · rename_i hg
      exact served_talks (served_conclude s
        ((serves_grantFree (Bool.and_eq_true_iff.mp hg).2 .entry .enter).trans (serves_notify _ _ _)).toPasses)
        (talks_respond _ _ _)
    · exact served_talks (served_conclude s (serves_placeRequest s c x).toPasses) (talks_respond _ _ _)
  | left c x h =>
    exact served_talks (served_conclude s ((serves_releaseCell s x .leave).trans (serves_tellLeft _ _ _ _)).toPasses)
      (talks_respond _ _ _)
  | booked c f h =>
    have hlen := length_of_bookRefusal h
    unfold acceptBook
    extract_lets b u st v
    refine served_talks ?_ (talks_respond _ _ _)
    show Served _ s (if _ then _ else _)
    split
    · exact served_compose s ((passes_setBook s _).trans (passes_becomeDue _ _ _))
    · exact served_quiet (unmoved_bookWith s p c f hlen) rfl (talks_notifyBooking _ _ _)
  | cancelled n b hb hu =>
    unfold acceptCancel
    extract_lets u
    refine served_talks (served_conclude s (Passes.trans (t := u) ?_ (passes_endBooking _ _ _ _))) (talks_respond _ _ _)
    show Passes s (if _ then _ else _)
    split
    · exact (serves_withdrawClaims s b).toPasses
    · exact Passes.refl s
  | ended c b hp hb =>
    unfold endLift
    split
    · exact served_talks (served_conclude s (passes_moveBooking _ _ _)) (talks_respond _ _ _)
    · exact served_talks (served_conclude s (passes_bookingRelease _ _ _ _ _)) (talks_respond _ _ _)
  | dutyChanged k c d hd =>
    rw [changeDuty_eq]
    exact served_talks (served_compose s (serves_dutyServed s c d).toPasses)
      ((talks_notifyBoth _ _ _ _).trans (talks_respond _ _ _))
  | authorityGiven y m r =>
    exact served_quiet (t := { s with holder := y })
      ⟨rfl, rfl, fun _ => rfl, fun _ => rfl, rfl, rfl, id, rfl, rfl⟩ rfl
      (((talks_notify _ _ _).trans (talks_notify _ _ _)).trans (talks_respond _ _ _))
  | forced x g hg r =>
    exact served_talks (served_conclude s (serves_forceFree s x g).toPasses) (talks_respond _ _ _)
  | manualPlaced k c m =>
    unfold answerInhibit placeManual
    extract_lets old u
    refine served_talks ?_ (talks_respond _ _ _)
    have hu : Served (∃ c, p = .c c) s u := served_compose s (serves_modOut s c _).toPasses
    split
    · exact hu
    · exact served_talks hu (talks_notifyClass _ _ _)
  | signalSet l g r =>
    exact served_quiet ((unmoved_configured s l g).trans
      (u := startWrite (s.modSig l fun _ => driveFresh g (sourceValue s.sources g.source)) _)
      ⟨rfl, rfl, fun _ => rfl, fun _ => rfl, rfl, rfl, id, rfl, rfl⟩) rfl
      ((talks_notifyClass _ _ _).trans (talks_respond _ _ _))
  | edgesSelected c i e r =>
    refine served_quiet (unmoved_selectEdges s c i e) ?_ (talks_respond _ _ _)
    cases i <;> rfl
  | ruled n b a hb hr =>
    unfold giveRuling
    split
    · refine served_talks ?_ (talks_respond _ _ _)
      unfold acceptRuling
      split
      · exact served_compose s (passes_becomeDue _ _ _)
      · exact served_quiet (unmoved_ruled (booking_self hb) hr) rfl (talks_notifyBooking _ _ _)
    · exact served_talks (served_conclude s (passes_endBooking _ _ _ _)) (talks_respond _ _ _)
  | released n b o q r hb hu =>
    exact served_talks (served_conclude s (passes_bookingRelease _ _ _ _ _)) (talks_respond _ _ _)
  | clockSet y v hp =>
    exact .composed (s' := clockTakes s v) ⟨rfl, fun _ => .refl _, rfl, rfl, rfl⟩ (fun _ => rfl) (passes_judgeBook _ _ _)
      ((talks_notifyClass _ _ _).trans (talks_respond _ _ _))
  | siteStopped y hp r =>
    refine served_talks (served_siteStops s ?_) (talks_respond _ _ _)
    rintro ⟨c, rfl⟩
    cases hp
  | flagCleared r =>
    exact served_quiet (t := s.setWind { s.wind with manual := false })
      ⟨rfl, rfl, fun _ => rfl, fun _ => rfl, rfl, rfl, id, rfl, rfl⟩ rfl
      ((talks_announceWind _ _).trans (talks_respond _ _ _))
  | resumed y hp r hv =>
    refine .composed (s' := s.setWind (windMoved s.wind .hold s.wind.cause none)) ⟨rfl, fun _ => .refl _, rfl, rfl, rfl⟩ ?_
      ((serves_announceWind _ s.wind.state).trans (serves_settle s _)).toPasses (talks_respond _ _ _)
    rintro ⟨c, rfl⟩
    cases hp
  | windSet k q r =>
    exact served_quiet (t := s.setMeas { s.meas with pendingSet := some k })
      ⟨rfl, rfl, fun _ => rfl, fun _ => rfl, rfl, rfl, id, rfl, rfl⟩ rfl
      ((talks_notifyClass _ _ _).trans (talks_respond _ _ _))
  | calSet k q r =>
    exact served_quiet (t := startWrite (s.setMeas { s.meas with waiting := some k }) (.calibration k))
      ⟨rfl, rfl, fun _ => rfl, fun _ => rfl, rfl, rfl, id, rfl, rfl⟩ rfl
      ((talks_notifyClass _ _ _).trans (talks_respond _ _ _))
  | staged m v r =>
    exact served_quiet (t := s.setMap { s.map with staged := m, stagedParams := v })
      ⟨rfl, rfl, fun _ => rfl, fun _ => rfl, rfl, rfl, id, rfl, rfl⟩ rfl (talks_respond _ _ _)
  | committed h =>
    unfold decideCommit
    extract_lets cells
    split
    · exact served_talks (served_compose s (serves_activate _ _).toPasses) (talks_respond _ _ _)
    · exact served_quiet (t := s.setMap { s.map with
          commit := .pending (s.map.params.commitWait * 1000), draining := Vector.ofFn fun x => cells.contains x })
        ⟨rfl, rfl, fun _ => rfl, fun _ => rfl, rfl, rfl, id, rfl, rfl⟩ rfl
        ((talks_notifyClass _ _ _).trans (talks_respond _ _ _))
  | commitCancelled r =>
    exact served_talks (served_conclude s ((serves_setMap s _).trans (serves_notifyClass _ _ _)).toPasses)
      (talks_respond _ _ _)

/-! ### Every event of a running part is served -/

section
variable {K : Prop} (s : State)

theorem served_self : Served K s s := served_of_talks (Talks.refl s)

theorem serves_tellEdge (c : Crane) (i : Input) (e : EdgeSel) (old : Level) (b : Bool) :
    Serves s (tellEdge c i e old b s) := by
  unfold tellEdge
  split
  · exact serves_notifyBoth _ _ _ _
  · exact Serves.refl s

theorem serves_tellParkLost (c : Crane) (b : Bool) : Serves s (tellParkLost c b s) := by
  unfold tellParkLost
  split
  · exact serves_notifyBoth _ _ _ _
  · exact Serves.refl s

theorem served_parkSw (c : Crane) (b : Bool) : Served K s (parkSwTaken c b s) := by
  unfold parkSwTaken
  extract_lets k t
  split
  · exact served_self s
  · have ht : Serves s t := serves_modCrane (fun _ => id) fun _ => id
    exact served_compose s ((ht.trans (serves_tellEdge _ _ _ _ _ _)).trans (serves_tellParkLost _ _ _)).toPasses

theorem served_vaneFb (c : Crane) (b : Bool) : Served K s (vaneFbTaken c b s) := by
  unfold vaneFbTaken
  extract_lets k t
  split
  · exact served_self s
  · have ht : Serves s t := serves_modCrane (fun _ => id) fun _ => id
    exact served_compose s ((ht.trans (serves_tellEdge _ _ _ _ _ _)).trans (serves_feedbackEvent _ _ _)).toPasses

theorem unmoved_setStore (v : Store) : Unmoved s (s.setStore v) :=
  ⟨rfl, rfl, fun _ => rfl, fun _ => rfl, rfl, rfl, id, rfl, rfl⟩

theorem served_written (good : Bool) : Served K s (writeEnds good s) := by
  unfold writeEnds
  split
  · exact served_self s
  · rename_i k _
    extract_lets u
    split
    · exact served_of_unmoved (unmoved_setStore s _) rfl
    · split
      · refine served_quiet (unmoved_setStore s _) ?_ (talks_notifyClass _ _ _)
        rfl
      · exact served_of_unmoved (unmoved_setStore s _) rfl

theorem talks_announceChannel (ch : Channel) (a b : ChanStatus) (v : Bool) : Talks s (announceChannel ch a b v s) := by
  unfold announceChannel
  split
  · exact Talks.refl s
  · exact talks_notifyClass _ _ _

theorem talks_announceChannels (a b : Meas) : Talks s (announceChannels a b s) :=
  (talks_announceChannel s _ _ _ _).trans (talks_announceChannel _ _ _ _ _)

theorem renewed_announceTable (m : Meas) : Renewed s (announceTable m s) := by
  unfold announceTable
  split
  · exact (renewed_of_talks (talks_notifyClass s _ _)).trans
      (u := startWrite _ _) ⟨rfl, fun _ => .refl _, rfl, rfl, rfl⟩
  · exact Renewed.refl s

/-- What a sample leaves before it is judged: its notices and its measurement state (R100). -/
def sampleTold (s0 : State) : State :=
  let gated := gateChannels s0.meas
  announceTable s0.meas ((announceChannels gated (applyWaiting gated)
    (announceChannels s0.meas gated s0)).setMeas (sampled s0.meas))

theorem takeSample_eq : takeSample s = conclude s (applyStep (sampleTold s) (sampleStep s)) := rfl

theorem renewed_sampleTold : Renewed s (sampleTold s) :=
  ((renewed_of_talks ((talks_announceChannels s _ _).trans (talks_announceChannels _ _ _))).trans
    (u := State.setMeas _ (sampled s.meas)) ⟨rfl, fun _ => .refl _, rfl, rfl, rfl⟩).trans (renewed_announceTable _ _)

theorem served_sample (hK : ¬K) : Served K s (takeSample s) := by
  rw [takeSample_eq]
  obtain ⟨w, hw⟩ := passes_applyStep (sampleTold s) (sampleStep s)
  exact .composed (s' := (sampleTold s).setWind w)
    ((renewed_sampleTold s).trans ⟨rfl, fun _ => .refl _, rfl, rfl, rfl⟩) (fun k => absurd k hK)
    (hw.trans (serves_settle s _)).toPasses (Talks.refl _)

theorem serves_tellNotParked (c : Crane) : Serves s (tellNotParked s c) := by
  unfold tellNotParked
  split
  · exact serves_notifyBoth _ _ _ _
  · exact Serves.refl s

theorem served_parkTimer (hK : ¬K) : Served K s (parkTimerEnds s) := by
  unfold parkTimerEnds
  split
  · exact .composed (s' := s.setWind (windMoved s.wind .vane .timeout none)) ⟨rfl, fun _ => .refl _, rfl, rfl, rfl⟩
      (fun k => absurd k hK)
      (((serves_announceWind _ _).trans (serves_foldl serves_tellNotParked _ _)).trans (serves_settle s _)).toPasses
      (Talks.refl _)
  · exact served_self s

theorem served_dropLink (c : Crane) (l : LinkState) : Served K s (dropLink s c l) :=
  served_conclude s ((((serves_setLink s c l).trans (serves_formTouch _ _)).trans (serves_touchService _ _ _ _)).trans
    (serves_withdrawRequests _ _ _)).toPasses

theorem served_silence (c : Crane) : Served K s (silenceEnds c s) := by
  unfold silenceEnds
  split
  · exact served_dropLink s c _
  · exact served_self s

theorem served_lost (c : Crane) : Served K s (lostEnds c s) := by
  unfold lostEnds
  split
  · exact served_dropLink s c _
  · exact served_self s

theorem served_waitTimer (x : CellNo) (c : Crane) : Served K s (waitEnds x c s) := by
  unfold waitEnds
  split
  · exact served_conclude s ((serves_filterList s x _).trans (serves_notify _ _ _)).toPasses
  · exact served_self s

theorem serves_tellOverdue (x : CellNo) : Serves s (tellOverdue s x) := by
  unfold tellOverdue
  split
  · exact serves_notifyClass _ _ _
  · exact Serves.refl s

theorem served_recallTimer (x : CellNo) : Served K s (recallEnds x s) := by
  unfold recallEnds
  split
  · exact served_conclude s ((serves_modCell_list rfl (claimsWithin_of_sublist rfl fun _ => id)).trans
      (serves_tellOverdue _ x)).toPasses
  · exact served_self s

theorem served_second : Served K s (secondPasses s) := by
  unfold secondPasses
  split
  · exact .composed (s' := s.setClock ⟨s.clock.count + 1, true, 1000⟩) ⟨rfl, fun _ => .refl _, rfl, rfl, rfl⟩
      (fun _ => rfl) (passes_secondChecks _ _) (Talks.refl _)
  · exact served_self s

theorem served_commitTimer : Served K s (commitTimerEnds s) := by
  unfold commitTimerEnds
  split
  · exact served_conclude s ((serves_setMap s _).trans (serves_notifyClass _ _ _)).toPasses
  · exact served_self s

theorem served_feedbackTimer (c : Crane) : Served K s (feedbackTimerEnds c s) := by
  unfold feedbackTimerEnds
  split
  · exact served_self s
  · extract_lets t
    have ht : Serves s t := (serves_modCrane (f := fun r => { r with vaneFault := true }) (fun _ => id) fun _ => id).trans
      (serves_modOut _ c _)
    exact served_compose s (ht.trans (serves_notifyBoth _ _ _ _)).toPasses

end

theorem phase_of_core {s t : State} (h : t.core = s.core) : t.phase = s.phase := by
  have hp : t.core.phase = s.core.phase := congrArg State.phase h
  exact hp

end Sys2Proof.Machine.Laws

namespace Sys2Proof.Machine

open Sys2Proof.Machine.Laws

/-! ### What a served event keeps -/

section
variable {K : Prop} {s t : State}

/-- The ports pass every served event. -/
theorem Served.ports (h : Served K s t) (q : Port) : (s.port q).Passed (t.port q) := by
  cases h with
  | quiet _ hp => exact hp q
  | composed hb hw hu ht =>
    exact (((hb.ports q).trans (hu.notices q).passed).trans (compose_notices _ _ q).passed).trans (ht.2 q)

theorem Served.phase (h : Served K s t) : t.phase = s.phase := by
  cases h with
  | quiet h _ => exact h.phase
  | @composed s' s0 u _ hb hw hu ht =>
    have hc : (compose s0 u).core = s'.core := (compose_core s0 u).trans hu.core
    have hp : (compose s0 u).phase = s'.phase := phase_of_core hc
    have htp : t.phase = (compose s0 u).phase := of_talks State.phase ht fun _ _ => rfl
    rw [htp, hp, hb.phase]

/-- The motion lines follow their sources after a served event (R81 to R84). -/
theorem Served.lines (h : Served K s t)
    (hs : ∀ c, (s.out c).src = sourceSets s c ∧ (s.out c).lines = unionOf (s.out c).src) (c : Crane) :
    (t.out c).src = sourceSets t c ∧ (t.out c).lines = unionOf (t.out c).src := by
  cases h with
  | quiet h _ =>
    have hout : t.out c = s.out c := by unfold State.out; rw [h.outs]
    rw [hout, h.sets c]
    exact hs c
  | @composed s' s0 u _ hb hw hu ht =>
    have hout : t.out c = (compose s0 u).out c := of_talks (fun v : State => v.out c) ht fun _ _ => rfl
    have hset : sourceSets t c = sourceSets (compose s0 u) c := of_talks (fun v => sourceSets v c) ht fun _ _ => rfl
    rw [hout, hset]
    exact compose_current s0 u c

/-- The vane release lines follow their conditions after a served event (R87, R89). -/
theorem Served.vane (h : Served K s t) (hs : ∀ c, (s.out c).composed = true → (s.out c).vane = vaneLevel s c)
    (c : Crane) (hc : (t.out c).composed = true) : (t.out c).vane = vaneLevel t c := by
  cases h with
  | quiet h _ =>
    have hout : t.out c = s.out c := by unfold State.out; rw [h.outs]
    rw [hout] at hc ⊢
    rw [h.vane c]
    exact hs c hc
  | @composed s' s0 u _ hb hw hu ht =>
    have hout : t.out c = (compose s0 u).out c := of_talks (fun v : State => v.out c) ht fun _ _ => rfl
    have hlevel : vaneLevel t c = vaneLevel (compose s0 u) c := of_talks (fun v => vaneLevel v c) ht fun _ _ => rfl
    rw [hout] at hc ⊢
    rw [hlevel]
    exact compose_vane s0 u c hc

/-- The signal sources and lines are current after a served event (R93, R94). -/
theorem Served.signals (h : Served K s t) (hs : s.sources = sourcesOf s ∧ ∀ l, sigFollows s.sources (s.sig l)) :
    t.sources = sourcesOf t ∧ ∀ l, sigFollows t.sources (t.sig l) := by
  cases h with
  | quiet h _ => exact ⟨by rw [h.sources, h.values]; exact hs.1, h.sigs hs.2⟩
  | @composed s' s0 u _ hb hw hu ht =>
    have hsrc : t.sources = (compose s0 u).sources := of_talks State.sources ht fun _ _ => rfl
    have hval : sourcesOf t = sourcesOf (compose s0 u) := of_talks sourcesOf ht fun _ _ => rfl
    refine ⟨by rw [hsrc, hval]; exact compose_sources s0 u, fun l => ?_⟩
    have hsig : t.sig l = (compose s0 u).sig l := of_talks (fun v : State => v.sig l) ht fun _ _ => rfl
    rw [hsig, hsrc, compose_sig, sig_of_sigs (hu.sigs.trans hb.sigs), hu.sources.trans hb.sources]
    exact sigFollows_followed (hs.2 l)

/-- A served event that ends with the wind bar of R69 gives no crane a cell. -/
theorem Served.gainsNone (h : Served K s t) (ht : t.windBars = true) : gainsNone s t := by
  cases h with
  | quiet h _ =>
    intro x g hg
    have : t.cell x = s.cell x := by unfold State.cell; rw [h.cells]
    exact ⟨g, this ▸ hg, rfl⟩
  | @composed s' s0 u _ hb hw hu htalk =>
    have hcell : ∀ x, t.cell x = u.cell x := fun x =>
      (of_talks (fun v : State => v.cell x) htalk fun _ _ => rfl).trans (compose_cell s0 u x)
    have hwind : t.wind = u.wind := (of_talks State.wind htalk fun _ _ => rfl).trans (compose_wind s0 u)
    have hbars : s'.windBars = true := by
      unfold State.windBars at ht ⊢
      rw [hwind] at ht
      rcases hu.wind with e | ⟨e, -⟩
      · rw [← e]; exact ht
      · simp [e]
    intro x g hg
    rw [hcell] at hg
    obtain ⟨g0, hg0, e⟩ := hu.holders hbars x g hg
    have : s'.cell x = s.cell x := by unfold State.cell; rw [hb.cells]
    exact ⟨g0, this ▸ hg0, e⟩

/-- Where an event is served in the wind state before it, the wind bar stands after it where it stood before. -/
theorem Served.bars (h : Served K s t) (hK : K) (hs : s.windBars = true) : t.windBars = true := by
  cases h with
  | quiet h _ =>
    unfold State.windBars at hs ⊢
    rw [h.wind]
    exact hs
  | @composed s' s0 u _ hb hw hu htalk =>
    have hwind : t.wind = u.wind := (of_talks State.wind htalk fun _ _ => rfl).trans (compose_wind s0 u)
    have hs' : s'.windBars = true := by
      unfold State.windBars at hs ⊢
      rw [hw hK]
      exact hs
    have hu' := hu.windBars hs'
    unfold State.windBars at hu' ⊢
    rw [hwind]
    exact hu'

end

end Sys2Proof.Machine

/-! SUPPORT. The events of a step, for the output unit and the ports: which leave what the output unit reads, which are
served, and what the resets, the start-up and time do (O3, O4, O6). -/

namespace Sys2Proof.Machine.Laws

/-! ### Kinds of events -/

/-- An event, for the output unit. -/
inductive EventKind (s : State) : State → Prop
  | unmoved {t : State} (h : Unmoved s t) : EventKind s t
  | served {t : State} (hr : s.phase = .running) (h : Served False s t) : EventKind s t
  | resetTaken (k : ResetCause) : EventKind s (takeReset k s)
  | supplyFailed (b : Bool) : EventKind s (supplyFails b s)
  | startedUp : EventKind s (startUp s)
  | pulseStopped (l : SigLine) : EventKind s (s.modSig l pulseStops)
  | flashTurned (l : SigLine) : EventKind s (s.modSig l flashTurns)
  | ticked (hr : s.phase = .running) : EventKind s (tickRunning s)

theorem unmoved_ports (s : State) (v : Vector PortRec 10) : Unmoved s { s with ports := v } :=
  ⟨rfl, rfl, fun _ => rfl, fun _ => rfl, rfl, rfl, id, rfl, rfl⟩

theorem unmoved_setClock (s : State) (k : Clock) : Unmoved s (s.setClock k) :=
  ⟨rfl, rfl, fun _ => rfl, fun _ => rfl, rfl, rfl, id, rfl, rfl⟩

theorem unmoved_written (s : State) (good : Bool) : Unmoved s (writeEnds good s) := by
  unfold writeEnds
  split
  · exact Unmoved.refl s
  · extract_lets u
    split
    · exact unmoved_setStore s _
    · split
      · exact (unmoved_setStore s _).trans (unmoved_of_talks (talks_notifyClass _ _ _))
      · exact unmoved_setStore s _

theorem unmoved_countSecond (s : State) : Unmoved s (countSecond s) := by
  unfold countSecond
  split
  · exact unmoved_setClock s _
  · exact Unmoved.refl s

theorem unmoved_transmit (s : State) : Unmoved s s.transmit := by
  unfold State.transmit
  generalize allPorts = l
  induction l generalizing s with
  | nil => exact Unmoved.refl s
  | cons p l ih => exact (unmoved_ports s _).trans (ih (s.modPort p startTx))

theorem unmoved_pulse (s : State) (ch : Channel) (n : Nat) : Unmoved s (s.setMeas (pulseAt s.meas ch n)) := by
  refine ⟨rfl, rfl, fun _ => rfl, fun _ => rfl, ?_, rfl, id, rfl, rfl⟩
  have hstatus : ∀ k : ChanRec, (pulse k n).status = k.status := fun k => by
    unfold pulse; split <;> rfl
  have hfault : anemometerFault (pulseAt s.meas ch n) = anemometerFault s.meas := by
    cases ch <;> simp only [anemometerFault, pulseAt, hstatus]
  unfold sourcesOf
  rw [setMeas_meas, hfault]
  rfl

theorem served_weaken {K L : Prop} {s t : State} (h : Served K s t) (hKL : L → K) : Served L s t := by
  cases h with
  | quiet h hp => exact .quiet h hp
  | composed hb hw h ht => exact .composed hb (fun l => hw (hKL l)) h ht

theorem Event.kind {s t : State} (h : Event s t) : EventKind s t := by
  cases h with
  | queued l => exact .unmoved ⟨rfl, rfl, fun _ => rfl, fun _ => rfl, rfl, rfl, id, rfl, rfl⟩
  | transmitted => exact .unmoved (unmoved_transmit s)
  | received p r => exact .unmoved (unmoved_ports s _)
  | buffered p f => exact .unmoved (unmoved_ports s _)
  | taken p f l => exact .unmoved (unmoved_ports s _)
  | performed _ p hr h => exact .served hr (served_weaken h.served False.elim)
  | responseSent p => exact .unmoved (unmoved_ports s _)
  | restartAwaited => exact .unmoved ⟨rfl, rfl, fun _ => rfl, fun _ => rfl, rfl, rfl, id, rfl, rfl⟩
  | noticeSent p => exact .unmoved (unmoved_ports s _)
  | resetTaken k => exact .resetTaken k
  | supplyFailed b => exact .supplyFailed b
  | startedUp => exact .startedUp
  | secondCounted => exact .unmoved (unmoved_countSecond s)
  | written good => exact .unmoved (unmoved_written s good)
  | parkSw c b hr => exact .served hr (served_parkSw s c b)
  | vaneFb c b hr => exact .served hr (served_vaneFb s c b)
  | takeKey k => exact .unmoved ⟨rfl, rfl, fun _ => rfl, fun _ => rfl, rfl, rfl, id, rfl, rfl⟩
  | pulsed ch n => exact .unmoved (unmoved_pulse s ch n)
  | sampled hr => exact .served hr (served_sample s id)
  | parkTimer hr => exact .served hr (served_parkTimer s id)
  | silence c hr => exact .served hr (served_silence s c)
  | lost c hr => exact .served hr (served_lost s c)
  | waitTimer x c hr => exact .served hr (served_waitTimer s x c)
  | recallTimer x hr => exact .served hr (served_recallTimer s x)
  | second hr => exact .served hr (served_second s)
  | commitTimer hr => exact .served hr (served_commitTimer s)
  | feedbackTimer c hr => exact .served hr (served_feedbackTimer s c)
  | pulseStopped l => exact .pulseStopped l
  | flashTurned l => exact .flashTurned l
  | ticked =>
    unfold tick
    split
    · rename_i hr; exact .ticked hr
    · exact .unmoved (unmoved_setClock s _)
    · exact .unmoved (Unmoved.refl s)

/-! ### Ten milliseconds -/

theorem tickRunning_cell (s : State) (x : CellNo) : (tickRunning s).cell x = tickCell (s.cell x) := by
  simp [tickRunning, State.cell]

theorem tickRunning_crane (s : State) (c : Crane) : (tickRunning s).crane c = tickCrane (s.crane c) := by
  simp [tickRunning, State.crane]

theorem tickRunning_out (s : State) (c : Crane) :
    (tickRunning s).out c = { s.out c with check := tickCheck (s.out c).check } := by
  simp [tickRunning, State.out]

theorem tickRunning_sig (s : State) (l : SigLine) :
    (tickRunning s).sig l = { s.sig l with phase := lessOf (s.sig l).phase } := by
  simp [tickRunning, State.sig]

theorem tickRunning_liftInProgress (s : State) (c : Crane) : (tickRunning s).liftInProgress c = s.liftInProgress c :=
  liftInProgress_of_inLift (by rw [tickRunning_crane]; rfl) fun _ => rfl

theorem tickRunning_sets (s : State) (c : Crane) : sourceSets (tickRunning s) c = sourceSets s c := by
  have hholds : ∀ x, (tickRunning s).holds c x = s.holds c x := fun x => by
    unfold State.holds
    rw [tickRunning_cell]
    rfl
  unfold sourceSets zoneSet linkSet dutySet windSet
  simp only [hholds, tickRunning_crane, tickRunning_liftInProgress, tickRunning_out]
  rfl

theorem tickRunning_vane (s : State) (c : Crane) : vaneLevel (tickRunning s) c = vaneLevel s c := by
  have hheld : jibHeld (tickRunning s) c = jibHeld s c := by
    unfold jibHeld
    simp only [tickRunning_cell]
    rfl
  unfold vaneLevel vaneEligible
  rw [hheld, tickRunning_crane]
  rfl

theorem tickRecall_overdue (r : Recall) : (tickRecall r == .overdue) = (r == .overdue) := by
  cases r <;> rfl

theorem tickRunning_values (s : State) : sourcesOf (tickRunning s) = sourcesOf s := by
  have hrecall : ∀ x, (((tickRunning s).cell x).recallState == .overdue) = ((s.cell x).recallState == .overdue) := fun x => by
    rw [tickRunning_cell]
    exact tickRecall_overdue _
  unfold sourcesOf
  simp only [hrecall, tickRunning_crane, tickRunning_out]
  rfl

/-! ### The start-up -/

theorem composeQuiet_out (s : State) (c d : Crane) :
    (composeQuiet s c).out d =
      if d = c then { s.out c with src := sourceSets s c, lines := unionOf (sourceSets s c) } else s.out d := by
  unfold composeQuiet
  rw [out_modOut]

/-- The lines of the cranes in a list after each of them is composed without notice. -/
theorem foldl_composeQuiet_out (l : List Crane) (s : State) (d : Crane) :
    (l.foldl composeQuiet s).out d =
      if d ∈ l then { s.out d with src := sourceSets s d, lines := unionOf (sourceSets s d) } else s.out d := by
  induction l generalizing s with
  | nil => simp
  | cons c l ih =>
    have hs : sourceSets (composeQuiet s c) d = sourceSets s d := by
      refine sourceSets_congr (s := composeQuiet s c) (t := s) (sourceView_of (modOut_sansOutputs s c _)) d ?_
      rw [composeQuiet_out]
      split
      · rename_i h; subst h; rfl
      · rfl
    rw [List.foldl_cons, ih, hs, composeQuiet_out]
    by_cases hc : d = c
    · subst hc; simp
    · simp [hc]

/-- The state of a start-up before its notices (R167). -/
def startedState (s : State) : State :=
  applySignals (allCranes.foldl composeQuiet (allCranes.foldl formTouch (loadState s)))

theorem startUp_eq (s : State) : startUp s
    = (((startedState s).notify (.s .s1) (.started (startedState s).cause (startedState s).store.loads)).notify (.s .s2)
        (.started (startedState s).cause (startedState s).store.loads)).transmit := rfl

theorem unmoved_started (s : State) : Unmoved (startedState s) (startUp s) := by
  rw [startUp_eq]
  exact (unmoved_of_talks ((talks_notify _ _ _).trans (talks_notify _ _ _))).trans (unmoved_transmit _)

theorem applySignals_out (s : State) (c : Crane) : (applySignals s).out c = s.out c := rfl

theorem applySignals_phase (s : State) : (applySignals s).phase = s.phase := rfl

theorem applySignals_ports (s : State) : (applySignals s).ports = s.ports := rfl

theorem applySignals_view (s : State) : (applySignals s).sourceView = s.sourceView := rfl

theorem foldl_formTouch_keeps {γ : Type} (g : State → γ) (hg : ∀ s c f, g (State.modEnv s c f) = g s) (s : State) :
    g (allCranes.foldl formTouch s) = g s := foldl_keeps g formTouch (fun t c => hg t c _) _ s

theorem foldl_composeQuiet_keeps {γ : Type} (g : State → γ) (hg : ∀ s c f, g (State.modOut s c f) = g s) (s : State) :
    g (allCranes.foldl composeQuiet s) = g s := foldl_keeps g composeQuiet (fun t c => by unfold composeQuiet; exact hg t c _) _ s

theorem loadState_out (s : State) (c : Crane) : (loadState s).out c = outAt (s.out c) := by
  simp [loadState, State.out]

/-- The lines of a start-up are composed and no vane release is (R86, R89). -/
theorem startedState_out (s : State) (c : Crane) :
    ((startedState s).out c).src = sourceSets (startedState s) c
      ∧ ((startedState s).out c).lines = unionOf ((startedState s).out c).src
      ∧ ((startedState s).out c).composed = false := by
  unfold startedState
  have hcomposed : ((allCranes.foldl formTouch (loadState s)).out c).composed = false := by
    rw [foldl_formTouch_keeps (fun t : State => t.out c) (fun _ _ _ => rfl), loadState_out]
    rfl
  generalize allCranes.foldl formTouch (loadState s) = u at hcomposed ⊢
  have hout : (allCranes.foldl composeQuiet u).out c
      = { u.out c with src := sourceSets u c, lines := unionOf (sourceSets u c) } := by
    rw [foldl_composeQuiet_out, if_pos (mem_allCranes c)]
  have hsets : sourceSets (applySignals (allCranes.foldl composeQuiet u)) c = sourceSets u c := by
    refine sourceSets_congr ?_ c ?_
    · rw [applySignals_view]
      exact sourceView_of (foldl_composeQuiet_keeps State.sansOutputs (fun _ _ _ => rfl) u)
    · rw [applySignals_out, hout]
      rfl
  rw [hsets, applySignals_out, hout]
  exact ⟨rfl, rfl, hcomposed⟩

theorem applySignals_follows (s : State) :
    (applySignals s).sources = sourcesOf (applySignals s)
      ∧ ∀ l, sigFollows (applySignals s).sources ((applySignals s).sig l) := by
  refine ⟨rfl, fun l => ?_⟩
  have h : (applySignals s).sig l
      = driveFresh (sigConfigs s.store)[l] (sourceValue (sourcesOf s) (sigConfigs s.store)[l].source) := by
    simp [applySignals, State.sig]
  rw [h]
  exact sigFollows_driveFresh _ _

/-! ### The motion lines -/

theorem linesCurrent_unmoved {s t : State} (h : Unmoved s t) (hs : linesCurrent s) : linesCurrent t := by
  have hout : ∀ c, t.out c = s.out c := fun c => by unfold State.out; rw [h.outs]
  unfold linesCurrent at hs ⊢
  rw [h.phase]
  cases hp : s.phase with
  | running =>
    rw [hp] at hs
    intro c
    rw [hout, h.sets c]
    exact hs c
  | resetting =>
    rw [hp] at hs
    intro c
    rw [hout]
    exact hs c
  | unpowered => trivial

theorem linesCurrent_running {s : State} (hp : s.phase = .running) :
    linesCurrent s ↔ ∀ c, (s.out c).src = sourceSets s c ∧ (s.out c).lines = unionOf (s.out c).src := by
  unfold linesCurrent
  rw [hp]

theorem startedState_phase (s : State) : (startedState s).phase = .running := by
  unfold startedState
  rw [applySignals_phase, foldl_composeQuiet_keeps State.phase (fun _ _ _ => rfl),
    foldl_formTouch_keeps State.phase fun _ _ _ => rfl]
  rfl

theorem EventKind.lines {s t : State} (h : EventKind s t) (hs : linesCurrent s) : linesCurrent t := by
  cases h with
  | unmoved h => exact linesCurrent_unmoved h hs
  | served hr h => exact (linesCurrent_running (h.phase.trans hr)).mpr (h.lines ((linesCurrent_running hr).mp hs))
  | resetTaken k =>
    intro c
    simp [takeReset, State.out, heldOut]
  | supplyFailed b => trivial
  | startedUp =>
    exact linesCurrent_unmoved (unmoved_started s) ((linesCurrent_running (startedState_phase s)).mpr fun c =>
      ⟨(startedState_out s c).1, (startedState_out s c).2.1⟩)
  | pulseStopped l => exact hs
  | flashTurned l => exact hs
  | ticked hr =>
    refine (linesCurrent_running (s := tickRunning s) hr).mpr fun c => ?_
    rw [tickRunning_sets, tickRunning_out]
    exact (linesCurrent_running hr).mp hs c

/-! ### The signals -/

theorem sigFollows_pulseStops {k : Sources} {r : SigRec} (h : sigFollows k r) : sigFollows k (pulseStops r) := by
  obtain ⟨⟨en, src, sense, mode⟩, drive, phase⟩ := r
  unfold pulseStops
  split
  · rename_i hp
    obtain ⟨rfl, rfl⟩ : mode = .pulse ∧ phase = some 0 := hp
    cases en with
    | false => exact nomatch (h.1 rfl).2
    | true => exact ⟨nofun, nofun, fun _ _ => rfl, nofun⟩
  · exact h

theorem sigFollows_flashTurns {k : Sources} {r : SigRec} (h : sigFollows k r) : sigFollows k (flashTurns r) := by
  obtain ⟨⟨en, src, sense, mode⟩, drive, phase⟩ := r
  unfold flashTurns
  split
  · rename_i hp
    obtain ⟨rfl, rfl⟩ : mode = .flash ∧ phase = some 0 := hp
    cases en with
    | false => exact nomatch (h.1 rfl).2
    | true =>
      have hf := h.2.2.2 rfl rfl
      refine ⟨nofun, nofun, nofun, fun _ _ => ?_⟩
      cases hv : sourceValue k src with
      | false => simp [hv] at hf
      | true =>
        rw [if_pos rfl]
        refine ⟨?_, rfl⟩
        dsimp only
        split <;> nofun
  · exact h

theorem sigFollows_less {k : Sources} {r : SigRec} (h : sigFollows k r) :
    sigFollows k { r with phase := lessOf r.phase } := by
  have hsome : (lessOf r.phase).isSome = r.phase.isSome := Option.isSome_map
  have hnone : r.phase = none → lessOf r.phase = none := fun e => by rw [e]; rfl
  obtain ⟨h1, h2, h3, h4⟩ := h
  refine ⟨fun e => ⟨(h1 e).1, hnone (h1 e).2⟩, fun e m => ⟨(h2 e m).1, hnone (h2 e m).2⟩, fun e m => ?_, fun e m => ?_⟩
  · rw [hsome]
    exact h3 e m
  · have h := h4 e m
    split at h
    · rename_i hv
      rw [if_pos hv]
      exact ⟨h.1, hsome.trans h.2⟩
    · rename_i hv
      rw [if_neg hv]
      exact ⟨h.1, hnone h.2⟩

theorem EventKind.signals {s t : State} (h : EventKind s t) (hs : signalsCurrent s) : signalsCurrent t := by
  cases h with
  | unmoved h =>
    intro hp
    obtain ⟨h1, h2⟩ := hs (h.phase ▸ hp)
    exact ⟨by rw [h.sources, h.values]; exact h1, h.sigs h2⟩
  | served hr h => exact fun _ => h.signals (hs hr)
  | resetTaken k => exact fun hp => nomatch hp
  | supplyFailed b => exact fun hp => nomatch hp
  | startedUp =>
    intro _
    obtain ⟨h1, h2⟩ : (startedState s).sources = sourcesOf (startedState s)
        ∧ ∀ l, sigFollows (startedState s).sources ((startedState s).sig l) := applySignals_follows _
    have h := unmoved_started s
    exact ⟨by rw [h.sources, h.values]; exact h1, h.sigs h2⟩
  | pulseStopped l =>
    intro hp
    obtain ⟨h1, h2⟩ := hs hp
    refine ⟨h1, fun k => ?_⟩
    rw [sig_modSig]
    split
    · exact sigFollows_pulseStops (h2 l)
    · exact h2 k
  | flashTurned l =>
    intro hp
    obtain ⟨h1, h2⟩ := hs hp
    refine ⟨h1, fun k => ?_⟩
    rw [sig_modSig]
    split
    · exact sigFollows_flashTurns (h2 l)
    · exact h2 k
  | ticked hr =>
    intro _
    obtain ⟨h1, h2⟩ := hs hr
    refine ⟨by rw [tickRunning_values]; exact h1, fun l => ?_⟩
    rw [tickRunning_sig]
    exact sigFollows_less (h2 l)

/-- Settles O3: an event either leaves what the output unit reads or is composed, and a composition leaves lines and
signals current. -/
theorem motionLinesFollowTheirSources : Obligations.MotionLinesFollowTheirSources :=
  ⟨fun _ _ hs hst => step_keeps (P := linesCurrent) (fun _ _ e => e.kind.lines) hs hst,
    fun _ _ hs hst => step_keeps (P := signalsCurrent) (fun _ _ e => e.kind.signals) hs hst⟩

/-! ### The vane release -/

theorem EventKind.vane {s t : State} (h : EventKind s t) (hs : vaneCurrent s) : vaneCurrent t := by
  cases h with
  | unmoved h =>
    intro hp c
    have hout : t.out c = s.out c := by unfold State.out; rw [h.outs]
    have hlevel : (vaneEligible t c && (jibHeld t c).isEmpty) = (vaneEligible s c && (jibHeld s c).isEmpty) := h.vane c
    rw [hout, hlevel]
    exact hs (h.phase ▸ hp) c
  | served hr h => exact fun _ => h.vane (hs hr)
  | resetTaken k => exact fun hp => nomatch hp
  | supplyFailed b => exact fun hp => nomatch hp
  | startedUp =>
    intro _ c hc
    have hout : (startUp s).out c = (startedState s).out c := by
      unfold State.out
      rw [(unmoved_started s).outs]
    rw [hout, (startedState_out s c).2.2] at hc
    cases hc
  | pulseStopped l => exact hs
  | flashTurned l => exact hs
  | ticked hr =>
    intro _ c
    have hlevel : (vaneEligible (tickRunning s) c && (jibHeld (tickRunning s) c).isEmpty)
        = (vaneEligible s c && (jibHeld s c).isEmpty) := tickRunning_vane s c
    rw [hlevel, tickRunning_out]
    exact hs hr c

/-- Settles O4: every event that moves a condition of R87 is composed, and a composition leaves the release as its
conditions have it. -/
theorem vaneReleaseFollowsItsConditions : Obligations.VaneReleaseFollowsItsConditions := fun _ _ hs hst =>
  step_keeps (P := vaneCurrent) (fun _ _ e => e.kind.vane) hs hst

/-! ### The ports -/

theorem portBounded_passed {q r : PortRec} (h : q.Passed r) (hq : portBounded q) : portBounded r := by
  obtain ⟨hrx, hbuf, htx, hlen, hne, hslot⟩ := h
  obtain ⟨q1, q2, q3, q4, q5⟩ := hq
  exact ⟨hrx ▸ q1, hbuf ▸ q2, hlen q3, fun e => hslot (q4 (htx ▸ e)), fun e => hne (q5 (htx ▸ e))⟩

theorem portBounded_startTx {q : PortRec} (h : portBounded q) : portBounded (startTx q) := by
  obtain ⟨h1, h2, h3, h4, h5⟩ := h
  unfold startTx
  split
  · split
    · rename_i hs
      exact ⟨h1, h2, h3, fun _ => hs, nofun⟩
    · split
      · exact ⟨h1, h2, h3, h4, h5⟩
      · rename_i hn
        exact ⟨h1, h2, h3, nofun, fun _ e => hn (by rw [e]; rfl)⟩
  · exact ⟨h1, h2, h3, h4, h5⟩

theorem portsBounded_modPort {s : State} {p : Port} {f : PortRec → PortRec} (hs : portsBounded s)
    (hf : portBounded (s.port p) → portBounded (f (s.port p))) : portsBounded (s.modPort p f) := by
  intro q
  rw [port_modPort]
  split
  · exact hf (hs p)
  · exact hs q

theorem portsBounded_passed {s t : State} (h : ∀ q, (s.port q).Passed (t.port q)) (hs : portsBounded s) :
    portsBounded t := fun q => portBounded_passed (h q) (hs q)

theorem portBounded_reset (m : Classes) : portBounded (PortRec.reset m) :=
  ⟨trivial, by simp [PortRec.reset], by simp [PortRec.reset], nofun, nofun⟩

theorem portBounded_freshPorts (i : Fin 10) : portBounded freshPorts[i] := by
  unfold freshPorts
  simp only [Fin.getElem_fin, Vector.getElem_set, Vector.getElem_replicate]
  split
  · exact portBounded_reset _
  · exact portBounded_reset _

theorem startedState_ports (s : State) : (startedState s).ports = freshPorts := by
  unfold startedState
  rw [applySignals_ports, foldl_composeQuiet_keeps State.ports (fun _ _ _ => rfl),
    foldl_formTouch_keeps State.ports fun _ _ _ => rfl]
  rfl

theorem portsBounded_startUp (s : State) : portsBounded (startUp s) := by
  rw [startUp_eq]
  have h : portsBounded (startedState s) := fun q => by
    unfold State.port
    rw [startedState_ports]
    exact portBounded_freshPorts _
  intro q
  rw [transmit_port]
  exact portBounded_startTx (portsBounded_passed ((talks_notify _ _ _).trans (talks_notify _ _ _)).2 h q)

theorem Event.portsBounded {s t : State} (h : Event s t) (hs : portsBounded s) : portsBounded t := by
  cases h with
  | queued l => exact hs
  | transmitted =>
    intro q
    rw [transmit_port]
    exact portBounded_startTx (hs q)
  | received p r hr => exact portsBounded_modPort hs fun ⟨h1, h2, h3, h4, h5⟩ => ⟨hr h1, h2, h3, h4, h5⟩
  | buffered p f =>
    refine portsBounded_modPort hs fun ⟨h1, h2, h3, h4, h5⟩ => ?_
    unfold queueFrame
    split
    · rename_i hlen
      have h2' : (s.port p).buffer.length < 2 := hlen
      exact ⟨h1, by simp; omega, h3, h4, h5⟩
    · exact ⟨h1, h2, h3, h4, h5⟩
  | taken p f l hb =>
    refine portsBounded_modPort hs fun ⟨h1, h2, h3, h4, h5⟩ => ⟨h1, ?_, h3, h4, h5⟩
    rw [hb, List.length_cons] at h2
    show l.length ≤ 2
    omega
  | performed _ p hr h => exact portsBounded_passed h.served.ports hs
  | responseSent p hp => exact portsBounded_modPort hs fun ⟨h1, h2, h3, h4, h5⟩ => ⟨h1, h2, h3, nofun, nofun⟩
  | restartAwaited => exact hs
  | noticeSent p hp =>
    refine portsBounded_modPort hs fun ⟨h1, h2, h3, h4, h5⟩ => ⟨h1, h2, ?_, nofun, nofun⟩
    simp only [List.length_tail]
    omega
  | resetTaken k => exact fun q => portBounded_freshPorts _
  | supplyFailed b => exact hs
  | startedUp => exact portsBounded_startUp s
  | secondCounted =>
    unfold countSecond
    split <;> exact hs
  | written good => exact portsBounded_passed (served_written (K := False) s good).ports hs
  | parkSw c b hr => exact portsBounded_passed (served_parkSw (K := False) s c b).ports hs
  | vaneFb c b hr => exact portsBounded_passed (served_vaneFb (K := False) s c b).ports hs
  | takeKey k => exact hs
  | pulsed ch n => exact hs
  | sampled hr => exact portsBounded_passed (served_sample (K := False) s id).ports hs
  | parkTimer hr => exact portsBounded_passed (served_parkTimer (K := False) s id).ports hs
  | silence c hr => exact portsBounded_passed (served_silence (K := False) s c).ports hs
  | lost c hr => exact portsBounded_passed (served_lost (K := False) s c).ports hs
  | waitTimer x c hr => exact portsBounded_passed (served_waitTimer (K := False) s x c).ports hs
  | recallTimer x hr => exact portsBounded_passed (served_recallTimer (K := False) s x).ports hs
  | second hr => exact portsBounded_passed (served_second (K := False) s).ports hs
  | commitTimer hr => exact portsBounded_passed (served_commitTimer (K := False) s).ports hs
  | feedbackTimer c hr => exact portsBounded_passed (served_feedbackTimer (K := False) s c).ports hs
  | pulseStopped l => exact hs
  | flashTurned l => exact hs
  | ticked =>
    unfold tick
    split <;> exact hs

/-- Settles O6: served events only add notices and fill slots, and the port's own events keep its bounds. -/
theorem portsStayBounded : Obligations.PortsStayBounded := fun _ _ hs hst =>
  step_keeps (P := Machine.portsBounded) (fun _ _ e => Event.portsBounded e) hs hst

end Sys2Proof.Machine.Laws

/-! SUPPORT. No cell is gained under the wind bar (O8): every single event spares the cells, and the frames that one step
takes at a port are, on a crane link, requests that leave the bar standing, and on a supervisor link at most one request. -/

namespace Sys2Proof.Machine.Laws

/-- Where the wind bar stands at the end no crane has gained a cell. -/
def spares (s t : State) : Prop := s.windBars = true → t.windBars = true → gainsNone s t

theorem gainsNone_of_cells {s t : State} (h : t.cells = s.cells) : gainsNone s t := fun x g hg =>
  ⟨g, by unfold State.cell at hg ⊢; rw [← h]; exact hg, rfl⟩

theorem applySignals_cells (s : State) : (applySignals s).cells = s.cells := rfl

theorem startedState_cells (s : State) : (startedState s).cells = Vector.replicate 64 CellRec.reset := by
  unfold startedState
  rw [applySignals_cells, foldl_composeQuiet_keeps State.cells (fun _ _ _ => rfl),
    foldl_formTouch_keeps State.cells fun _ _ _ => rfl]
  rfl

theorem EventKind.spares {s t : State} (h : EventKind s t) : spares s t := by
  intro _ ht
  cases h with
  | unmoved h => exact gainsNone_of_cells h.cells
  | served hr h => exact h.gainsNone ht
  | resetTaken k => exact gainsNone.refl s
  | supplyFailed b => exact gainsNone.refl s
  | startedUp =>
    intro x g hg
    have hcell : (startUp s).cell x = CellRec.reset := by
      unfold State.cell
      rw [(unmoved_started s).cells, startedState_cells]
      simp
    rw [hcell] at hg
    cases hg
  | pulseStopped l => exact gainsNone.refl s
  | flashTurned l => exact gainsNone.refl s
  | ticked hr =>
    intro x g hg
    rw [tickRunning_cell] at hg
    exact ⟨g, hg, rfl⟩

/-- What an event leaves of the bar and the cells is what sending leaves of them. -/
theorem spares_transmit {s t : State} (h : spares s t) : spares s t.transmit := by
  intro hs ht x g hg
  have hb : t.windBars = true := by
    unfold State.windBars at ht ⊢
    rwa [transmit_wind] at ht
  rw [transmit_cell] at hg
  exact h hs hb x g hg

theorem spares_self (s : State) : spares s s := fun _ _ => gainsNone.refl s

theorem spares_whenRunning {s : State} {f : State → State} (h : s.phase = .running → spares s (f s)) :
    spares s (whenRunning f s) := by
  unfold whenRunning
  split
  · exact spares_transmit (h ‹_›)
  · exact spares_self s

theorem spares_event {s t : State} (h : Event s t) : spares s t := h.kind.spares

/-! ### The frames of one step at a port -/

/-- A property of states that changes of the port's receiver and buffer keep, and that a frame keeps when it is judged
at an empty slot. -/
structure Bears (p : Port) (P : State → Prop) : Prop where
  still : ∀ t f, (f (t.port p)).slot = (t.port p).slot → P t → P (t.modPort p f)
  judged : ∀ t f, (t.port p).slot = none → P t → P (judge p f t)

section
variable {p : Port} {P : State → Prop} (h : Bears p P) {s : State}
include h

theorem Bears.takeFrame (hs : P s) : P (takeFrame p s) := by
  unfold Machine.takeFrame
  split
  · exact hs
  · rename_i hslot
    have hnone : (s.port p).slot = none := by
      cases hq : (s.port p).slot with
      | none => rfl
      | some r => simp [hq] at hslot
    split
    · exact hs
    · refine h.judged _ _ ?_ (h.still s _ rfl hs)
      rw [port_modPort_same]
      exact hnone

theorem Bears.deliver (f : Frame) (hs : P s) : P (deliver p f s) := by
  have hq : ∀ q : PortRec, (queueFrame f q).slot = q.slot := fun q => by
    unfold queueFrame; split <;> rfl
  exact h.takeFrame (h.takeFrame (h.still s (queueFrame f) (hq _) hs))

theorem Bears.setRx (r : Option (List Byte)) (hs : P s) : P (setRx p r s) := h.still s _ rfl hs

theorem Bears.rxByte (b : Byte) (hs : P s) : P (rxByte p s b) := by
  unfold Machine.rxByte
  split
  · split
    · exact h.setRx _ hs
    · exact hs
  · split
    · exact h.setRx _ hs
    · exact h.setRx _ hs
  · dsimp only
    split
    · exact h.setRx _ hs
    · unfold frameEnds
      split
      · split
        · exact h.deliver _ (h.setRx _ hs)
        · exact h.setRx _ hs
      · exact h.setRx _ hs

theorem Bears.rxBytes (l : List Byte) (hs : P s) : P (l.foldl (Machine.rxByte p) s) := by
  induction l generalizing s with
  | nil => exact hs
  | cons b l ih => exact ih (h.rxByte b hs)

end

/-- On a crane link every frame leaves the bar standing. -/
theorem bears_crane (c : Crane) (s : State) :
    Bears (.c c) fun t => s.windBars = true → t.windBars = true ∧ gainsNone s t := by
  refine ⟨fun t f _ ht => ht, fun t f _ ht hs => ?_⟩
  obtain ⟨hb, hg⟩ := ht hs
  have hserved := (judge_performed (.c c) f t).served
  have hb' := hserved.bars ⟨c, rfl⟩ hb
  exact ⟨hb', hg.trans (hserved.gainsNone hb')⟩

/-- On a supervisor link the first frame that changes anything fills the slot. -/
theorem bears_sup (y : Sup) (s : State) :
    Bears (.s y) fun t => (t.cells = s.cells ∧ t.wind = s.wind)
      ∨ ((t.port (.s y)).slot.isSome = true ∧ (t.windBars = true → gainsNone s t)) := by
  refine ⟨fun t f hf ht => ?_, fun t f hslot ht => ?_⟩
  · rw [port_modPort_same, hf]
    exact ht
  · obtain ⟨hc, hw⟩ := ht.resolve_right fun h => by simp [hslot] at h
    have hserved := (judge_performed (.s y) f t).served
    have hgain : (judge (.s y) f t).windBars = true → gainsNone s (judge (.s y) f t) := fun hb =>
      (gainsNone_of_cells hc).trans (hserved.gainsNone hb)
    cases f with
    | request r =>
      obtain ⟨-, o, why, q, hq⟩ := perform_served (.s y) r t (.inr ⟨y, rfl⟩)
      exact .inr ⟨by rw [show judge (.s y) (.request r) t = perform (.s y) r t from rfl, hq]; rfl, hgain⟩
    | badKind k => exact .inr ⟨by rw [judge, respond_slot]; rfl, hgain⟩
    | badLength k => exact .inr ⟨by rw [judge, respond_slot]; rfl, hgain⟩
    | badReport => exact .inl ⟨hc, hw⟩

/-- What every property of the frames of a port gives, the cells are spared by. -/
theorem spares_of_bears {s t : State} (p : Port)
    (h : ∀ P, Bears p P → (∀ u, u.cells = s.cells → u.wind = s.wind → P u) → P t) : spares s t := by
  cases p with
  | c c =>
    refine fun hs _ => (h _ (bears_crane c s) (fun u hc hw hs => ⟨?_, gainsNone_of_cells hc⟩) hs).2
    unfold State.windBars at hs ⊢
    rw [hw]
    exact hs
  | s y =>
    intro hs ht
    rcases h _ (bears_sup y s) (fun u hc hw => .inl ⟨hc, hw⟩) with ⟨hc, -⟩ | ⟨-, hg⟩
    · exact gainsNone_of_cells hc
    · exact hg ht

theorem spares_deliver (s : State) (p : Port) (f : Frame) : spares s (deliver p f s) :=
  spares_of_bears p fun _ h hs => h.deliver f (hs s rfl rfl)

theorem spares_arrive (s : State) (p : Port) (r : Request) : spares s (arrive p r s) :=
  spares_whenRunning fun _ => spares_deliver s p _

theorem spares_responseEnds (s : State) (p : Port) : spares s (responseEnds p s) := by
  unfold responseEnds
  split
  · dsimp only
    split
    · exact fun _ _ => gainsNone.refl s
    · exact spares_of_bears p fun _ h hs => h.takeFrame (h.takeFrame (hs _ rfl rfl))
  · exact spares_self s

theorem spares_sampleIf {s : State} (b : Bool) (hr : s.phase = .running) : spares s (sampleIf b s) := by
  unfold sampleIf
  split
  · exact spares_event (.sampled s hr)
  · exact spares_self s

/-- Every command spares the cells. -/
theorem exec_spares (i : Instr) (s t : State) (h : exec i s = .next t) : spares s t := by
  have hreq : ∀ p r, arrive p r s = t → spares s t := fun p r e => e ▸ spares_arrive s p r
  have hrun : ∀ f : State → State, (s.phase = .running → spares s (f s)) → whenRunning f s = t → spares s t :=
    fun f hf e => e ▸ spares_whenRunning hf
  cases i <;> injection h with h
  case badKind p k b =>
    refine hrun _ (fun _ => ?_) h
    unfold badKindArrives
    split
    · exact spares_deliver s p _
    · exact spares_self s
  case frameReceived p l =>
    exact hrun _ (fun _ => spares_of_bears p fun _ hP hs => hP.rxBytes l (hs s rfl rfl)) h
  case frameIdleTimeout p => exact hrun _ (fun _ => fun _ _ => gainsNone.refl s) h
  case responseSent p => exact hrun _ (fun _ => spares_responseEnds s p) h
  case noticeSent p =>
    refine hrun _ (fun _ => ?_) h
    unfold noticeEnds
    split
    · exact fun _ _ => gainsNone.refl s
    · exact spares_self s
  case powerOnReset => exact h ▸ fun _ _ => gainsNone.refl s
  case panelReset =>
    subst h
    unfold panelPressed
    split
    · exact spares_event (.resetTaken s _)
    · split
      · exact spares_self s
      · exact spares_event (.resetTaken s _)
    · exact spares_self s
  case restartReset =>
    subst h
    unfold restartTaken
    split
    · exact spares_event (.resetTaken s _)
    · exact spares_self s
  case startUp =>
    subst h
    unfold startIfIdle
    split
    · exact EventKind.spares .startedUp
    · exact spares_self s
  case parkSwEdge c b => exact hrun _ (fun hr => spares_event (.parkSw s c b hr)) h
  case vaneFbEdge c b => exact hrun _ (fun hr => spares_event (.vaneFb s c b hr)) h
  case takeKeyTaken b => exact hrun _ (fun _ => spares_event (.takeKey s _)) h
  case anemPulse ch n => exact hrun _ (fun _ => spares_event (.pulsed s ch n)) h
  case sample => exact hrun _ (fun hr => spares_event (.sampled s hr)) h
  case faultHigh => exact hrun _ (fun hr => spares_sampleIf _ hr) h
  case faultStuck => exact hrun _ (fun hr => spares_sampleIf _ hr) h
  case channelClearRunReached => exact hrun _ (fun hr => spares_sampleIf _ hr) h
  case blockComplete => exact hrun _ (fun hr => spares_sampleIf _ hr) h
  case alertCalmReached => exact hrun _ (fun hr => spares_sampleIf _ hr) h
  case holdCalmReached => exact hrun _ (fun hr => spares_sampleIf _ hr) h
  case stopCalmReached => exact hrun _ (fun hr => spares_sampleIf _ hr) h
  case resumeReady => exact hrun _ (fun hr => spares_sampleIf _ hr) h
  case parkTimeout => exact hrun _ (fun hr => spares_event (.parkTimer s hr)) h
  case silenceLimitExpiry c => exact hrun _ (fun hr => spares_event (.silence s c hr)) h
  case lostLimitExpiry c => exact hrun _ (fun hr => spares_event (.lost s c hr)) h
  case waitExpired x c => exact hrun _ (fun hr => spares_event (.waitTimer s x c hr)) h
  case recallOverdue x => exact hrun _ (fun hr => spares_event (.recallTimer s x hr)) h
  case clockSecond =>
    subst h
    unfold secondRow
    split
    · exact spares_whenRunning fun hr => spares_event (.second s hr)
    · exact spares_event (.secondCounted s ‹_›)
    · exact spares_self s
  case commitExpired => exact hrun _ (fun hr => spares_event (.commitTimer s hr)) h
  case storeWriteDone good =>
    subst h
    unfold writeRow
    split
    · exact spares_whenRunning fun _ => spares_event (.written s good)
    · exact spares_event (.written s good)
    · exact spares_self s
  case vaneFault c => exact hrun _ (fun hr => spares_event (.feedbackTimer s c hr)) h
  case pulseEnd l => exact hrun _ (fun _ => spares_event (.pulseStopped s l)) h
  case flashPhase l => exact hrun _ (fun _ => spares_event (.flashTurned s l)) h
  case startByte p =>
    exact hrun _ (fun _ => spares_of_bears p fun _ hP hs => hP.rxByte _ (hs s rfl rfl)) h
  case lossOfSupply b => exact h ▸ spares_event (.supplyFailed s b)
  all_goals exact hreq _ _ h

/-- Settles O8: every grant of an event that ends under STOP or VANE is made in a state under STOP or VANE, where grants
and admissions are barred. -/
theorem noCellIsGainedUnderStopOrVane : Obligations.NoCellIsGainedUnderStopOrVane := by
  intro s t h hs ht
  have hspares : spares s t := by
    unfold step at h
    split at h
    · rename_i rest _
      exact fun hs ht => exec_spares _ { s with pending := rest } t h hs ht
    · unfold idle at h
      split at h
      · exact exec_spares _ _ _ h
      · injection h with h
        exact h ▸ spares_event (.ticked s)
  exact hspares hs ht

end Sys2Proof.Machine.Laws

/-! SUPPORT. What the definitions say at once: the front command (O1), the rules at reset (O2), what the sources of the
lines assert (O9), the values stored of a report (O27) and the bounds of an envelope (O32). -/

namespace Sys2Proof.Machine.Laws

open Sys2Proof Sys2Proof.Machine

/-! ### The machine -/

/-- Settles O1: `step` reads the queue alone before it hands over to `exec`. -/
theorem stepRunsTheFrontCommand : Obligations.StepRunsTheFrontCommand := fun _ _ _ => rfl

theorem linesCurrent_reset : linesCurrent State.reset := by
  unfold linesCurrent
  rw [show State.reset.phase = .running from rfl]
  decide +kernel

theorem vaneCurrent_reset : vaneCurrent State.reset := by unfold vaneCurrent; decide +kernel

theorem portsBounded_reset : portsBounded State.reset := by
  have table : ∀ i : Fin 10, (State.reset.ports[i]).rx = none ∧ (State.reset.ports[i]).buffer.length ≤ 2
      ∧ (State.reset.ports[i]).notices.length ≤ 16
      ∧ ((State.reset.ports[i]).tx = .response → (State.reset.ports[i]).slot.isSome)
      ∧ ((State.reset.ports[i]).tx = .notice → (State.reset.ports[i]).notices ≠ []) := by decide +kernel
  intro p
  obtain ⟨hrx, hrest⟩ := table (portIndex p)
  exact ⟨by show rxBounded (State.reset.ports[portIndex p]).rx; rw [hrx]; trivial, hrest⟩

theorem bookSound_reset : bookSound State.reset := by
  refine ⟨?_, ?_, ?_, ?_⟩
  · unfold bookBounded; decide +kernel
  · unfold liftsUnderWay; decide +kernel
  · unfold claimsDue cellClaimsDue dueNaming; decide +kernel
  · unfold bookTimely; decide +kernel

theorem signalsCurrent_reset : signalsCurrent State.reset := by unfold signalsCurrent sigFollows; decide +kernel

/-- Settles O2. -/
theorem wholeMachineRulesHoldAtReset : Obligations.WholeMachineRulesHoldAtReset :=
  ⟨linesCurrent_reset, vaneCurrent_reset, measBounded_reset _ _, portsBounded_reset, bookSound_reset, signalsCurrent_reset⟩

/-! ### Sets of motion lines -/

theorem linesUnion_assoc (a b c : Lines) : linesUnion (linesUnion a b) c = linesUnion a (linesUnion b c) := by
  simp [linesUnion, Bool.or_assoc]

theorem linesUnion_comm (a b : Lines) : linesUnion a b = linesUnion b a := by simp [linesUnion, Bool.or_comm]

theorem linesUnion_self (a : Lines) : linesUnion a a = a := by simp [linesUnion]

theorem linesUnion_everyMotion (a : Lines) : linesUnion a everyMotion = everyMotion := by
  simp [linesUnion, everyMotion]

theorem everyMotion_linesUnion (a : Lines) : linesUnion everyMotion a = everyMotion := by
  rw [linesUnion_comm, linesUnion_everyMotion]

/-- A set of lines lies within another: the union with it adds nothing. -/
def Lines.Within (a b : Lines) : Prop := linesUnion b a = b

theorem within_union_left {a b : Lines} (h : Lines.Within a b) (c : Lines) : Lines.Within a (linesUnion b c) := by
  unfold Lines.Within at *
  rw [linesUnion_assoc, linesUnion_comm c a, ← linesUnion_assoc, h]

theorem within_union_right {a c : Lines} (h : Lines.Within a c) (b : Lines) : Lines.Within a (linesUnion b c) := by
  rw [linesUnion_comm]; exact within_union_left h b

theorem within_self (a : Lines) : Lines.Within a a := linesUnion_self a

/-- The closing motions of a touched cell that the crane does not hold are in the ZONE set (R82). -/
theorem within_zoneSet {s : State} {c : Crane} {x : CellNo} {m : Lines} (hx : (x, m) ∈ (s.env c).touch)
    (hh : s.holds c x = false) : Lines.Within m (zoneSet s c) := by
  unfold zoneSet
  generalize noMotion = acc
  generalize (s.env c).touch = touched at hx
  induction touched generalizing acc with
  | nil => cases hx
  | cons t ts ih =>
    rw [List.foldl_cons]
    rcases List.mem_cons.1 hx with rfl | hin
    · simp only [hh, Bool.false_eq_true, if_false]
      refine foldl_holds (Lines.Within m) _ (fun b a hb => ?_) ts _ (within_union_right (within_self m) acc)
      split
      · exact hb
      · exact within_union_left hb _
    · exact ih _ hin

/-- Settles O9: a source that asserts every line makes the union every line, and ZONE holds the closing motions. -/
theorem unsafeCranesAreInhibited : Obligations.UnsafeCranesAreInhibited := by
  intro s c hr hl
  unfold linesCurrent at hl
  rw [hr] at hl
  obtain ⟨hsrc, hlines⟩ := hl c
  refine ⟨fun h => ?_, fun x m hx hh => ?_⟩
  · rw [hlines, hsrc]
    unfold unionOf sourceSets
    rcases h with h | h | h | h
    · simp [linkSet, h, linesUnion_everyMotion, everyMotion_linesUnion]
    · simp [dutySet, h, linesUnion_everyMotion, everyMotion_linesUnion]
    · simp [mapSet, h, linesUnion_everyMotion, everyMotion_linesUnion]
    · simp [windSet, h, linesUnion_everyMotion, everyMotion_linesUnion]
  · rw [hlines, hsrc]
    exact within_union_left (within_zoneSet hx hh) _

/-! ### Reports -/

theorem clampInt_le {lo hi v : Int} (h : lo ≤ hi) : lo ≤ clampInt lo hi v ∧ clampInt lo hi v ≤ hi := by
  unfold clampInt; omega

theorem clampInt_of_within {lo hi v : Int} (hl : lo ≤ v) (hh : v ≤ hi) : clampInt lo hi v = v := by
  unfold clampInt; omega

theorem clampInt_below {lo hi v : Int} (h : v < lo) : clampInt lo hi v = lo := by unfold clampInt; omega

theorem clampInt_above {lo hi v : Int} (hb : lo ≤ hi) (h : hi < v) : clampInt lo hi v = hi := by unfold clampInt; omega

theorem clampInt_ne_iff {lo hi v : Int} (hb : lo ≤ hi) : clampInt lo hi v ≠ v ↔ v < lo ∨ hi < v := by
  unfold clampInt; omega

/-- Settles O27. -/
theorem reportFieldsAreBroughtIntoRange : Obligations.ReportFieldsAreBroughtIntoRange := by
  intro d r
  refine ⟨Nat.mod_lt _ (by omega), Nat.mod_mod _ _, ⟨(clampInt_le (by omega)).1, (clampInt_le (by omega)).2,
      fun h => clampInt_of_within h.1 h.2⟩, clampInt_below, clampInt_above (by omega),
    ⟨(clampInt_le (by omega)).1, (clampInt_le (by omega)).2, fun h => clampInt_of_within h.1 h.2⟩, clampInt_below,
    clampInt_above (by omega), Nat.min_le_right _ _, Nat.min_eq_left, fun h => Nat.min_eq_right h.le,
    Nat.min_le_right _ _, Nat.min_eq_left, fun h => Nat.min_eq_right h.le, ?_, ?_, ?_, ?_⟩
  · have := clampInt_ne_iff (lo := -255) (hi := 255) (v := r.omega) (by omega)
    simp [clampFlagsOf, clampedReport, this]
  · have := clampInt_ne_iff (lo := -40) (hi := 40) (v := r.v) (by omega)
    simp [clampFlagsOf, clampedReport, this]
  · simp only [clampFlagsOf, clampedReport, decide_eq_true_eq]; omega
  · simp only [clampFlagsOf, clampedReport, decide_eq_true_eq]; omega

end Sys2Proof.Machine.Laws

/-! SUPPORT. The bounds of each stage of an envelope (O32). -/

namespace Sys2Proof.Machine.Laws

open Sys2Proof Sys2Proof.Machine

theorem ceilDiv_le_of_le {a b k : Nat} (h : a ≤ k) (hb : 2 ≤ b) : ceilDiv a b ≤ (k + 1) / 2 := by
  unfold ceilDiv
  have hdiv : (a + b - 1) / b ≤ (a + 1) / 2 := by
    rw [Nat.div_le_iff_le_mul_add_pred (by omega)]
    have hm : 2 * ((a + 1) / 2) + 1 ≥ a + 1 := by omega
    have hmul : 2 * ((a + 1) / 2) ≤ b * ((a + 1) / 2) := Nat.mul_le_mul_right _ hb
    omega
  omega

/-- The stopping path over a deceleration of at least one unit, with the reaction path of at most two seconds. -/
theorem lead_le {v reaction dec top : Nat} (hv : v ≤ top) (hr : reaction ≤ 2000) (hd : 1 ≤ dec) :
    v * reaction / 1000 + ceilDiv (v * v) (2 * dec) ≤ 2 * top + (top * top + 1) / 2 := by
  have hreact : v * reaction / 1000 ≤ 2 * top := by
    have := Nat.mul_le_mul hv hr
    omega
  have hstop := ceilDiv_le_of_le (b := 2 * dec) (Nat.mul_le_mul hv hv) (by omega)
  omega

theorem slewLead_le {d : Decl} {w : Int} (hr : d.reaction ≤ 2000) (hd : 1 ≤ d.slewDec) (hl : -255 ≤ w) (hh : w ≤ 255) :
    slewLead d w ≤ 33023 := lead_le (top := 255) (by omega) hr hd

theorem slewLead_rest (d : Decl) (hd : 1 ≤ d.slewDec) : slewLead d 0 = 0 := by
  have : (2 * d.slewDec - 1) / (2 * d.slewDec) = 0 := Nat.div_eq_of_lt (by omega)
  simp [slewLead, ceilDiv, this]

theorem marginOf_bounds {d : Decl} (hm : d.slewMargin ≤ 63) (g : Nat) :
    d.slewMargin ≤ marginOf d g ∧ marginOf d g ≤ 512 := by
  unfold marginOf; omega

theorem forwardOf_bounds {lead margin : Nat} (hm : margin ≤ 512) :
    margin ≤ forwardOf lead margin ∧ forwardOf lead margin ≤ 1024 := by
  unfold forwardOf; omega

theorem angleSub_lt (a b : Nat) : angleSub a b < 4096 := Nat.mod_lt _ (by omega)

/-- An angle lies as far above a start taken back by `k` as it was taken back. -/
theorem angleSub_angleSub {a k : Nat} (ha : a < 4096) (hk : k < 4096) : angleSub a (angleSub a k) = k := by
  unfold angleSub; omega

theorem angular_start_lt (r : Report) (m f : Nat) : (angular r m f).1 < 4096 := by
  unfold angular
  split
  · decide
  · split
    · exact angleSub_lt _ _
    · split <;> exact angleSub_lt _ _

theorem angular_len {r : Report} {m f : Nat} (hm : m ≤ 512) (hmf : m ≤ f) (hf : f ≤ 1024) :
    1 ≤ (angular r m f).2 ∧ (angular r m f).2 ≤ 4096 ∧ (r.doubtAngle = false → (angular r m f).2 ≤ 1537)
      ∧ (r.omega = 0 → r.doubtAngle = false → (angular r m f).2 = 2 * m + 1) := by
  unfold angular
  cases r.doubtAngle with
  | true => simp
  | false =>
    simp only [Bool.false_eq_true, if_false, true_implies]
    split
    · exact ⟨by omega, by omega, by omega, by omega⟩
    · split
      · exact ⟨by omega, by omega, by omega, by omega⟩
      · exact ⟨by omega, by omega, by omega, fun _ => rfl⟩

theorem angular_within {r : Report} {m f : Nat} (ht : r.theta < 4096) (hm : m ≤ 512) (hf : f ≤ 1024) :
    withinArc r.theta (angular r m f).1 (angular r m f).2 = true := by
  unfold angular withinArc
  rw [decide_eq_true_eq]
  split
  · exact angleSub_lt _ _
  · split
    · rw [angleSub_angleSub ht (by omega)]; omega
    · split
      · rw [angleSub_angleSub ht (by omega)]; omega
      · rw [angleSub_angleSub ht (by omega)]; omega

theorem radial_bounds {d : Decl} {r : Report} (hr : r.r ≤ d.jib) :
    (radial d r).1 ≤ (radial d r).2 ∧ (radial d r).2 ≤ d.jib
      ∧ (r.doubtRadius = false → (radial d r).1 ≤ r.r ∧ r.r ≤ (radial d r).2)
      ∧ (r.doubtRadius = true → (radial d r).1 = 0 ∧ (radial d r).2 = d.jib) := by
  unfold radial
  cases r.doubtRadius with
  | true => simp
  | false =>
    simp only [Bool.false_eq_true, if_false, true_implies, false_implies, and_true]
    split
    · simp only []; omega
    · split <;> (simp only []; omega)

/-- Settles O32, stage by stage. -/
theorem envelopesStayWithinTheirBounds : Obligations.EnvelopesStayWithinTheirBounds := by
  intro d r g hd ht hlo hhi _ _ hr _
  obtain ⟨-, -, -, hreact, ⟨hdec, -⟩, -, hmargin, -, -, -⟩ : declWithin d := by
    by_contra hn
    simpa [hd] using (declInRange_false d).2 hn
  have hm := marginOf_bounds hmargin g
  have hf := forwardOf_bounds (lead := slewLead d r.omega) hm.2
  obtain ⟨hlen, hlenMax, hlenSure, hlenRest⟩ := angular_len (r := r) hm.2 hf.1 hf.2
  obtain ⟨hrad, hjib, hsure, hdoubt⟩ := radial_bounds hr
  exact ⟨slewLead_le hreact hdec hlo hhi, hm.1, hm.2, hf.1, hf.2, angular_start_lt _ _ _, hlen, hlenMax, hlenSure,
    fun h0 => ⟨by show slewLead d r.omega = 0; rw [h0, slewLead_rest d hdec], hlenRest h0⟩, hrad, hjib, hsure, hdoubt,
    angular_within ht hm.2 hf.2⟩

end Sys2Proof.Machine.Laws

/-! SUPPORT. Frames at a port: the one response of a request that a free port takes (O13), the kinds a port does not
carry (O14), authority (O15), waiting and sent frames (O16), and the requests whose whole next state is stated
(O17, O18). -/

namespace Sys2Proof.Machine.Laws

open Sys2Proof Sys2Proof.Machine

/-! ### Request rows -/

/-- A request row is its frame completing at its port (R161). -/
theorem exec_requestRow (p : Port) (r : Request) (s : State) : exec (requestRow p r) s = .next (arrive p r s) := by
  cases r <;> rfl

/-- A port that attends takes the request within the event. -/
theorem exec_attended {s : State} {p : Port} (h : attends s p) (r : Request) :
    exec (requestRow p r) s = .next (perform p r s).transmit := by
  rw [exec_requestRow, arrive_attended h]

theorem next_whenRunning {s : State} (hr : s.phase = .running) (f : State → State) :
    (Host.Outcome.next (whenRunning f s) : Host.Outcome State Fault Refusal) = .next (f s).transmit :=
  congrArg Host.Outcome.next (if_pos hr)

theorem whenRunning_of_running {s : State} (hr : s.phase = .running) (f : State → State) :
    whenRunning f s = (f s).transmit := if_pos hr

/-! ### One response -/

theorem shell_rx {s t : State} (h : s.shell = t.shell) (p : Port) : (s.port p).rx = (t.port p).rx := by
  have hp : s.shell.ports = t.shell.ports := congrArg State.ports h
  have hi := congrArg (fun v : Vector PortRec 10 => (v[portIndex p]).rx) hp
  simpa [State.shell, PortRec.shell, State.port] using hi

theorem registers_of_shell {s t : State} (h : s.shell = t.shell) :
    s.pending = t.pending ∧ s.phase = t.phase ∧ s.cause = t.cause ∧ s.restartReady = t.restartReady := by
  have hpending : s.shell.pending = t.shell.pending := by rw [h]
  have hphase : s.shell.phase = t.shell.phase := by rw [h]
  have hcause : s.shell.cause = t.shell.cause := by rw [h]
  have hready : s.shell.restartReady = t.shell.restartReady := by rw [h]
  exact ⟨hpending, hphase, hcause, hready⟩

theorem responds_transmit {s : State} {p : Port} {k : ReqKind} {o : RespOutcome} {why : Option Reason} {r : Result}
    (h : responds s p k o why r) : responds s.transmit p k o why r := by
  unfold responds at *
  rw [transmit_port, startTx_slot, h]

/-- Settles O13: what every request leaves alone is `perform_shell`, its one response is `perform_served`. -/
theorem attendedRequestIsAnsweredOnce : Obligations.AttendedRequestIsAnsweredOnce := by
  intro p r s h
  have hshell := perform_shell p r s
  obtain ⟨hpending, hphase, hcause, hready⟩ := registers_of_shell hshell
  refine ⟨_, exec_attended h r, ?_, ?_, ?_, ?_, fun q => ⟨?_, ?_⟩, fun hk => ?_⟩
  · rw [transmit_pending, hpending]
  · rw [transmit_phase, hphase, h.1]
  · rw [transmit_cause, hcause]
  · rw [transmit_restartReady, hready, h.2.1]
  · rw [transmit_port, startTx_rx]; exact shell_rx hshell q
  · rw [transmit_port, startTx_buffer]; exact shell_buffer hshell q
  · obtain ⟨-, o, why, item, hans⟩ := perform_served p r s hk
    exact ⟨o, why, item, responds_transmit hans⟩

/-! ### Kinds a port does not carry -/

theorem decodeFrame_of_badKindFits {p : Port} {kind : Byte} {body : List Byte} (h : badKindFits p kind body = true) :
    decodeFrame p kind body = .badKind kind := by
  obtain ⟨-, hk⟩ := Bool.and_eq_true_iff.1 h
  unfold decodeFrame
  cases hc : ReqKind.ofCode kind with
  | none => rfl
  | some k =>
    rw [hc] at hk
    have hcarries : p.carries k = false := by simpa using hk
    simp [hcarries]

theorem perform_not_carried {p : Port} {r : Request} (h : p.carries r.kind = false) (s : State) :
    perform p r s = s.refuse p r.kind .badKind := by
  cases p with
  | c n => cases r <;> first | rfl | simp [Port.carries, ReqKind.code, Request.kind] at h
  | s x => cases r <;> first | rfl | simp [Port.carries, Request.kind] at h

/-- Settles O14. -/
theorem kindsNotCarriedAreAnsweredBadKind : Obligations.KindsNotCarriedAreAnsweredBadKind := by
  intro p s h
  refine ⟨fun kind body hk => ?_, fun r hr => ?_⟩
  · have hjudge : judge p (.badKind kind) s
        = s.respond p ⟨badKindReply kind, .refused, some .badKind, .nothing⟩ := rfl
    show Host.Outcome.next (whenRunning (badKindArrives p (decodeFrame p kind body)) s) = _
    rw [whenRunning_of_running h.1, decodeFrame_of_badKindFits hk]
    show Host.Outcome.next (deliver p (.badKind kind) s).transmit = _
    rw [deliver_attended h (.badKind kind) (by rw [hjudge, respond_shell]), hjudge]
    rfl
  · rw [exec_attended h, perform_not_carried hr]

/-! ### Authority -/

theorem authorized_eq_false {s : State} {x : Sup} (h : x ≠ s.holder) : s.authorized (.s x) = false := by
  cases hx : s.holder <;> cases x <;> simp_all [State.authorized]

theorem authorized_of_holder {s : State} {x : Sup} (h : x = s.holder) : s.authorized (.s x) = true := by
  subst h; cases hx : s.holder <;> simp [State.authorized, hx]

theorem firstRefusal_of_fails {b : Bool} (h : b = true) (why : Reason) (l : List (Bool × Reason)) :
    firstRefusal ((b, why) :: l) = some why := if_pos h

theorem whoSuits_of_whoFits {p : Port} {w : Option Nat} (h : whoFits p w = true) : whoSuits p w = true := by
  cases p <;> cases w <;> simp_all [whoFits, whoSuits]

theorem named_of_suits {p : Port} {w : Option Nat} (h : whoSuits p w = true) (k : ReqKind) (s : State)
    (f : State → State) : named p k w s f = f s := if_pos h

section
variable {s : State} {x : Sup}

theorem linkChecks_notHolder (h : x ≠ s.holder) : firstRefusal (linkChecks s (.s x)) = some .notAuthority :=
  firstRefusal_linkChecks_notAuthority (authorized_eq_false h)

theorem stageChecks_notHolder (h : x ≠ s.holder) : firstRefusal (stageChecks s (.s x)) = some .notAuthority :=
  firstRefusal_of_fails (by simp [authorized_eq_false h]) _ _

theorem rulingChecks_notHolder (h : x ≠ s.holder) (n : Nat) (b : Bool) :
    firstRefusal (rulingChecks s (.s x) n b) = some .notAuthority :=
  firstRefusal_of_fails (by simp [authorized_eq_false h]) _ _

theorem stage_notHolder (h : x ≠ s.holder) (k : ReqKind) (f : MapUnit → Option (MapUnit × Result)) :
    stage k x f s = s.refuse (.s x) k .notAuthority := by
  simp only [stage, stageChecks_notHolder h]

theorem decideDuty_notHolder (h : x ≠ s.holder) (k : ReqKind) (d : Duty) (f : State → Crane → List (Bool × Reason))
    (w : Option Nat) : decideDuty k d f (.s x) w s = s.refuse (.s x) k .notAuthority := by
  simp only [decideDuty, linkChecks_notHolder h]

/-- An authority-only request of the other link is refused before anything else is read (R163, log entry 28). -/
theorem perform_notHolder {r : Request} (h : x ≠ s.holder) (ha : authorityOnly r.kind = true)
    (hf : r.fieldsFit (.s x) = true) : perform (.s x) r s = s.refuse (.s x) r.kind .notAuthority := by
  have hna := authorized_eq_false h
  cases r with
  | report | book | cancel | endLift | status | noticeMask | take => simp [Request.kind, authorityOnly] at ha
  | enter w k =>
    rw [perform, named_of_suits (whoSuits_of_whoFits (Bool.and_eq_true_iff.1 hf).1)]
    exact doEnter_of_linkChecks_refuse (linkChecks_notHolder h) w k
  | leave w k =>
    rw [perform, named_of_suits (whoSuits_of_whoFits (Bool.and_eq_true_iff.1 hf).1)]
    simp only [doLeave, linkChecks_notHolder h, Request.kind]
  | park w => rw [perform, named_of_suits (whoSuits_of_whoFits hf)]; exact decideDuty_notHolder h _ _ _ w
  | service w => rw [perform, named_of_suits (whoSuits_of_whoFits hf)]; exact decideDuty_notHolder h _ _ _ w
  | oos w => rw [perform, named_of_suits (whoSuits_of_whoFits hf)]; exact decideDuty_notHolder h _ _ _ w
  | handover => exact if_neg h
  | restart => exact if_neg h
  | forceRelease | inhibitSet | inhibitClear | setSignal | setInput | siteStop | resume | setWind | setCal =>
    exact if_pos (by rw [hna]; rfl)
  | rule n v => simp only [perform, onSup, doRule, rulingChecks_notHolder h, Request.kind]
  | abort n => simp only [perform, onSup, doAbort, rulingChecks_notHolder h, Request.kind]
  | finish n => simp only [perform, onSup, doFinish, rulingChecks_notHolder h, Request.kind]
  | setClock v =>
    simp only [perform, onSup, doSetClock, Request.kind]
    rw [firstRefusal_of_fails (by rw [hna]; rfl)]
  | stageClear | stageCopy | stageCrane | stageCell | stageRemoveCell | stageSite =>
    simp only [perform, onSup, doStageClear, doStageCopy, doStageCrane, doStageCell, doStageRemoveCell, doStageSite,
      stage_notHolder h, Request.kind]
  | commit => simp only [perform, onSup, doCommit, stageChecks_notHolder h, Request.kind]
  | commitCancel =>
    simp only [perform, onSup, doCommitCancel, Request.kind]
    rw [firstRefusal_of_fails (by rw [hna]; rfl)]

end

/-- Settles O15. -/
theorem nonHolderIsRefusedAuthority : Obligations.NonHolderIsRefusedAuthority := fun _ r _ h hx ha hf => by
  rw [exec_attended h r, perform_notHolder hx ha hf]

/-! ### Waiting frames, and the ends of sending -/

theorem takeFrame_of_full {s : State} {p : Port} (h : (s.port p).slot.isSome = true) : takeFrame p s = s :=
  if_pos (by rw [h]; rfl)

theorem takeFrame_of_empty {s : State} {p : Port} (h : (s.port p).buffer = []) : takeFrame p s = s := by
  unfold takeFrame
  rw [h]
  split <;> rfl

theorem takeFrame_of_free {s : State} {p : Port} {f : Frame} {fs : List Frame} (hs : (s.port p).slot = none)
    (hr : s.restartReady = false) (hb : (s.port p).buffer = f :: fs) :
    takeFrame p s = judge p f (s.modPort p fun q => { q with buffer := fs }) := by
  unfold takeFrame
  rw [hs, hr, hb]
  rfl

theorem queueFrame_slot (f : Frame) (q : PortRec) : (queueFrame f q).slot = q.slot := by
  unfold queueFrame; split <;> rfl

theorem deliver_of_full {s : State} {p : Port} (h : (s.port p).slot.isSome = true) (f : Frame) :
    deliver p f s = s.modPort p (queueFrame f) := by
  have hfull : ((s.modPort p (queueFrame f)).port p).slot.isSome = true := by
    rw [port_modPort_same, queueFrame_slot, h]
  unfold deliver takeFrames
  rw [takeFrame_of_full hfull, takeFrame_of_full hfull]

/-- The response has left its port, which is then free. -/
def sentResponse (p : Port) (s : State) : State := s.modPort p fun q => { q with slot := none, tx := .free }

theorem responseEnds_of_sending {s : State} {p : Port} (ht : (s.port p).tx = .response)
    (ha : restartAnswered (s.port p) = false) : responseEnds p s = takeFrames p (sentResponse p s) := by
  unfold responseEnds
  rw [if_pos ht, ha]
  rfl

/-- A frame in the buffer of a free port is taken, and the port is then full. -/
theorem takeFrames_sentResponse {s : State} {p : Port} {r : Request} (hr : s.restartReady = false)
    (hb : (s.port p).buffer = [.request r]) (hk : r.kind ≠ .report ∨ ∃ x, p = .s x) :
    takeFrames p (sentResponse p s)
      = perform p r (s.modPort p fun q => { q with slot := none, tx := .free, buffer := [] }) := by
  have hfirst : takeFrame p (sentResponse p s)
      = perform p r (s.modPort p fun q => { q with slot := none, tx := .free, buffer := [] }) := by
    have hslot : ((sentResponse p s).port p).slot = none := by simp [sentResponse]
    have hbuffer : ((sentResponse p s).port p).buffer = [.request r] := by simp [sentResponse, hb]
    rw [takeFrame_of_free hslot hr hbuffer]
    unfold sentResponse
    rw [modPort_modPort]
    rfl
  unfold takeFrames
  rw [hfirst]
  obtain ⟨-, o, why, item, hslot⟩ :=
    perform_served p r (s.modPort p fun q => { q with slot := none, tx := .free, buffer := [] }) hk
  exact takeFrame_of_full (by rw [hslot]; rfl)

/-- Settles O16. -/
theorem framesWaitAndSentFramesLeaveThePort : Obligations.FramesWaitAndSentFramesLeaveThePort := by
  intro p s hr
  refine ⟨fun r hfull => ?_, fun ht ha hready hb => ?_, fun r ht ha hready hb hk => ?_, fun ht ha => ?_, fun ht => ?_⟩
  · rw [exec_requestRow]
    exact (next_whenRunning hr _).trans (by rw [deliver_of_full hfull]; rfl)
  · refine (next_whenRunning hr _).trans ?_
    have hempty : ((sentResponse p s).port p).buffer = [] := by simp [sentResponse, hb]
    rw [responseEnds_of_sending ht ha, takeFrames, takeFrame_of_empty hempty, takeFrame_of_empty hempty]
    rfl
  · refine (next_whenRunning hr _).trans ?_
    rw [responseEnds_of_sending ht ha, takeFrames_sentResponse hready hb hk]
  · refine (next_whenRunning hr _).trans ?_
    unfold responseEnds
    rw [if_pos ht, ha]
    rfl
  · refine (next_whenRunning hr _).trans ?_
    unfold noticeEnds
    rw [if_pos ht]

end Sys2Proof.Machine.Laws

/-! SUPPORT. What an event leaves of the site and the ports, and the requests on masks, authority, key and edge
selections (O17), STATUS (O18), the duty refusals (O29), staging (O20) and the commit decision (O23). -/

namespace Sys2Proof.Machine.Laws

open Sys2Proof Sys2Proof.Machine

/-! ### The site and the ports after an event -/

theorem bare_port_of_core {s t : State} (h : t.core = s.core) (p : Port) : (t.port p).bare = (s.port p).bare := by
  have hports : t.core.ports = s.core.ports := by rw [h]
  have hi := congrArg (fun v : Vector PortRec 10 => v[portIndex p]) hports
  simpa [State.core, State.port] using hi

theorem keepsSite_of_core {s t : State} (h : t.core = s.core) : keepsSite s t := by
  have hsite : keepsSite s.core t.core := by rw [h]; exact ⟨rfl, rfl, rfl, rfl, rfl, rfl, rfl, rfl⟩
  exact hsite

theorem keepsPorts_of_core {s t : State} (h : t.core = s.core) (hg : Grows s t) : keepsPorts none s t := by
  intro q
  obtain ⟨hrx, hbuffer, hslot, hmask, -⟩ : (t.port q).rx = (s.port q).rx ∧ (t.port q).buffer = (s.port q).buffer
      ∧ (t.port q).slot = (s.port q).slot ∧ (t.port q).mask = (s.port q).mask ∧ (t.port q).tx = (s.port q).tx := by
    simpa [PortRec.bare] using bare_port_of_core h q
  exact ⟨hrx, hbuffer, hmask, (hg q).1, fun _ => hslot⟩

theorem keepsSite_transmit {s t : State} (h : keepsSite s t) : keepsSite s t.transmit := by
  simpa [keepsSite] using h

theorem keepsSite_respond {s t : State} (h : keepsSite s t) (p : Port) (r : Response) : keepsSite s (t.respond p r) := h

theorem keepsPorts_transmit {s t : State} {p : Option Port} (h : keepsPorts p s t) : keepsPorts p s t.transmit := by
  intro q
  simpa using h q

theorem keepsPorts_respond {s t : State} (h : keepsPorts none s t) (p : Port) (r : Response) :
    keepsPorts (some p) s (t.respond p r) := by
  intro q
  obtain ⟨hrx, hbuffer, hmask, hnotices, hslot⟩ := h q
  unfold State.respond
  by_cases hq : q = p
  · subst hq
    simp only [port_modPort_same]
    exact ⟨hrx, hbuffer, hmask, hnotices, fun hne => absurd rfl hne⟩
  · rw [port_modPort_other _ hq]
    exact ⟨hrx, hbuffer, hmask, hnotices, fun _ => hslot (by simp)⟩

/-- A request that leaves the core and only adds notices, and is then answered. -/
theorem kept_answered {s t : State} (h : t.core = s.core) (hg : Grows s t) (p : Port) (r : Response) :
    keepsSite s (t.respond p r).transmit ∧ keepsPorts (some p) s (t.respond p r).transmit :=
  ⟨keepsSite_transmit (keepsSite_respond (keepsSite_of_core h) p r),
    keepsPorts_transmit (keepsPorts_respond (keepsPorts_of_core h hg) p r)⟩

/-- An event that leaves the core and only adds notices. -/
theorem kept_event {s t : State} (h : t.core = s.core) (hg : Grows s t) :
    keepsSite s t.transmit ∧ keepsPorts none s t.transmit :=
  ⟨keepsSite_transmit (keepsSite_of_core h), keepsPorts_transmit (keepsPorts_of_core h hg)⟩

/-! ### Operands -/

@[simp] theorem craneOf_craneNo (c : Crane) : craneOf (craneNo c) = some c := by
  unfold craneOf craneNo
  rw [dif_pos ⟨by omega, by omega⟩]
  rfl

theorem craneOf_eq_none {n : Nat} (h : n < 1 ∨ 8 < n) : craneOf n = none := dif_neg (by omega)

theorem craneOf_eq_some {n : Nat} {c : Crane} (h : craneOf n = some c) : n = craneNo c := by
  unfold craneOf at h
  split at h
  · cases h; unfold craneNo; simp only []; omega
  · cases h

theorem cellOf_eq_some {n : Nat} {x : CellNo} (h : cellOf n = some x) : n = cellNo x := by
  unfold cellOf at h
  split at h
  · cases h; unfold cellNo; simp only []; omega
  · cases h

theorem inputOf_eq_none {n : Nat} (h : 1 < n) : inputOf n = none := by
  match n, h with
  | _ + 2, _ => rfl

theorem edgeSelOf_eq_none {n : Nat} (h : 3 < n) : edgeSelOf n = none := by
  match n, h with
  | _ + 4, _ => rfl

/-! ### Masks, authority, key and edge selections -/

/-- Settles O17. -/
theorem masksAuthorityKeyAndEdgeSelections : Obligations.MasksAuthorityKeyAndEdgeSelections := by
  refine ⟨fun level s hr => next_whenRunning hr _, fun x s h => ?_⟩
  refine ⟨fun m => exec_attended h (.noticeMask m), fun hx => ?_, fun hx hk => ?_, fun hx hk => ?_, fun hx => ?_,
    fun hx => ?_, fun c n e hx he => ?_, fun n i e hx hbad => ?_⟩
  · refine (exec_attended h .take).trans ?_
    rw [show perform (.s x) .take s = s.answer (.s x) .take .unchanged from if_pos hx]
  · refine (exec_attended h .take).trans ?_
    rw [show perform (.s x) .take s = (giveAuthority s x .take).answer (.s x) .take .nothing from
      (if_neg hx).trans (if_pos hk)]
    rfl
  · refine (exec_attended h .take).trans ?_
    rw [show perform (.s x) .take s = s.refuse (.s x) .take .key from (if_neg hx).trans (if_neg hk)]
  · refine (exec_attended h .handover).trans ?_
    rw [show perform (.s x) .handover s
      = (giveAuthority s (otherSup x) .handover).answer (.s x) .handover .nothing from if_pos hx]
    rfl
  · refine (exec_attended h .restart).trans ?_
    rw [show perform (.s x) .restart s = s.answer (.s x) .restart .nothing from if_pos hx]
  · have hauth := authorized_of_holder hx
    refine ⟨(exec_attended h (.setInput (craneNo c) 0 n)).trans ?_, (exec_attended h (.setInput (craneNo c) 1 n)).trans ?_⟩
    · simp [perform, onSup, doSetInput, hauth, he, inputOf, selectEdges]
    · simp [perform, onSup, doSetInput, hauth, he, inputOf, selectEdges]
  · have hauth := authorized_of_holder hx
    refine (exec_attended h (.setInput n i e)).trans ?_
    have hnone : craneOf n = none ∨ inputOf i = none ∨ edgeSelOf e = none := by
      rcases hbad with hb | hb | hb | hb
      · exact .inl (craneOf_eq_none (.inl hb))
      · exact .inl (craneOf_eq_none (.inr hb))
      · exact .inr (.inl (inputOf_eq_none hb))
      · exact .inr (.inr (edgeSelOf_eq_none hb))
    have hrefused : doSetInput x n i e s = s.refuse (.s x) .setInput .badField := by
      refine (if_neg (by simp [hauth])).trans ?_
      cases hc : craneOf n <;> cases hi : inputOf i <;> cases hs : edgeSelOf e <;> simp_all
    rw [show perform (.s x) (.setInput n i e) s = doSetInput x n i e s from rfl, hrefused]

/-! ### STATUS -/

theorem bookingSeen_eq_none {p : Port} {n : Nat} {s : State}
    (h : ∀ b, s.booking n = some b → ∃ c, p = .c c ∧ b.crane ≠ c) : s.bookingSeen p n = none := by
  unfold State.bookingSeen
  cases hb : s.booking n with
  | none => rfl
  | some b =>
    obtain ⟨c, rfl, hc⟩ := h b hb
    simp [seenFrom, hc]

theorem bookingSeen_eq_some {p : Port} {n : Nat} {s : State} {b : Booking} (hb : s.booking n = some b)
    (h : ∀ c, p = .c c → b.crane = c) : s.bookingSeen p n = some b := by
  unfold State.bookingSeen
  rw [hb]
  cases p with
  | c c => simp [seenFrom, h c rfl]
  | s x => rfl

theorem mayAskCrane_iff (p : Port) (c : Crane) : mayAskCrane p c = true ↔ ∀ d, p = .c d → craneNo c = craneNo d := by
  cases p with
  | c n =>
    simp only [mayAskCrane, beq_iff_eq, Port.c.injEq, forall_eq', craneNo]
    exact ⟨fun h => by rw [h], fun h => Fin.ext (by omega)⟩
  | s x => simp [mayAskCrane]

theorem doStatus_refuses {p : Port} {target n : Nat} {s : State} {why : Reason}
    (h : statusItems s p target n = .error why) : doStatus p target n s = s.refuse p .status why := by
  simp only [doStatus, h]

theorem doStatus_answers {p : Port} {target n : Nat} {s : State} {items : List Field}
    (h : statusItems s p target n = .ok items) : doStatus p target n s
      = (s.modPort p fun q => { q with overflow := false }).answer p .status (.status (s.port p).overflow items) := by
  simp only [doStatus, h]

theorem statusItems_above {s : State} {p : Port} {target n : Nat} (h : 5 < target) :
    statusItems s p target n = .error .badField := by
  match target, h with
  | _ + 6, _ => rfl

theorem statusItems_crane {s : State} {p : Port} {n : Nat} (h : ∀ c, craneOf n = some c → mayAskCrane p c = false) :
    statusItems s p 1 n = .error .badField := by
  unfold statusItems
  cases hc : craneOf n with
  | none => rfl
  | some c => simp [h c hc]

/-- The targets that are answered OK for their target and number alone. -/
theorem statusItems_ok {s : State} {p : Port} {target n : Nat}
    (h : target = 0 ∨ target = 4 ∨ target = 5 ∨ (target = 2 ∧ 1 ≤ n ∧ n ≤ 64)
      ∨ (target = 1 ∧ 1 ≤ n ∧ n ≤ 8 ∧ ∀ c, p = .c c → n = craneNo c)) :
    ∃ items, statusItems s p target n = .ok items := by
  rcases h with rfl | rfl | rfl | ⟨rfl, hl, hh⟩ | ⟨rfl, hl, hh, hown⟩
  · cases p <;> exact ⟨_, rfl⟩
  · cases p <;> exact ⟨_, rfl⟩
  · exact ⟨_, rfl⟩
  · have hx : (cellOf n).isSome = true := (cellOf_isSome n).2 ⟨hl, hh⟩
    obtain ⟨x, hx⟩ := Option.isSome_iff_exists.1 hx
    exact ⟨_, by simp only [statusItems, hx]; rfl⟩
  · have hc : craneOf n = some ⟨n - 1, by omega⟩ := dif_pos ⟨hl, hh⟩
    have hmay : mayAskCrane p ⟨n - 1, by omega⟩ = true := (mayAskCrane_iff _ _).2 fun d hd => by
      rw [← craneOf_eq_some hc]; exact hown d hd
    exact ⟨_, by simp only [statusItems, hc, hmay]; rfl⟩

/-- Settles O18. -/
theorem statusOnlyReads : Obligations.StatusOnlyReads := by
  intro p target n s h
  have row := exec_attended h (.status target n)
  refine ⟨fun items hi => row.trans ?_, fun hbad => row.trans ?_, fun ht hn => row.trans ?_, fun hok => ?_⟩
  · rw [show perform p (.status target n) s = doStatus p target n s from rfl, doStatus_answers hi]
  · have hrefused : statusItems s p target n = .error .badField := by
      rcases hbad with hb | ⟨rfl, hb⟩ | ⟨rfl, hb⟩ | ⟨rfl, c, rfl, hb⟩
      · exact statusItems_above hb
      · exact statusItems_crane (by simp [craneOf_eq_none hb])
      · simp only [statusItems, cellOf_eq_none hb]
      · refine statusItems_crane fun d hd => ?_
        rw [Bool.eq_false_iff, Ne, mayAskCrane_iff]
        intro hall
        exact hb ((craneOf_eq_some hd).trans (hall c rfl))
    rw [show perform p (.status target n) s = doStatus p target n s from rfl, doStatus_refuses hrefused]
  · subst ht
    have hrefused : statusItems s p 3 n = .error .noBooking := by simp only [statusItems, bookingSeen_eq_none hn]
    rw [show perform p (.status 3 n) s = doStatus p 3 n s from rfl, doStatus_refuses hrefused]
  · obtain ⟨items, hi⟩ := statusItems_ok (s := s) hok
    refine ⟨_, (s.port p).overflow, items, row, responds_transmit ?_⟩
    rw [show perform p (.status target n) s = doStatus p target n s from rfl, doStatus_answers hi]
    exact answer_slot _ _ _ _

end Sys2Proof.Machine.Laws

/-! SUPPORT. Requests that are refused in order: the duty requests (O29) and BOOK (O52); staging (O20), the commit
decision (O23), and the settings that wait for their boundary (O50). -/

namespace Sys2Proof.Machine.Laws

open Sys2Proof Sys2Proof.Machine

/-! ### The crane a request names -/

theorem whoSuits_of_namesCrane {p : Port} {w : Option Nat} {c : Crane} (h : namesCrane p w c) : whoSuits p w = true := by
  cases p with
  | c n => obtain ⟨rfl, -⟩ := h; rfl
  | s y => cases h; rfl

theorem craneNamed_of_namesCrane {p : Port} {w : Option Nat} {c : Crane} (h : namesCrane p w c) :
    craneNamed p w = some c := by
  cases p with
  | c n => obtain ⟨-, rfl⟩ := h; rfl
  | s y => cases h; simp [craneNamed]

theorem firstRefusal_cons_of_passes {b : Bool} (h : b = false) (why : Reason) (l : List (Bool × Reason)) :
    firstRefusal ((b, why) :: l) = firstRefusal l := if_neg (by simp [h])

/-! ### SERVICE, PARK, OOS -/

section
variable {p : Port} {w : Option Nat} {s : State}

theorem exec_service_attended (h : attends s p) (hw : whoSuits p w = true) :
    exec (.service p w) s = .next (doService p w s).transmit := by
  refine (exec_attended h (.service w)).trans ?_
  rw [show perform p (.service w) s = doService p w s from named_of_suits hw _ _ _]

theorem exec_park_attended (h : attends s p) (hw : whoSuits p w = true) :
    exec (.park p w) s = .next (doPark p w s).transmit := by
  refine (exec_attended h (.park w)).trans ?_
  rw [show perform p (.park w) s = doPark p w s from named_of_suits hw _ _ _]

theorem exec_oos_attended (h : attends s p) (hw : whoSuits p w = true) :
    exec (.oos p w) s = .next (doOos p w s).transmit := by
  refine (exec_attended h (.oos w)).trans ?_
  rw [show perform p (.oos w) s = doOos p w s from named_of_suits hw _ _ _]

/-- Each of the three requests is `decideDuty` with checks of its own. -/
theorem exec_duty_attended (h : attends s p) (hw : whoSuits p w = true) {i : Instr} {k : ReqKind} {d : Duty}
    (hi : (i, k, d) ∈ [(Instr.service p w, ReqKind.service, Duty.inService), (.park p w, .park, .parked),
      (.oos p w, .oos, .outOfService)]) :
    ∃ checks, exec i s = .next (decideDuty k d checks p w s).transmit := by
  simp only [List.mem_cons, Prod.mk.injEq, List.not_mem_nil, or_false] at hi
  rcases hi with ⟨rfl, rfl, rfl⟩ | ⟨rfl, rfl, rfl⟩ | ⟨rfl, rfl, rfl⟩
  · exact ⟨_, exec_service_attended h hw⟩
  · exact ⟨_, exec_park_attended h hw⟩
  · exact ⟨_, exec_oos_attended h hw⟩

variable {k : ReqKind} {d : Duty} {checks : State → Crane → List (Bool × Reason)} {c : Crane}

theorem decideDuty_refused {why : Reason} (h : firstRefusal (linkChecks s p) = some why) :
    decideDuty k d checks p w s = s.refuse p k why := by
  simp only [decideDuty, h]

theorem decideDuty_badField (hl : linkAllows s p) (hc : craneNamed p w = none) :
    decideDuty k d checks p w s = s.refuse p k .badField := by
  simp only [decideDuty, firstRefusal_linkChecks_allowed hl, hc]

theorem decideDuty_noCrane (hl : linkAllows s p) (hc : craneNamed p w = some c) (hd : s.declared c = false) :
    decideDuty k d checks p w s = s.refuse p k .noCrane := by
  simp [decideDuty, firstRefusal_linkChecks_allowed hl, hc, hd]

theorem decideDuty_unchanged (hl : linkAllows s p) (hc : craneNamed p w = some c) (hd : s.declared c = true)
    (he : (s.crane c).duty = d) : decideDuty k d checks p w s = s.answer p k .unchanged := by
  simp [decideDuty, firstRefusal_linkChecks_allowed hl, hc, hd, he]

theorem decideDuty_fails (hl : linkAllows s p) (hc : craneNamed p w = some c) (hd : s.declared c = true)
    (he : (s.crane c).duty ≠ d) {why : Reason} (hf : firstRefusal (checks s c) = some why) :
    decideDuty k d checks p w s = s.refuse p k why := by
  simp [decideDuty, firstRefusal_linkChecks_allowed hl, hc, hd, he, hf]

theorem decideDuty_accepts (hl : linkAllows s p) (hc : craneNamed p w = some c) (hd : s.declared c = true)
    (he : (s.crane c).duty ≠ d) (hf : firstRefusal (checks s c) = none) :
    decideDuty k d checks p w s = (changeDuty s p c d).answer p k (.duty d) := by
  simp [decideDuty, firstRefusal_linkChecks_allowed hl, hc, hd, he, hf]

end

theorem firstRefusal_oosChecks_notParked {s : State} {c : Crane} (h : (s.crane c).parkSw ≠ .asserted) :
    firstRefusal (oosChecks s c) = some .notParked := firstRefusal_of_fails (by simpa using h) _ _

theorem firstRefusal_oosChecks_inProgress {s : State} {c : Crane} (h : (s.crane c).parkSw = .asserted)
    (hl : s.liftInProgress c = true) : firstRefusal (oosChecks s c) = some .inProgress := by
  simp [oosChecks, firstRefusal, h, hl]

theorem firstRefusal_oosChecks_passes {s : State} {c : Crane} (h : (s.crane c).parkSw = .asserted)
    (hl : s.liftInProgress c = false) : firstRefusal (oosChecks s c) = none := by
  simp [oosChecks, firstRefusal, h, hl]

theorem firstRefusal_parkChecks {s : State} {c : Crane} (h : (s.crane c).duty ≠ .outOfService) :
    firstRefusal (parkChecks s c) = firstRefusal (oosChecks s c) :=
  firstRefusal_cons_of_passes (by simpa using h) _ _

/-- Settles O29. -/
theorem dutyRequestsAreRefusedInOrder : Obligations.DutyRequestsAreRefusedInOrder := by
  intro p w c s h hn
  have hw := whoSuits_of_namesCrane hn
  have hc := craneNamed_of_namesCrane hn
  refine ⟨fun i k d hi => ?_, fun y n hp hl hout => ?_, fun hl hd => ?_⟩
  · obtain ⟨checks, hrow⟩ := exec_duty_attended h hw hi
    simp only [hrow]
    exact ⟨fun ha => by rw [decideDuty_refused (firstRefusal_linkChecks_notAuthority ha)],
      fun ha hm => by rw [decideDuty_refused (firstRefusal_linkChecks_noMap ha hm)],
      fun hl hd => by rw [decideDuty_noCrane hl hc hd], fun hl hd he => by rw [decideDuty_unchanged hl hc hd he]⟩
  · subst hp
    have hnone : craneNamed (.s y) (some n) = none := craneOf_eq_none hout
    simp only [exec_service_attended (w := some n) h rfl, exec_park_attended (w := some n) h rfl,
      exec_oos_attended (w := some n) h rfl, doService, doPark, doOos, decideDuty_badField hl hnone, and_self]
  · have serviceRow := exec_service_attended h hw
    have parkRow := exec_park_attended h hw
    have oosRow := exec_oos_attended h hw
    have parks : ∀ {why}, (s.crane c).duty ≠ .outOfService → (s.crane c).duty ≠ .parked →
        firstRefusal (oosChecks s c) = some why → doPark p w s = s.refuse p .park why := fun ho he hf =>
      decideDuty_fails hl hc hd he ((firstRefusal_parkChecks ho).trans hf)
    have comesOut : ∀ {why}, (s.crane c).duty ≠ .outOfService → firstRefusal (oosChecks s c) = some why →
        doOos p w s = s.refuse p .oos why := fun he hf => decideDuty_fails hl hc hd he hf
    refine ⟨fun he hv => ?_, fun he hv hb => ?_, fun ho => ?_, fun ho he hs => ?_, fun ho he hs hlift => ?_,
      fun he hs => ?_, fun he hs hlift => ?_⟩
    · refine serviceRow.trans ?_
      rw [doService, decideDuty_fails hl hc hd he (firstRefusal_of_fails (by simp [hv]) _ _)]
    · have hf : firstRefusal (serviceChecks s c) = some .brake := by
        simp [serviceChecks, firstRefusal, hv, fbAsserted, hb]
      refine serviceRow.trans ?_
      rw [doService, decideDuty_fails hl hc hd he hf]
    · refine parkRow.trans ?_
      rw [doPark, decideDuty_fails hl hc hd (by simp [ho]) (firstRefusal_of_fails (by simp [ho]) _ _)]
    · refine parkRow.trans ?_
      rw [parks ho he (firstRefusal_oosChecks_notParked hs)]
    · refine parkRow.trans ?_
      rw [parks ho he (firstRefusal_oosChecks_inProgress hs hlift)]
    · refine oosRow.trans ?_
      rw [comesOut he (firstRefusal_oosChecks_notParked hs)]
    · refine oosRow.trans ?_
      rw [comesOut he (firstRefusal_oosChecks_inProgress hs hlift)]

/-! ### BOOK -/

theorem exec_book_attended {p : Port} {w : Option Nat} {s : State} (h : attends s p) (hw : whoSuits p w = true)
    (f : BookFields) : exec (.book p w f) s = .next (doBook p w f s).transmit := by
  refine (exec_attended h (.book w f)).trans ?_
  rw [show perform p (.book w f) s = doBook p w f s from named_of_suits hw _ _ _]

section
variable {p : Port} {w : Option Nat} {f : BookFields} {s : State} {c : Crane} (hm : s.noMap = false)
  (hk : s.clock.isSet = true) (hc : craneNamed p w = some c) (hd : s.declared c = true)
include hm hk hc hd

theorem doBook_refused {why : Reason} {item : Result} (hb : bookRefusal s c f = some (why, item)) :
    doBook p w f s = s.refuse p .book why item := by
  simp only [doBook, hm, hk, hc, hd, hb, Bool.false_eq_true, if_false, Bool.not_true]

theorem doBook_accepts (hb : bookRefusal s c f = none) : doBook p w f s = acceptBook s p c f := by
  simp only [doBook, hm, hk, hc, hd, hb, Bool.false_eq_true, if_false, Bool.not_true]

end

section
variable {s : State} {c : Crane} {f : BookFields}

theorem fieldRefusal_passes (h : namesFirst (bookFieldChecks f) none) : fieldRefusal f = none := by
  rw [fieldRefusal, (bookFieldsFailing_spec f none).1 h]
  rfl

theorem cellRefusal_passes {cells : List CellNo} {why : Reason} {fails : CellNo → Bool}
    (h : ∀ x ∈ cells, fails x = false) : cellRefusal cells why fails = none := by
  rw [cellRefusal, List.find?_eq_none.2 fun x hx => by simp [h x hx]]
  rfl

theorem overlapRefusal_passes {cells : List CellNo}
    (h : ∀ b ∈ s.book.live, conflicts c cells f.start f.duration b = false) : overlapRefusal s c cells f = none := by
  rw [overlapRefusal, List.find?_eq_none.2 fun b hb => by simp [h b hb]]
  rfl

/-- Proved by cases, so that `simp` rewrites with the equation and does not leave the kernel to unfold `b`. -/
theorem none_orElse {α : Type} (b : Option α) : (none <|> b) = b := by cases b <;> rfl

theorem some_orElse {α : Type} (a : α) (b : Option α) : (some a <|> b) = some a := by cases b <;> rfl

/-- Checks 4 to 6 of R132 pass. -/
def cellsBookable (s : State) (c : Crane) (f : BookFields) : Prop :=
  ∀ x ∈ bookCells f, s.present x = true ∧ (s.member x c).isSome ∧ s.isDraining x = false

/-- Past checks 3 to 6 a refusal names the time, the overlap or the full book. -/
theorem bookRefusal_of_bookable (hf : namesFirst (bookFieldChecks f) none) (hx : cellsBookable s c f) :
    bookRefusal s c f = (timeRefusal s.clock.count .tooLate (f.start + f.late ≤ s.clock.count)
      <|> timeRefusal s.clock.count .horizon (s.clock.count + Config.horizon < f.start)
      <|> overlapRefusal s c (bookCells f) f
      <|> if Config.bookMax ≤ s.book.live.length then some (.bookFull, .nothing) else none) := by
  rw [bookRefusal, fieldRefusal_passes hf, cellRefusal_passes fun x h => by simp [(hx x h).1],
    cellRefusal_passes fun x h => by simpa using (hx x h).2.1, cellRefusal_passes fun x h => (hx x h).2.2]
  simp only [none_orElse]

theorem timeRefusal_passes {now : Nat} {why : Reason} {b : Bool} (h : b = false) : timeRefusal now why b = none :=
  if_neg (by simp [h])

theorem timeRefusal_fails {now : Nat} {why : Reason} {b : Bool} (h : b = true) :
    timeRefusal now why b = some (why, .clockNow now) := if_pos h

end

/-- Settles O52: the checks stand in `bookRefusal` in the order of R132. -/
theorem bookIsRefusedInOrder : Obligations.BookIsRefusedInOrder := by
  intro p w f s h hw
  have row := exec_book_attended h hw f
  refine ⟨fun hm => ?_, fun hm hk => ?_, fun n ho hn hout => ?_, fun c ho hc => ?_⟩
  · rw [row, show doBook p w f s = _ from if_pos hm]
  · rw [row, show doBook p w f s = s.refuse p .book .noClock by simp [doBook, hm, hk]]
  · obtain ⟨hm, hk⟩ := ho
    subst hn
    have hnone : craneNamed p (some n) = none := by
      cases p with
      | c d => simp [whoSuits] at hw
      | s y => exact craneOf_eq_none hout
    rw [row, show doBook p (some n) f s = s.refuse p .book .badField (.badCrane n) by simp [doBook, hm, hk, hnone]]
  obtain ⟨hm, hk⟩ := ho
  have refused : ∀ {why item}, s.declared c = true → bookRefusal s c f = some (why, item) →
      exec (.book p w f) s = .next (s.refuse p .book why item).transmit := fun hd hb => by
    rw [row, doBook_refused hm hk hc hd hb]
  refine ⟨fun hd => ?_, fun x hd hx => ?_, fun hd hf => ⟨fun x hx => ?_, fun x hp hx => ?_, fun x hp hx => ?_,
    fun hx => ?_⟩⟩
  · rw [row, show doBook p w f s = s.refuse p .book .noCrane (.badCrane (craneNo c)) by simp [doBook, hm, hk, hc, hd]]
  · refine refused hd ?_
    rw [bookRefusal, fieldRefusal, (bookFieldsFailing_spec f _).1 hx, Option.map_some, some_orElse]
  · refine refused hd ?_
    rw [bookRefusal, fieldRefusal_passes hf, cellRefusal, hx]
    simp only [Option.map_some, none_orElse, some_orElse]
  · refine refused hd ?_
    rw [bookRefusal, fieldRefusal_passes hf, cellRefusal_passes fun y hy => by simp [hp y hy], cellRefusal, hx]
    simp only [Option.map_some, none_orElse, some_orElse]
  · refine refused hd ?_
    rw [bookRefusal, fieldRefusal_passes hf, cellRefusal_passes fun y hy => by simp [(hp y hy).1],
      cellRefusal_passes fun y hy => by simpa using (hp y hy).2, cellRefusal, hx]
    simp only [Option.map_some, none_orElse, some_orElse]
  · have hrest := bookRefusal_of_bookable (s := s) (c := c) hf hx
    refine ⟨fun ht => refused hd ?_, fun ht hh => refused hd ?_, fun ht hh => ⟨fun b hb => refused hd ?_,
      fun hb hfull => refused hd ?_⟩⟩
    · rw [hrest, timeRefusal_fails (decide_eq_true ht), some_orElse]
    · have hfar : s.clock.count + Config.horizon < f.start := by unfold Config.horizon; exact hh
      rw [hrest, timeRefusal_passes (decide_eq_false (by omega)), timeRefusal_fails (decide_eq_true hfar), none_orElse, some_orElse]
    · rw [hrest, timeRefusal_passes (decide_eq_false (by omega)),
        timeRefusal_passes (decide_eq_false (by unfold Config.horizon; omega)), overlapRefusal, hb]
      simp only [Option.map_some, none_orElse, some_orElse]
    · rw [hrest, timeRefusal_passes (decide_eq_false (by omega)),
        timeRefusal_passes (decide_eq_false (by unfold Config.horizon; omega)), overlapRefusal_passes hb,
        if_pos (show Config.bookMax ≤ _ from hfull)]
      simp only [none_orElse]

/-! ### SETWIND and SETCAL -/

theorem calOf_eq (k : RawCal) : calOf k = if k.kA ≤ 4095 ∧ k.kB ≤ 4095 ∧ k.filterA ≤ 1 ∧ k.filterB ≤ 1 then
    some ⟨⟨k.kA, k.filterA == 1⟩, ⟨k.kB, k.filterB == 1⟩⟩ else none := by
  unfold calOf
  rw [flagOf_eq_ite, flagOf_eq_ite]
  by_cases ha : k.kA ≤ 4095 <;> by_cases hb : k.kB ≤ 4095 <;> by_cases hfa : k.filterA ≤ 1 <;>
    by_cases hfb : k.filterB ≤ 1 <;> simp [ha, hb, hfa, hfb]

/-- Settles O50. -/
theorem setWindAndSetCalWaitForTheirBoundary : Obligations.SetWindAndSetCalWaitForTheirBoundary := by
  intro x s h hx
  have hauth : (!s.authorized (.s x)) = false := by rw [authorized_of_holder hx]; rfl
  refine ⟨fun t i ht => (exec_attended h (.setWind t)).trans ?_, fun t ht => (exec_attended h (.setWind t)).trans ?_,
    fun k hk => (exec_attended h (.setCal k)).trans ?_, fun k ha hb hfa hfb => (exec_attended h (.setCal k)).trans ?_⟩
  · have hfails := (thresholdsFailing_spec t _).1 ht
    simp [perform, onSup, doSetWind, hauth, hfails]
  · have hpasses := (thresholdsFailing_spec t _).1 ht
    simp [perform, onSup, doSetWind, hauth, hpasses, samplesLeft]
  · have hnone : calOf k = none := by rw [calOf_eq, if_neg (by omega)]
    simp [perform, onSup, doSetCal, hauth, hnone]
  · have hsome := (calOf_eq k).trans (if_pos ⟨ha, hb, hfa, hfb⟩)
    simp only [perform, onSup, doSetCal, hauth, hsome]
    rfl

end Sys2Proof.Machine.Laws

/-! SUPPORT. Staging of single records (O20), the commit decision (O23), the ends of store writes (O58), resets and the
loss of supply (O59), and pulses (O43). -/

namespace Sys2Proof.Machine.Laws

open Sys2Proof Sys2Proof.Machine

/-! ### Staged records -/

theorem firstRefusal_stageChecks_pending {x : Sup} {s : State} (hx : x = s.holder) {left : Nat}
    (hp : s.map.commit = .pending left) : firstRefusal (stageChecks s (.s x)) = some .commitPending := by
  simp [firstRefusal, stageChecks, State.authorized, isPending, hx, hp]

theorem stage_pending {x : Sup} {s : State} (hx : x = s.holder) {left : Nat} (hp : s.map.commit = .pending left)
    (k : ReqKind) (f : MapUnit → Option (MapUnit × Result)) : stage k x f s = s.refuse (.s x) k .commitPending := by
  simp only [stage, firstRefusal_stageChecks_pending hx hp]

theorem memberStored_of_role {m : RawMember} (h : 1 < m.role) : memberStored m = none := by
  unfold memberStored
  split <;> first | omega | rfl

theorem membersStored_of_role {ms : List RawMember} (h : ∃ m ∈ ms, 1 < m.role) : membersStored ms = none := by
  induction ms with
  | nil => simp at h
  | cons m ms ih =>
    rcases (List.exists_mem_cons_iff _ _ _).1 h with hm | hms
    · simp [membersStored, memberStored_of_role hm]
    · rw [membersStored, ih hms]
      cases memberStored m <;> rfl

theorem recordsStored_of_role {rs : List RawRecord} (h : ∃ r ∈ rs, ∃ m ∈ r.members, 1 < m.role) :
    recordsStored rs = none := by
  induction rs with
  | nil => simp at h
  | cons r rs ih =>
    rcases (List.exists_mem_cons_iff _ _ _).1 h with hr | hrs
    · simp [recordsStored, recordStored, membersStored_of_role hr]
    · rw [recordsStored, ih hrs]
      cases recordStored r <;> rfl

theorem length_recordsStored {rs : List RawRecord} {ds : List CellDecl} (h : recordsStored rs = some ds) :
    ds.length = rs.length := by
  induction rs generalizing ds with
  | nil => cases h; rfl
  | cons r rs ih =>
    unfold recordsStored at h
    split at h
    next hr hrs => cases h; simp [ih hrs]
    next => cases h

theorem putRecords_decls (m : MapBody) (n : Nat) (ds : List CellDecl) : (putRecords m n ds).decls = m.decls := by
  induction ds generalizing m n with
  | nil => rfl
  | cons d ds ih =>
    unfold putRecords
    cases cellOf n with
    | none => rfl
    | some x => exact ih _ _

/-- Each record stands at its own cell, and every other cell is left (R9). -/
theorem putRecords_cells (m : MapBody) (n : Nat) (ds : List CellDecl) (h1 : 1 ≤ n) (h : n + ds.length ≤ 65)
    (j : CellNo) : (putRecords m n ds).cells[j]
      = if n ≤ cellNo j ∧ cellNo j < n + ds.length then ds[cellNo j - n]? else m.cells[j] := by
  induction ds generalizing m n with
  | nil =>
    rw [if_neg (by simp)]
    rfl
  | cons d ds ih =>
    rw [List.length_cons] at h ⊢
    obtain ⟨x, hx⟩ := Option.isSome_iff_exists.1 ((cellOf_isSome n).2 ⟨h1, by omega⟩)
    have hn := cellOf_eq_some hx
    have hput : putRecords m n (d :: ds) = putRecords (setCell m x (some d)) (n + 1) ds := by
      simp only [putRecords, hx]
    rw [hput, ih _ _ (by omega) (by omega)]
    by_cases hj : cellNo j = n
    · obtain rfl : j = x := Fin.ext (by unfold cellNo at hn hj; omega)
      rw [if_neg (by omega), if_pos (by omega), hj, Nat.sub_self]
      simp [setCell]
    · have hne : x ≠ j := fun he => hj (by rw [hn, he])
      by_cases hin : n ≤ cellNo j ∧ cellNo j < n + (ds.length + 1)
      · rw [if_pos (by omega), if_pos hin, show cellNo j - n = (cellNo j - (n + 1)) + 1 by omega,
          List.getElem?_cons_succ]
      · rw [if_neg (by omega), if_neg hin]
        simp [setCell, Vector.getElem_set_ne, Fin.val_ne_iff.2 hne]

section
variable {x : Sup} {s : State} (hx : x = s.holder) (hi : s.map.commit = .idle)
include hx hi

theorem doStageCrane_refuses {n : Nat} (hn : craneOf n = none) (d : Option Decl) :
    doStageCrane x n d s = s.refuse (.s x) .stageCrane .badField := stage_refuses hx hi _ (by simp only [hn]; rfl)

theorem doStageRemoveCell_refuses {n : Nat} (hn : cellOf n = none) :
    doStageRemoveCell x n s = s.refuse (.s x) .stageRemoveCell .badField := stage_refuses hx hi _ (by simp only [hn]; rfl)

theorem doStageCell_refuses {n : Nat} {recs : List RawRecord}
    (h : stageCellInRange n recs.length = false ∨ recordsStored recs = none) :
    doStageCell x n recs s = s.refuse (.s x) .stageCell .badField := by
  refine stage_refuses hx hi _ ?_
  by_cases hr : stageCellInRange n recs.length = true
  · simp only [if_pos hr, h.resolve_left (by simp [hr]), Option.map_none]
  · exact if_neg hr

theorem doStageCrane_accepts (c : Crane) (d : Option Decl) : doStageCrane x (craneNo c) d s
    = (s.setMap { s.map with staged := setDecl s.map.staged c d }).answer (.s x) .stageCrane .nothing :=
  stage_accepts hx hi _ (by simp only [craneOf_craneNo]; rfl)

theorem doStageRemoveCell_accepts (k : CellNo) : doStageRemoveCell x (cellNo k) s
    = (s.setMap { s.map with staged := setCell s.map.staged k none }).answer (.s x) .stageRemoveCell .nothing :=
  stage_accepts hx hi _ (by simp only [cellOf_cellNo]; rfl)

theorem doStageCell_accepts {n : Nat} {recs : List RawRecord} {ds : List CellDecl}
    (hr : stageCellInRange n recs.length = true) (hds : recordsStored recs = some ds) : doStageCell x n recs s
      = (s.setMap { s.map with staged := putRecords s.map.staged n ds }).answer (.s x) .stageCell .nothing :=
  stage_accepts hx hi _ (by simp only [if_pos hr, hds]; rfl)

end

theorem stageCellInRange_iff (n k : Nat) :
    stageCellInRange n k = true ↔ 1 ≤ n ∧ n ≤ 64 ∧ 1 ≤ k ∧ k ≤ 4 ∧ n + k ≤ 65 := by
  simp [stageCellInRange, and_assoc]

/-- The row of a request of a supervisor link that attends is the request's own handling. -/
theorem exec_sup_attended {x : Sup} {s t : State} (h : attends s (.s x)) (r : Request)
    (hp : perform (.s x) r s = t) : exec (requestRow (.s x) r) s = .next t.transmit := by
  rw [exec_attended h, hp]

/-- Settles O20. -/
theorem stagingPutsAndRemovesRecords : Obligations.StagingPutsAndRemovesRecords := by
  intro x s h hx
  refine ⟨fun left n d recs v hp i k hi => ?_, fun hi => ⟨fun n d hn => ?_, fun n hn => ?_, fun n recs hn => ?_,
    fun c d => ?_, fun k => ?_, fun k recs ds h1 h4 h65 hds => ?_⟩⟩
  · have refused := stage_pending hx hp
    simp only [List.mem_cons, Prod.mk.injEq, List.not_mem_nil, or_false] at hi
    rcases hi with ⟨rfl, rfl⟩ | ⟨rfl, rfl⟩ | ⟨rfl, rfl⟩ | ⟨rfl, rfl⟩ | ⟨rfl, rfl⟩ | ⟨rfl, rfl⟩
    · exact exec_sup_attended h .stageClear (show doStageClear x s = _ from refused .stageClear _)
    · exact exec_sup_attended h .stageCopy (show doStageCopy x s = _ from refused .stageCopy _)
    · exact exec_sup_attended h (.stageCrane n d) (show doStageCrane x n d s = _ from refused .stageCrane _)
    · exact exec_sup_attended h (.stageCell n recs) (show doStageCell x n recs s = _ from refused .stageCell _)
    · exact exec_sup_attended h (.stageRemoveCell n) (show doStageRemoveCell x n s = _ from refused .stageRemoveCell _)
    · exact exec_sup_attended h (.stageSite v) (show doStageSite x v s = _ from refused .stageSite _)
  · exact exec_sup_attended h (.stageCrane n d) (doStageCrane_refuses hx hi (craneOf_eq_none hn) d)
  · exact exec_sup_attended h (.stageRemoveCell n) (doStageRemoveCell_refuses hx hi (cellOf_eq_none hn))
  · refine exec_sup_attended h (.stageCell n recs) (doStageCell_refuses hx hi ?_)
    by_cases hrole : ∃ r ∈ recs, ∃ m ∈ r.members, 1 < m.role
    · exact .inr (recordsStored_of_role hrole)
    · refine .inl (Bool.eq_false_iff.2 fun hr => ?_)
      have hrange := (stageCellInRange_iff _ _).1 hr
      rcases hn with hn | hn | hn | hn | hn | hn <;> first | omega | exact hrole hn
  · exact exec_sup_attended h (.stageCrane (craneNo c) d) (doStageCrane_accepts hx hi c d)
  · exact exec_sup_attended h (.stageRemoveCell (cellNo k)) (doStageRemoveCell_accepts hx hi k)
  · have hk : 1 ≤ cellNo k ∧ cellNo k ≤ 64 := by unfold cellNo; omega
    have hset := doStageCell_accepts hx hi ((stageCellInRange_iff _ _).2 ⟨hk.1, hk.2, h1, h4, h65⟩) hds
    have hlen := length_recordsStored hds
    have hkept := kept_answered (s := s.setMap { s.map with staged := putRecords s.map.staged (cellNo k) ds }) rfl
      (Grows.refl _) (.s x) ⟨respKind .stageCell, .ok, none, .nothing⟩
    refine ⟨_, exec_sup_attended h (.stageCell (cellNo k) recs) hset, responds_transmit (answer_slot _ _ _ _), ?_⟩
    simp only [transmit_map, transmit_cells, transmit_cranes, transmit_envs, transmit_outs, transmit_sigs,
      transmit_wind, transmit_book, transmit_store]
    refine ⟨putRecords_decls _ _ _, rfl, rfl, rfl, hi, rfl, fun j => ?_, rfl, rfl, rfl, rfl, rfl, rfl, rfl, rfl, hkept⟩
    exact (putRecords_cells s.map.staged (cellNo k) ds hk.1 (by omega) j).trans (by rw [hlen])

/-! ### The commit decision -/

/-- Settles O23. -/
theorem commitIsRefusedOrBecomesPending : Obligations.CommitIsRefusedOrBecomesPending := by
  intro x s h hx
  have row := exec_attended h .commit
  refine ⟨fun left hp => row.trans ?_, fun hi => ⟨fun f n hf => row.trans ?_, fun hv hd => row.trans ?_⟩⟩
  · rw [show perform (.s x) .commit s = doCommit x s from rfl, doCommit, firstRefusal_stageChecks_pending hx hp]
  · rw [show perform (.s x) .commit s = doCommit x s from rfl, doCommit, firstRefusal_stageChecks_idle hx hi,
      ((validate_spec _).1 f n).2 hf]
  · rw [show perform (.s x) .commit s = doCommit x s from rfl, doCommit, firstRefusal_stageChecks_idle hx hi,
      (validate_spec _).2.2 hv]
    simp only [decideCommit, hd]
    rfl

/-! ### Store writes -/

theorem holdSection_waiting (k : Store) (c : Content) (good : Bool) : (holdSection k c good).waiting = k.waiting := by
  cases c <;> rfl

theorem nextWrite_eq (k : Store) :
    nextWrite k = { k with retry := false, writing := k.waiting.head?, waiting := k.waiting.tail } := by
  cases k with
  | mk map options calibration threshold signals writing retry waiting fault =>
    cases waiting <;> rfl

/-- Settles O58. -/
theorem storeWritesEndWithTheirReadBack : Obligations.StoreWritesEndWithTheirReadBack := by
  intro c s hr hw
  have row : ∀ good, exec (.storeWriteDone good) s = .next (writeEnds good s).transmit := fun good => by
    rw [show exec (.storeWriteDone good) s = .next (writeRow good s) from rfl, writeRow, hr]
    exact next_whenRunning hr _
  refine ⟨?_, fun hretry => ?_, fun hretry => ?_⟩
  · have hgood : writeEnds true s = s.setStore { holdSection s.store c true with
        fault := false, retry := false, writing := s.store.waiting.head?, waiting := s.store.waiting.tail } := by
      simp only [writeEnds, hw, if_true, nextWrite_eq, holdSection_waiting]
    have hkept := kept_event (s := s) (t := s.setStore { holdSection s.store c true with
      fault := false, retry := false, writing := s.store.waiting.head?, waiting := s.store.waiting.tail }) rfl
      (fun q => Grows.refl s q)
    refine ⟨_, row true, ?_⟩
    rw [hgood]
    simp only [transmit_store, transmit_map, transmit_cells, transmit_cranes, transmit_wind, transmit_book]
    exact ⟨rfl, rfl, rfl, rfl, rfl, rfl, hkept⟩
  · rw [row, writeEnds, hw]
    simp [hretry]
  · rw [row, writeEnds, hw]
    simp [hretry, nextWrite_eq, holdSection_waiting]

/-! ### Resets and the loss of supply -/

theorem takeReset_out (cause : ResetCause) (s : State) (c : Crane) :
    (takeReset cause s).out c = heldOut cause (s.out c) := by
  simp [takeReset, State.out]

theorem takeReset_sig (cause : ResetCause) (s : State) (l : SigLine) :
    (takeReset cause s).sig l = heldSig (s.sig l) := by
  simp [takeReset, State.sig]

theorem freshPorts_port (p : Port) :
    freshPorts[portIndex p] = PortRec.reset (if p = .s .s1 then everyClass else noClasses) := by
  cases p with
  | c n =>
    have hn : (8 : Nat) ≠ n.val := by omega
    simp [freshPorts, portIndex, Vector.getElem_set_ne, hn]
  | s y => cases y <;> rfl

/-- Settles O59. -/
theorem resetsHoldTheOutputsAndEmptyThePorts : Obligations.ResetsHoldTheOutputsAndEmptyThePorts := by
  intro s taken
  have takes : ∀ {i cause}, exec i s = .next (takeReset cause s) → taken i cause := fun {i cause} hrow =>
    ⟨_, hrow, rfl, rfl, rfl, fun c => takeReset_out _ _ c, fun l => takeReset_sig _ _ l, fun p => freshPorts_port p,
      rfl, rfl, rfl, rfl, rfl, rfl, rfl, rfl, rfl, rfl, rfl, rfl, rfl⟩
  refine ⟨takes rfl, fun hr => takes ?_, fun hr hready => takes ?_, fun corrupt => ?_⟩
  · rw [show exec .panelReset s = .next (panelPressed s) from rfl, panelPressed, hr]
  · exact congrArg Host.Outcome.next (if_pos ⟨hr, hready⟩)
  · rw [show exec (.lossOfSupply corrupt) s = .next (supplyFails corrupt s) from rfl, supplyFails, storeLoses]
    cases corrupt <;> cases s.store.writing <;> rfl

/-! ### Pulses -/

theorem counted_iff (k : ChanRec) (micros : Nat) :
    counted k micros = true ↔ k.cal.k ≠ 0 ∧ (k.cal.filter = true → 200 ≤ micros) := by
  cases hf : k.cal.filter <;> simp [counted, hf]

theorem pulse_eq (k : ChanRec) (micros : Nat) : pulse k micros
    = if k.cal.k ≠ 0 ∧ (k.cal.filter = true → 200 ≤ micros) then { k with count := min 1023 (k.count + 1) } else k := by
  simp only [pulse, counted_iff]

/-- Settles O43. -/
theorem pulsesAreCountedUpTo1023 : Obligations.PulsesAreCountedUpTo1023 := by
  intro ch micros s hr k
  refine ⟨_, next_whenRunning hr _, ?_⟩
  have hports := keepsPorts_transmit (keepsPorts_of_core (s := s.setMeas (pulseAt s.meas ch micros)) rfl (Grows.refl _))
  simp only [transmit_meas, transmit_map, transmit_cranes, transmit_envs, transmit_cells, transmit_outs, transmit_sigs,
    transmit_sources, transmit_wind, transmit_book, transmit_store, transmit_clock, transmit_pending, transmit_phase,
    transmit_cause, transmit_restartReady, transmit_holder, transmit_takeKey]
  refine ⟨?_, ?_, fun m hm => ?_, rfl, rfl, rfl, rfl, rfl, rfl, rfl, rfl, rfl, rfl, rfl, rfl, hr, rfl, rfl, rfl, rfl, hports⟩
  · rw [← pulse_eq]
    cases ch <;> rfl
  · cases ch <;> rfl
  · subst hm
    cases ch <;> rfl

end Sys2Proof.Machine.Laws

/-! SUPPORT. The bytes of a link: the body that spells a request decodes to it (O10), and the byte receiver takes a
whole frame (O11, O12). -/

namespace Sys2Proof.Machine.Laws

open Sys2Proof Sys2Proof.Machine

/-! ### Numbers and their bytes -/

@[simp] theorem toNat_lowByte (n : Nat) : (lowByte n).toNat = n % 256 := by simp [lowByte]

theorem toNat_lowByte_of_fits {n : Nat} (h : fits8 n = true) : (lowByte n).toNat = n := by
  rw [toNat_lowByte, Nat.mod_eq_of_lt (of_decide_eq_true h)]

theorem beNat_be16 {n : Nat} (h : fits16 n = true) : beNat [lowByte (n / 256), lowByte n] = n := by
  have hn : n < 65536 := of_decide_eq_true h
  simp only [beNat, List.foldl_cons, List.foldl_nil, toNat_lowByte]
  omega

theorem beNat_be24 {n : Nat} (h : n < 16777216) :
    beNat [lowByte (n / 65536), lowByte (n / 256), lowByte n] = n := by
  simp only [beNat, List.foldl_cons, List.foldl_nil, toNat_lowByte]
  omega

theorem beNat_be32 {n : Nat} (h : fits32 n = true) :
    beNat [lowByte (n / 16777216), lowByte (n / 65536), lowByte (n / 256), lowByte n] = n := by
  have hn : n < 4294967296 := of_decide_eq_true h
  simp only [beNat, List.foldl_cons, List.foldl_nil, toNat_lowByte]
  omega

theorem fits16_signedBits (v : Int) : fits16 (signedBits 16 v) = true := by
  have h : (v % 2 ^ 16).toNat < 65536 := by omega
  exact decide_eq_true h

theorem fits8_signedBits (v : Int) : fits8 (signedBits 8 v) = true := by
  have h : (v % 2 ^ 8).toNat < 256 := by omega
  exact decide_eq_true h

theorem signedOf_signedBits_16 {v : Int} (h : -32768 ≤ v ∧ v ≤ 32767) : signedOf 16 (signedBits 16 v) = v := by
  unfold signedOf signedBits
  by_cases hv : (v % 2 ^ 16).toNat < 2 ^ (16 - 1)
  · rw [if_pos hv]; omega
  · rw [if_neg hv]; omega

theorem signedOf_signedBits_8 {v : Int} (h : -128 ≤ v ∧ v ≤ 127) : signedOf 8 (signedBits 8 v) = v := by
  unfold signedOf signedBits
  by_cases hv : (v % 2 ^ 8).toNat < 2 ^ (8 - 1)
  · rw [if_pos hv]; omega
  · rw [if_neg hv]; omega

theorem linesOf_linesByte (m : Lines) : linesOf (linesByte m) = m := by
  obtain ⟨a, b, c, d, e⟩ := m
  revert a b c d e
  decide

theorem classesOf_classesByte (m : Classes) : classesOf (classesByte m) = m := by
  obtain ⟨a, b, c, d, e⟩ := m
  revert a b c d e
  decide

/-! ### The crane byte, members and records -/

theorem craneFirst_craneByte {p : Port} {w : Option Nat} (h : whoFits p w = true) (b : List Byte) :
    craneFirst p (craneByte w ++ b) = some (w, b) := by
  cases p with
  | c n => cases w with
    | none => rfl
    | some n => cases h
  | s y => cases w with
    | none => cases h
    | some n =>
      change some (some (lowByte n).toNat, b) = some (some n, b)
      rw [toNat_lowByte_of_fits h]

theorem memberOf_memberBytes {m : RawMember} (h : m.fits = true) :
    memberOf (lowByte (m.crane + 16 * m.role)) (lowByte ((m.start * 4096 + m.len) / 65536))
      (lowByte ((m.start * 4096 + m.len) / 256)) (lowByte (m.start * 4096 + m.len))
      (lowByte ((m.rMin * 4194304 + m.rMax * 4096 + m.clearance) / 16777216))
      (lowByte ((m.rMin * 4194304 + m.rMax * 4096 + m.clearance) / 65536))
      (lowByte ((m.rMin * 4194304 + m.rMax * 4096 + m.clearance) / 256))
      (lowByte (m.rMin * 4194304 + m.rMax * 4096 + m.clearance)) = m := by
  obtain ⟨crane, role, start, len, rMin, rMax, clearance⟩ := m
  obtain ⟨hcrane, hrole, hstart, hlen, hmin, hmax, hclear⟩ := of_decide_eq_true h
  simp only at hcrane hrole hstart hlen hmin hmax hclear
  simp only [memberOf]
  rw [beNat_be24 (by omega), beNat_be32 (decide_eq_true (by omega)), toNat_lowByte]
  congr 1 <;> omega

theorem parseMembers_membersBytes {ms : List RawMember} (h : ms.all RawMember.fits = true) (rest : List Byte) :
    parseMembers ms.length (membersBytes ms ++ rest) = some (ms, rest) := by
  induction ms with
  | nil => rfl
  | cons m ms ih =>
    obtain ⟨hm, hms⟩ : m.fits = true ∧ ms.all RawMember.fits = true := by simpa using h
    simp only [membersBytes, memberBytes, be24, be32, List.length_cons, List.cons_append, List.nil_append,
      parseMembers, ih hms, memberOf_memberBytes hm, Option.map_some]

/-- The header byte of a record: the two flags and the number of members. -/
theorem recordHeader_spec (g u : Bool) {n : Nat} (h : n < 16) :
    (lowByte (boolBit g 1 + boolBit u 2 + 16 * n)).toNat / 16 = n
      ∧ (lowByte (boolBit g 1 + boolBit u 2 + 16 * n)).getLsbD 0 = g
      ∧ (lowByte (boolBit g 1 + boolBit u 2 + 16 * n)).getLsbD 1 = u := by
  have hall : ∀ g u : Bool, ∀ k : Fin 16, (lowByte (boolBit g 1 + boolBit u 2 + 16 * k.val)).toNat / 16 = k.val
      ∧ (lowByte (boolBit g 1 + boolBit u 2 + 16 * k.val)).getLsbD 0 = g
      ∧ (lowByte (boolBit g 1 + boolBit u 2 + 16 * k.val)).getLsbD 1 = u := by decide
  exact hall g u ⟨n, h⟩

theorem parseRecords_recordsBytes {rs : List RawRecord} (h : rs.all RawRecord.fits = true) (rest : List Byte) :
    parseRecords rs.length (recordsBytes rs ++ rest) = some (rs, rest) := by
  induction rs with
  | nil => rfl
  | cons r rs ih =>
    obtain ⟨hr, hrs⟩ : r.fits = true ∧ rs.all RawRecord.fits = true := by simpa using h
    obtain ⟨hlen, hms⟩ : r.members.length < 16 ∧ r.members.all RawMember.fits = true := by
      simpa [RawRecord.fits] using hr
    obtain ⟨hcount, hguarded, hruling⟩ := recordHeader_spec r.guarded r.ruling hlen
    simp only [recordsBytes, List.length_cons, List.cons_append, List.append_assoc, parseRecords, hcount, hguarded,
      hruling, parseMembers_membersBytes hms, Option.bind_some, ih hrs, Option.map_some]

/-! ### Bodies and kinds -/

theorem ofCode_code (k : ReqKind) : ReqKind.ofCode k.code = some k := by cases k <;> rfl

theorem map_toNat_lowByte {ns : List Nat} (h : ns.all fits8 = true) : (ns.map lowByte).map BitVec.toNat = ns := by
  rw [List.map_map]
  exact (List.map_congr_left fun n hn => toNat_lowByte_of_fits (List.all_eq_true.1 h n hn)).trans (List.map_id _)

theorem parse_declaration {p : Port} {c : Nat} {d : Decl} (hc : fits8 c = true) (h : d.fits = true) :
    parseBody p .stageCrane (requestBody (.stageCrane c (some d))) = some (.stageCrane c (some d)) := by
  simp only [Decl.fits, Bool.and_eq_true] at h
  obtain ⟨⟨⟨⟨⟨⟨⟨⟨⟨hjib, hhook⟩, hpark⟩, hreaction⟩, hslew⟩, htrol⟩, hmargin⟩, hradial⟩, hwind⟩, hvane⟩ := h
  simp [requestBody, parseBody, be16, beNat_be16, toNat_lowByte_of_fits, hc, hjib, hhook, hpark, hreaction, hslew, htrol,
    hmargin, hradial, hwind, hvane, -toNat_lowByte]

theorem parse_thresholds {p : Port} {t : Thresholds} (h : t.fits = true) :
    parseBody p .setWind (requestBody (.setWind t)) = some (.setWind t) := by
  simp only [Thresholds.fits, Bool.and_eq_true] at h
  obtain ⟨⟨⟨⟨⟨⟨⟨⟨⟨⟨ha, hb⟩, hc⟩, hd⟩, he⟩, hf⟩, hg⟩, hh⟩, hi⟩, hj⟩, hk⟩ := h
  simp [requestBody, parseBody, be16, beNat_be16, ha, hb, hc, hd, he, hf, hg, hh, hi, hj, hk]

theorem parse_report {p : Port} {r : RawReport} (h : r.fits = true) :
    parseBody p .report (requestBody (.report r)) = some (.report r) := by
  simp only [RawReport.fits, Bool.and_eq_true, decide_eq_true_eq] at h
  obtain ⟨⟨⟨⟨⟨htheta, homega⟩, hr⟩, hv⟩, hh⟩, hdoubt⟩ := h
  simp [requestBody, parseBody, be16, beNat_be16, toNat_lowByte_of_fits, htheta, hr, hh, hdoubt, fits16_signedBits,
    fits8_signedBits, signedOf_signedBits_16 homega, signedOf_signedBits_8 hv, -toNat_lowByte]

theorem parse_book {p : Port} {w : Option Nat} {f : BookFields} (h : (Request.book w f).fieldsFit p = true) :
    parseBody p .book (requestBody (.book w f)) = some (.book w f) := by
  simp only [Request.fieldsFit, Bool.and_eq_true] at h
  obtain ⟨⟨⟨⟨⟨⟨⟨hw, hstart⟩, hduration⟩, hlate⟩, hcls⟩, hinspect⟩, hcount⟩, hcells⟩ := h
  have hmap := map_toNat_lowByte hcells
  rw [List.map_map] at hmap
  simp [requestBody, parseBody, List.append_assoc, craneFirst_craneByte hw, be16, be32, beNat_be16, beNat_be32,
    toNat_lowByte_of_fits, hstart, hduration, hlate, hcls, hinspect, hcount, hmap, -toNat_lowByte]

theorem parse_cellRecords {p : Port} {n : Nat} {rs : List RawRecord} (h : (Request.stageCell n rs).fieldsFit p = true) :
    parseBody p .stageCell (requestBody (.stageCell n rs)) = some (.stageCell n rs) := by
  simp only [Request.fieldsFit, Bool.and_eq_true] at h
  obtain ⟨⟨hn, hcount⟩, hrs⟩ := h
  have hparse := parseRecords_recordsBytes hrs []
  rw [List.append_nil] at hparse
  simp [requestBody, parseBody, toNat_lowByte_of_fits, hn, hcount, hparse, -toNat_lowByte]

theorem parse_siteParams {p : Port} {v : RawParams} (h : (Request.stageSite v).fieldsFit p = true) :
    parseBody p .stageSite (requestBody (.stageSite v)) = some (.stageSite v) := by
  simp only [Request.fieldsFit, Bool.and_eq_true] at h
  obtain ⟨⟨⟨⟨⟨⟨⟨hsilence, hlost⟩, hwait⟩, hrecall⟩, hpark⟩, hcommit⟩, hhold⟩, holdoff⟩ := h
  simp [requestBody, parseBody, be16, beNat_be16, toNat_lowByte_of_fits, hsilence, hlost, hwait, hrecall, hpark, hcommit,
    hhold, holdoff, -toNat_lowByte]

/-- The numbers of a request stand in its body byte for byte. -/
theorem parseBody_requestBody {p : Port} {r : Request} (h : r.fieldsFit p = true) :
    parseBody p r.kind (requestBody r) = some r := by
  have hfit := h
  cases r <;> simp only [Request.fieldsFit, Bool.and_eq_true] at h
  case report => exact parse_report h
  case book => exact parse_book hfit
  case setWind => exact parse_thresholds h
  case stageCell => exact parse_cellRecords hfit
  case stageSite => exact parse_siteParams hfit
  case stageCrane c d => cases d with
    | none => simp [requestBody, Request.kind, parseBody, toNat_lowByte_of_fits h.1, -toNat_lowByte]
    | some d => exact parse_declaration h.1 (by simpa using h.2)
  case noticeMask m => exact congrArg (fun k => some (Request.noticeMask k)) (classesOf_classesByte m)
  case inhibitSet c m =>
    simp [requestBody, Request.kind, parseBody, toNat_lowByte_of_fits h, linesOf_linesByte, -toNat_lowByte]
  case inhibitClear c m =>
    simp [requestBody, Request.kind, parseBody, toNat_lowByte_of_fits h, linesOf_linesByte, -toNat_lowByte]
  case enter w x =>
    simp [requestBody, Request.kind, parseBody, craneFirst_craneByte h.1, toNat_lowByte_of_fits h.2, -toNat_lowByte]
  case leave w x =>
    simp [requestBody, Request.kind, parseBody, craneFirst_craneByte h.1, toNat_lowByte_of_fits h.2, -toNat_lowByte]
  case park w | service w | oos w =>
    have hw := craneFirst_craneByte h []
    rw [List.append_nil] at hw
    simp [requestBody, Request.kind, parseBody, hw]
  all_goals
    simp [requestBody, Request.kind, parseBody, be16, be32, beNat_be16, beNat_be32, toNat_lowByte_of_fits, h,
      -toNat_lowByte]

/-- Settles O10. -/
theorem requestBodyDecodesToItsRequest : Obligations.RequestBodyDecodesToItsRequest := by
  intro p r h
  obtain ⟨⟨hcarries, hfit⟩, -⟩ : (p.carries r.kind = true ∧ r.fieldsFit p = true) ∧ (requestBody r).length ≤ 119 := by
    simpa [Request.wellFormed] using h
  rw [decodeFrame, ofCode_code]
  simp only [hcarries, if_true, parseBody_requestBody hfit]

/-! ### The byte receiver -/

theorem setRx_setRx (p : Port) (a b : Option (List Byte)) (s : State) : setRx p a (setRx p b s) = setRx p a s := by
  simp [setRx, State.modPort]

theorem setRx_rx (p : Port) (r : Option (List Byte)) (s : State) : ((setRx p r s).port p).rx = r := by
  simp [setRx]

theorem setRx_self {p : Port} {s : State} {r : Option (List Byte)} (h : (s.port p).rx = r) : setRx p r s = s := by
  subst h
  have hset := Vector.set_getElem_self (xs := s.ports) (i := portIndex p) (portIndex p).isLt
  exact congrArg (fun v => ({ s with ports := v } : State)) hset

/-- The bytes of a frame after its length byte are taken one after another until the last. -/
theorem foldl_rxByte_partial {p : Port} {len : Byte} (bs : List Byte) : ∀ (got : List Byte) (s : State),
    got.length + bs.length + 1 < len.toNat + 3 →
    bs.foldl (rxByte p) (setRx p (some (len :: got)) s) = setRx p (some (len :: got ++ bs)) s := by
  induction bs with
  | nil => intro got s _; rw [List.append_nil]; rfl
  | cons b bs ih =>
    intro got s h
    rw [List.length_cons] at h
    have hb : rxByte p (setRx p (some (len :: got)) s) b = setRx p (some (len :: (got ++ [b]))) s := by
      unfold rxByte
      simp only [setRx_rx, setRx_setRx, List.length_append, List.length_cons, List.length_nil, List.cons_append]
      rw [if_pos (by omega)]
    rw [List.foldl_cons, hb, ih (got ++ [b]) s (by simp; omega)]
    simp

/-- A whole frame at a HUNTING receiver: its last byte ends it. -/
theorem foldl_rxByte_frame {p : Port} {s : State} (h : (s.port p).rx = none) {len last : Byte} {bs : List Byte}
    (h1 : 1 ≤ len.toNat) (h120 : len.toNat ≤ 120) (hlen : bs.length + 1 = len.toNat + 2) :
    (0xA5 :: len :: bs ++ [last]).foldl (rxByte p) s = frameEnds p (len :: bs ++ [last]) s := by
  have hstart : rxByte p s 0xA5 = setRx p (some []) s := by simp [rxByte, h]
  have hcount : rxByte p (setRx p (some []) s) len = setRx p (some [len]) s := by
    simp [rxByte, setRx_rx, setRx_setRx, h1, h120]
  have hlast : rxByte p (setRx p (some (len :: bs)) s) last = frameEnds p (len :: bs ++ [last]) s := by
    unfold rxByte
    simp only [setRx_rx, setRx_setRx, setRx_self h, List.length_append, List.length_cons, List.length_nil]
    rw [if_neg (by omega)]
  have hpartial := foldl_rxByte_partial (p := p) (len := len) bs [] s (by simp; omega)
  rw [List.cons_append, List.cons_append, List.foldl_cons, List.foldl_cons, hstart, hcount, List.foldl_append, hpartial]
  exact hlast

/-- A whole frame of at most 119 body bytes at a HUNTING receiver. -/
theorem foldl_rxByte_whole {p : Port} {s : State} (h : (s.port p).rx = none) (kind hi lo : Byte) {body : List Byte}
    (hb : body.length ≤ 119) :
    (0xA5 :: lowByte (body.length + 1) :: kind :: body ++ [hi, lo]).foldl (rxByte p) s
      = if [hi, lo] = be16 (crc16 (lowByte (body.length + 1) :: kind :: body)).toNat then
          deliver p (decodeFrame p kind body) s else s := by
  have hlen : (lowByte (body.length + 1)).toNat = body.length + 1 := by rw [toNat_lowByte]; omega
  have hframe := foldl_rxByte_frame (p := p) (len := lowByte (body.length + 1)) (last := lo)
    (bs := kind :: body ++ [hi]) h (by omega) (by omega) (by simp; omega)
  have hcrc : crcMatches (body.length + 2) (lowByte (body.length + 1) :: kind :: (body ++ [hi, lo]))
      = decide ([hi, lo] = be16 (crc16 (lowByte (body.length + 1) :: kind :: body)).toNat) := by
    unfold crcMatches
    rw [Bool.eq_iff_iff, beq_iff_eq, decide_eq_true_eq]
    simp [eq_comm]
  rw [show 0xA5 :: lowByte (body.length + 1) :: kind :: body ++ [hi, lo]
    = 0xA5 :: lowByte (body.length + 1) :: (kind :: body ++ [hi]) ++ [lo] by simp, hframe]
  simp only [frameEnds, List.cons_append, List.append_assoc, List.nil_append, hlen, hcrc, decide_eq_true_eq,
    Nat.add_sub_cancel, List.take_left]

/-- Settles O12. -/
theorem receiverEntersAndLeavesAFrame : Obligations.ReceiverEntersAndLeavesAFrame := by
  intro p s hr
  refine ⟨fun kind hi lo body hrx hb hcrc => ?_, fun hrx => ?_, next_whenRunning hr _⟩
  · refine (next_whenRunning hr _).trans ?_
    rw [foldl_rxByte_whole hrx kind hi lo hb, if_neg hcrc]
  · refine (next_whenRunning hr _).trans ?_
    rw [show rxByte p s 0xA5 = setRx p (some []) s by simp [rxByte, hrx]]
    rfl

/-- Settles O11. -/
theorem receivedFrameRunsItsRequest : Obligations.ReceivedFrameRunsItsRequest := by
  intro p r s h hrx
  refine ⟨_, rfl, (exec_requestRow p r s).trans (congrArg Host.Outcome.next ?_)⟩
  have hb : (requestBody r).length ≤ 119 := by
    simp only [Request.wellFormed, Bool.and_eq_true, decide_eq_true_eq] at h
    exact h.2
  have hfold := foldl_rxByte_whole hrx r.kind.code (lowByte
    ((crc16 (lowByte ((requestBody r).length + 1) :: r.kind.code :: requestBody r)).toNat / 256)) (lowByte
    (crc16 (lowByte ((requestBody r).length + 1) :: r.kind.code :: requestBody r)).toNat) hb
  have hdeliver := hfold.trans (if_pos rfl)
  rw [requestBodyDecodesToItsRequest p r h] at hdeliver
  rw [arrive, whenRunning, whenRunning, ← hdeliver]
  rfl

end Sys2Proof.Machine.Laws

/-! SUPPORT. The values that a start-up leaves (O60), and the settings of the signal lines (O41). -/

namespace Sys2Proof.Machine.Laws

open Sys2Proof Sys2Proof.Machine

/-! ### What a response leaves -/

section
variable (s : State) (p : Port) (r : Response)

@[simp] theorem respond_pending : (s.respond p r).pending = s.pending := rfl
@[simp] theorem respond_phase : (s.respond p r).phase = s.phase := rfl
@[simp] theorem respond_cause : (s.respond p r).cause = s.cause := rfl
@[simp] theorem respond_restartReady : (s.respond p r).restartReady = s.restartReady := rfl
@[simp] theorem respond_map : (s.respond p r).map = s.map := rfl
@[simp] theorem respond_cranes : (s.respond p r).cranes = s.cranes := rfl
@[simp] theorem respond_envs : (s.respond p r).envs = s.envs := rfl
@[simp] theorem respond_cells : (s.respond p r).cells = s.cells := rfl
@[simp] theorem respond_outs : (s.respond p r).outs = s.outs := rfl
@[simp] theorem respond_sigs : (s.respond p r).sigs = s.sigs := rfl
@[simp] theorem respond_sources : (s.respond p r).sources = s.sources := rfl
@[simp] theorem respond_wind : (s.respond p r).wind = s.wind := rfl
@[simp] theorem respond_book : (s.respond p r).book = s.book := rfl
@[simp] theorem respond_clock : (s.respond p r).clock = s.clock := rfl
@[simp] theorem respond_holder : (s.respond p r).holder = s.holder := rfl
@[simp] theorem respond_takeKey : (s.respond p r).takeKey = s.takeKey := rfl
@[simp] theorem respond_store : (s.respond p r).store = s.store := rfl
@[simp] theorem respond_crane (k : Crane) : (s.respond p r).crane k = s.crane k := rfl
@[simp] theorem respond_env (k : Crane) : (s.respond p r).env k = s.env k := rfl
@[simp] theorem respond_cell (k : CellNo) : (s.respond p r).cell k = s.cell k := rfl
@[simp] theorem respond_out (k : Crane) : (s.respond p r).out k = s.out k := rfl
@[simp] theorem respond_sig (k : SigLine) : (s.respond p r).sig k = s.sig k := rfl

end

/-! ### A start-up -/

/-- What reads neither touch sets, outputs, signals nor sources is as the load of the state left it. -/
theorem of_started {γ : Type} (g : State → γ) (he : ∀ u c f, g (State.modEnv u c f) = g u)
    (ho : ∀ u c f, g (State.modOut u c f) = g u) (hs : ∀ (u : State) k v, g { u with sources := k, sigs := v } = g u)
    (s : State) : g (startedState s) = g (loadState s) :=
  (hs _ _ _).trans ((foldl_composeQuiet_keeps g ho _).trans (foldl_formTouch_keeps g he _))

/-- What reads no port is the same after the notices of a start-up. -/
theorem of_startUp {γ : Type} (g : State → γ) (hp : ∀ (u : State) v, g { u with ports := v } = g u) (s : State) :
    g (startUp s) = g (startedState s) := by
  rw [startUp_eq]
  exact (foldl_startTx_keeps g (fun _ _ => hp _ _) _ _).trans (of_talks g ((talks_notify _ _ _).trans (talks_notify _ _ _)) hp)

theorem standsParked_iff (d : Duty) : standsParked d = true ↔ d = .parked ∨ d = .outOfService := by
  simp [standsParked]

theorem startedState_crane (s : State) (c : Crane) :
    (startedState s).crane c = craneAt s.cause (mapAt s.cause s.map s.store).active c (s.crane c) := by
  rw [of_started (fun u : State => u.crane c) (fun _ _ _ => rfl) (fun _ _ _ => rfl) fun _ _ _ => rfl]
  simp [loadState, State.crane]

theorem formTouch_env (s : State) (c d : Crane) : (formTouch s c).env d
    = if d = c then { s.env c with touch := (touchSetOf s c).map fun x => (x, closingFor s c x) } else s.env d := by
  unfold formTouch
  rw [env_modEnv]

/-- The touch sets of the cranes in a list, each formed from what no other crane's touch set is part of. -/
theorem foldl_formTouch_env (l : List Crane) (s : State) (d : Crane) :
    (l.foldl formTouch s).env d
      = if d ∈ l then { s.env d with touch := (touchSetOf s d).map fun x => (x, closingFor s d x) } else s.env d := by
  induction l generalizing s with
  | nil => simp
  | cons c l ih =>
    have hreport : ((formTouch s c).env d).reportSet = (s.env d).reportSet := by
      rw [formTouch_env]
      split
      · rename_i h; subst h; rfl
      · rfl
    have hset : touchSetOf (formTouch s c) d = touchSetOf s d := by
      unfold touchSetOf
      rw [hreport]
      rfl
    have hclosing : closingFor (formTouch s c) d = closingFor s d := rfl
    rw [List.foldl_cons, ih, hset, hclosing, formTouch_env]
    by_cases hd : d = c
    · subst hd; simp
    · simp [hd]

/-- The cells of a crane's touch set once it has been formed. -/
theorem touchCells_formed (e : EnvRec) (l : List CellNo) (f : CellNo → Lines) :
    touchCells { e with touch := l.map fun x => (x, f x) } = l := by
  simp [touchCells, Function.comp_def]

theorem applySignals_env (s : State) (c : Crane) : (applySignals s).env c = s.env c := rfl

theorem startedState_env (s : State) (c : Crane) :
    (startedState s).env c = { EnvRec.reset with
      touch := (touchSetOf (loadState s) c).map fun x => (x, closingFor (loadState s) c x) } := by
  have hload : (loadState s).env c = EnvRec.reset := by simp [loadState, State.env]
  unfold startedState
  rw [applySignals_env, foldl_composeQuiet_keeps (fun u : State => u.env c) (fun _ _ _ => rfl), foldl_formTouch_env,
    if_pos (mem_allCranes c), hload]

theorem loadState_crane (s : State) (c : Crane) :
    (loadState s).crane c = craneAt s.cause (mapAt s.cause s.map s.store).active c (s.crane c) := by
  simp [loadState, State.crane]

theorem craneAt_link (k : ResetCause) (m : Option MapBody) (c : Crane) (r : CraneRec) :
    (craneAt k m c r).link = .none := rfl

/-- A link is NONE after a start-up, so that a touch set is the fixed one or holds every member cell (R43, R51). -/
theorem touchSetOf_loaded (s : State) (c : Crane) : touchSetOf (loadState s) c
    = if (loadState s).declared c = false then []
      else if ((loadState s).crane c).duty = .outOfService then oosSet (loadState s).map.active c
      else memberCells (loadState s).map.active c := by
  have hlink : ((loadState s).crane c).link = .none := by rw [loadState_crane, craneAt_link]
  unfold touchSetOf touchLine
  rw [hlink]
  cases (loadState s).declared c with
  | false => rfl
  | true => by_cases hd : ((loadState s).crane c).duty = .outOfService <;> simp [hd]

/-- Every motion line is asserted while the link is not LIVE. -/
theorem unionOf_of_link {s : State} {c : Crane} (h : (s.crane c).link ≠ .live) :
    unionOf (sourceSets s c) = everyMotion := by
  have hlink : linkSet s c = everyMotion := if_neg h
  simp [unionOf, sourceSets, hlink, linesUnion, everyMotion]

/-- What a start-up leaves of a crane's record of the output unit but its sources and lines. -/
theorem startedState_out_kept (s : State) (c : Crane) :
    ((startedState s).out c).src.manual = noMotion ∧ ((startedState s).out c).vane = (s.out c).vane
      ∧ ((startedState s).out c).check = .idle ∧ ((startedState s).out c).withheld = [] := by
  have hload : (allCranes.foldl formTouch (loadState s)).out c = outAt (s.out c) := by
    rw [foldl_formTouch_keeps (fun t : State => t.out c) (fun _ _ _ => rfl), loadState_out]
  unfold startedState
  generalize allCranes.foldl formTouch (loadState s) = u at hload ⊢
  rw [applySignals_out, foldl_composeQuiet_out, if_pos (mem_allCranes c)]
  simp only [sourceSets, hload]
  exact ⟨rfl, rfl, rfl, rfl⟩

/-- A line driven afresh (R94, R95). -/
theorem driveFresh_spec (g : SigCfg) (v : Bool) :
    (driveFresh g v).cfg = g
      ∧ (driveFresh g v).drive = (if g.enabled = false then .undriven
          else if g.mode ≠ .pulse ∧ v = true then .active else .inactive)
      ∧ (driveFresh g v).phase = (if g.enabled = true ∧ g.mode = .flash ∧ v = true then some 500 else none) := by
  obtain ⟨en, src, sense, mode⟩ := g
  cases en <;> cases mode <;> cases v <;> exact ⟨rfl, rfl, rfl⟩

theorem applySignals_sig (s : State) (l : SigLine) : (applySignals s).sig l
    = driveFresh (sigConfigs s.store)[l] (sourceValue (applySignals s).sources (sigConfigs s.store)[l].source) := by
  simp [applySignals, State.sig]

theorem sigConfigs_getElem (k : Store) (l : SigLine) :
    (sigConfigs k)[l] = (k.signals.map fun v => v[l]).getD SigCfg.default := by
  unfold sigConfigs
  cases k.signals with
  | none => simp
  | some v => rfl

theorem startedState_sig (s : State) (l : SigLine) : (startedState s).sig l
    = driveFresh ((s.store.signals.map fun v => v[l]).getD SigCfg.default)
        (sourceValue (startedState s).sources ((s.store.signals.map fun v => v[l]).getD SigCfg.default).source) := by
  have hstore : (allCranes.foldl composeQuiet (allCranes.foldl formTouch (loadState s))).store = storeAt s.cause s.store := by
    rw [foldl_composeQuiet_keeps State.store (fun _ _ _ => rfl), foldl_formTouch_keeps State.store fun _ _ _ => rfl]
    rfl
  unfold startedState
  generalize allCranes.foldl composeQuiet (allCranes.foldl formTouch (loadState s)) = u at hstore ⊢
  rw [applySignals_sig, hstore, sigConfigs_getElem]
  rfl

/-- STARTED alone goes to both supervisor links (R162, R167). -/
theorem startUp_notices (s : State) :
    (∀ x, ((startUp s).port (.s x)).notices = [.started (startedState s).cause (startedState s).store.loads])
      ∧ ∀ c, ((startUp s).port (.c c)).notices = [] := by
  have hfresh : ∀ p, ((startedState s).port p).notices = [] := fun p => by
    unfold State.port
    rw [startedState_ports, freshPorts_port]
    rfl
  have hone : ∀ (u : State) (p : Port) (n : Notice), (u.port p).notices = [] → ((u.notify p n).port p).notices = [n] :=
    fun u p n h => by
      unfold State.notify
      rw [port_modPort_same, queueNotice, h]
      rfl
  have hother : ∀ (u : State) {p q : Port} (n : Notice), q ≠ p → (u.notify p n).port q = u.port q :=
    fun u p q n h => port_modPort_other _ h _
  rw [startUp_eq]
  refine ⟨fun x => ?_, fun c => ?_⟩
  · rw [transmit_port, startTx_notices]
    cases x with
    | s1 => rw [hother _ _ (by decide), hone _ _ _ (hfresh _)]
    | s2 => rw [hone _ _ _ ((congrArg PortRec.notices (hother _ _ (by decide))).trans (hfresh _))]
  · rw [transmit_port, startTx_notices, hother _ _ (by simp), hother _ _ (by simp), hfresh]

/-- Settles O60. -/
theorem startUpLeavesTheTabledValues : Obligations.StartUpLeavesTheTabledValues := by
  intro s hr hw hq
  have row : exec .startUp s = .next (startUp s) :=
    congrArg Host.Outcome.next (if_pos ⟨hr, by simp [storeIdle, hw, hq]⟩)
  have kept : ∀ {γ : Type} (g : State → γ), (∀ u c f, g (State.modEnv u c f) = g u) →
      (∀ u c f, g (State.modOut u c f) = g u) → (∀ (u : State) k v, g { u with sources := k, sigs := v } = g u) →
      (∀ (u : State) v, g { u with ports := v } = g u) → g (startUp s) = g (loadState s) := fun g he ho hs hp =>
    (of_startUp g hp s).trans (of_started g he ho hs s)
  have hmap : (startUp s).map = mapAt s.cause s.map s.store :=
    kept State.map (fun _ _ _ => rfl) (fun _ _ _ => rfl) (fun _ _ _ => rfl) fun _ _ => rfl
  have hcrane : ∀ c, (startUp s).crane c = craneAt s.cause (mapAt s.cause s.map s.store).active c (s.crane c) := fun c =>
    (of_startUp (fun u : State => u.crane c) (fun _ _ => rfl) s).trans (startedState_crane s c)
  have henv : ∀ c, (startUp s).env c = (startedState s).env c := fun c =>
    of_startUp (fun u : State => u.env c) (fun _ _ => rfl) s
  have hout : ∀ c, (startUp s).out c = (startedState s).out c := fun c =>
    of_startUp (fun u : State => u.out c) (fun _ _ => rfl) s
  have hsources : (startUp s).sources = (startedState s).sources := of_startUp State.sources (fun _ _ => rfl) s
  have hsig : ∀ l, (startUp s).sig l = (startedState s).sig l := fun l =>
    of_startUp (fun u : State => u.sig l) (fun _ _ => rfl) s
  have hdeclared : ∀ c, (startUp s).declared c = (loadState s).declared c := fun c =>
    kept (fun u => u.declared c) (fun _ _ _ => rfl) (fun _ _ _ => rfl) (fun _ _ _ => rfl) fun _ _ => rfl
  have hwind : (startUp s).wind = windAt s.cause s.wind (mapAt s.cause s.map s.store).params.parkTimeout :=
    kept State.wind (fun _ _ _ => rfl) (fun _ _ _ => rfl) (fun _ _ _ => rfl) fun _ _ => rfl
  have hstore : (startUp s).store = storeAt s.cause s.store :=
    kept State.store (fun _ _ _ => rfl) (fun _ _ _ => rfl) (fun _ _ _ => rfl) fun _ _ => rfl
  have hloads : (startedState s).store = storeAt s.cause s.store :=
    of_started State.store (fun _ _ _ => rfl) (fun _ _ _ => rfl) (fun _ _ _ => rfl) s
  have hcause : (startedState s).cause = s.cause :=
    of_started State.cause (fun _ _ _ => rfl) (fun _ _ _ => rfl) (fun _ _ _ => rfl) s
  refine ⟨_, row, ?_, ?_, ?_, ?_, ?_, ?_, ?_, ?_, ?_, fun c => ?_, fun c => ?_, fun c => ?_, ?_, fun c => ?_, ?_,
    fun l => ?_, ?_, ?_, fun hpow => ?_, fun hpow hst => ?_, ?_, ?_, ?_, ?_, fun x => ?_, fun c => ?_⟩
  · exact kept State.phase (fun _ _ _ => rfl) (fun _ _ _ => rfl) (fun _ _ _ => rfl) fun _ _ => rfl
  · exact kept State.cause (fun _ _ _ => rfl) (fun _ _ _ => rfl) (fun _ _ _ => rfl) fun _ _ => rfl
  · exact kept State.restartReady (fun _ _ _ => rfl) (fun _ _ _ => rfl) (fun _ _ _ => rfl) fun _ _ => rfl
  · rw [hmap]; rfl
  · rw [hmap]; rfl
  · rw [hmap]; rfl
  · rw [hmap]; rfl
  · rw [hmap]; rfl
  · rw [hmap]; rfl
  · rw [hcrane, hdeclared]
    simp only [craneAt, standsParked_iff]
    rfl
  · rw [henv, startedState_env]
    exact ⟨rfl, rfl, rfl⟩
  · rw [henv, startedState_env, touchCells_formed, touchSetOf_loaded, hdeclared, hcrane, hmap, loadState_crane]
    rfl
  · exact kept State.cells (fun _ _ _ => rfl) (fun _ _ _ => rfl) (fun _ _ _ => rfl) fun _ _ => rfl
  · obtain ⟨hsrc, hlines, hcomposed⟩ := startedState_out s c
    obtain ⟨hmanual, hvane, hcheck, hwithheld⟩ := startedState_out_kept s c
    rw [hout]
    refine ⟨?_, hmanual, hvane, hcomposed, hcheck, hwithheld⟩
    rw [hlines, hsrc, unionOf_of_link]
    rw [startedState_crane, craneAt_link]
    nofun
  · rw [hsources, (unmoved_started s).values]
    exact (applySignals_follows _).1
  · rw [hsig, hsources, startedState_sig]
    obtain ⟨hcfg, hdrive, hphase⟩ := driveFresh_spec ((s.store.signals.map fun v => v[l]).getD SigCfg.default)
      (sourceValue (startedState s).sources ((s.store.signals.map fun v => v[l]).getD SigCfg.default).source)
    rw [hcfg]
    exact ⟨rfl, hdrive, hphase⟩
  · rw [hstore]; rfl
  · exact kept State.meas (fun _ _ _ => rfl) (fun _ _ _ => rfl) (fun _ _ _ => rfl) fun _ _ => rfl
  · rw [hwind, windAt, if_neg]
    rcases hpow with hp | ⟨h1, h2⟩
    · exact fun h => h.1 hp
    · exact fun h => h.2.elim h1 h2
  · rw [hwind, hmap, windAt, if_pos ⟨hpow, hst⟩]
    exact ⟨rfl, rfl, rfl, rfl, rfl, rfl, rfl, rfl⟩
  · exact kept State.book (fun _ _ _ => rfl) (fun _ _ _ => rfl) (fun _ _ _ => rfl) fun _ _ => rfl
  · exact kept State.clock (fun _ _ _ => rfl) (fun _ _ _ => rfl) (fun _ _ _ => rfl) fun _ _ => rfl
  · exact kept State.holder (fun _ _ _ => rfl) (fun _ _ _ => rfl) (fun _ _ _ => rfl) fun _ _ => rfl
  · exact kept State.takeKey (fun _ _ _ => rfl) (fun _ _ _ => rfl) (fun _ _ _ => rfl) fun _ _ => rfl
  · rw [(startUp_notices s).1, hcause, hloads, hstore]
  · exact (startUp_notices s).2 c


/-! ### The configuration of a signal line -/

section
variable (s : State) (l : SigLine) (g : SigCfg)

/-- What reads no port is in a configured line's state as before the notice. -/
theorem of_configured {γ : Type} (f : State → γ) (hp : ∀ (u : State) v, f { u with ports := v } = f u)
    (hk : ∀ u k, f (State.setStore u k) = f u) :
    f (configureLine s l g) = f (s.modSig l fun _ => driveFresh g (sourceValue s.sources g.source)) :=
  (of_talks f (talks_notifyClass _ _ _) hp).trans (hk _ _)

theorem configureLine_sig (k : SigLine) : (configureLine s l g).sig k
    = if k = l then driveFresh g (sourceValue s.sources g.source) else s.sig k := by
  rw [of_configured s l g (fun u : State => u.sig k) (fun _ _ => rfl) fun _ _ => rfl, sig_modSig]

theorem configureLine_store : (configureLine s l g).store
    = beginWrite s.store (.signals (Vector.ofFn fun k => ((configureLine s l g).sig k).cfg)) := by
  have hcfgs : ((s.modSig l fun _ => driveFresh g (sourceValue s.sources g.source)).sigs.map SigRec.cfg)
      = Vector.ofFn fun k => ((configureLine s l g).sig k).cfg := by
    refine Vector.ext fun i hi => ?_
    rw [Vector.getElem_ofFn, of_configured s l g (fun u : State => u.sig ⟨i, hi⟩) (fun _ _ => rfl) fun _ _ => rfl,
      Vector.getElem_map]
    rfl
  rw [← hcfgs]
  exact of_talks State.store (talks_notifyClass _ _ _) fun _ _ => rfl

theorem configureLine_grows : Grows s (configureLine s l g) := by
  have hstart : Grows s (startWrite (s.modSig l fun _ => driveFresh g (sourceValue s.sources g.source))
      (.signals ((s.modSig l fun _ => driveFresh g (sourceValue s.sources g.source)).sigs.map SigRec.cfg))) :=
    (Grows.refl s).ports rfl
  exact notifyClass_grows hstart _ _

end

theorem doSetSignal_refuses {x : Sup} {n : Nat} {raw : RawSignal} {s : State} (hx : x = s.holder)
    (h : lineOf n = none ∨ sigCfgOf raw = none) : doSetSignal x n raw s = s.refuse (.s x) .setSignal .badField := by
  refine (if_neg (by simp [authorized_of_holder hx])).trans ?_
  rcases h with h | h
  · rw [h]
  · rw [h]
    cases lineOf n <;> rfl

theorem doSetSignal_accepts {x : Sup} {l : SigLine} {raw : RawSignal} {g : SigCfg} {s : State} (hx : x = s.holder)
    (hg : sigCfgOf raw = some g) :
    doSetSignal x (l.val + 1) raw s = (configureLine s l g).answer (.s x) .setSignal .nothing := by
  have hl : lineOf (l.val + 1) = some l := dif_pos ⟨by omega, by omega⟩
  refine (if_neg (by simp [authorized_of_holder hx])).trans ?_
  simp only [hl, hg]

/-- Settles O41. -/
theorem setSignalDrivesTheLineAfresh : Obligations.SetSignalDrivesTheLineAfresh := by
  intro x l raw s h hx
  refine ⟨fun hg => ?_, fun n hn => ?_, fun g hg => ?_⟩
  · exact exec_sup_attended h (.setSignal (l.val + 1) raw) (doSetSignal_refuses hx (.inr hg))
  · exact exec_sup_attended h (.setSignal n raw) (doSetSignal_refuses hx (.inl (dif_neg (by omega))))
  · have row := exec_sup_attended h (.setSignal (l.val + 1) raw) (doSetSignal_accepts (l := l) hx hg)
    have kept : ∀ {γ : Type} (f : State → γ), (∀ (u : State) v, f { u with ports := v } = f u) →
        (∀ u k, f (State.setStore u k) = f u) → (∀ u k w, f (State.modSig u k w) = f u) → f (configureLine s l g) = f s :=
      fun f hp hk hm => (of_configured s l g f hp hk).trans (hm _ _ _)
    obtain ⟨hcfg, hdrive, hphase⟩ := driveFresh_spec g (sourceValue s.sources g.source)
    have hsig : (configureLine s l g).sig l = driveFresh g (sourceValue s.sources g.source) :=
      (configureLine_sig s l g l).trans (if_pos rfl)
    have hkept := kept_answered (configureLine_core s l g) (configureLine_grows s l g) (.s x)
      ⟨respKind .setSignal, .ok, none, .nothing⟩
    refine ⟨_, row, responds_transmit (answer_slot _ _ _ _), ?_⟩
    simp only [transmit_sig, respond_sig, hsig, transmit_store, transmit_map, transmit_cells, transmit_cranes, transmit_envs, transmit_outs,
      transmit_wind, transmit_book, transmit_sources, State.answer, respond_store, respond_map, respond_cells,
      respond_cranes, respond_envs, respond_outs, respond_wind, respond_book, respond_sources]
    refine ⟨hcfg, fun k hk => (configureLine_sig s l g k).trans (if_neg hk), fun he => ?_, fun he hm => ?_,
      fun he hm => ?_, ?_, configureLine_store s l g, kept State.map (fun _ _ => rfl) (fun _ _ => rfl) fun _ _ _ => rfl,
      kept State.cells (fun _ _ => rfl) (fun _ _ => rfl) fun _ _ _ => rfl,
      kept State.cranes (fun _ _ => rfl) (fun _ _ => rfl) fun _ _ _ => rfl,
      kept State.envs (fun _ _ => rfl) (fun _ _ => rfl) fun _ _ _ => rfl,
      kept State.outs (fun _ _ => rfl) (fun _ _ => rfl) fun _ _ _ => rfl,
      kept State.wind (fun _ _ => rfl) (fun _ _ => rfl) fun _ _ _ => rfl,
      kept State.book (fun _ _ => rfl) (fun _ _ => rfl) fun _ _ _ => rfl,
      kept State.sources (fun _ _ => rfl) (fun _ _ => rfl) fun _ _ _ => rfl, hkept⟩
    · rw [hdrive, if_pos he]
    · have hne : g.mode ≠ .pulse := by rcases hm with hm | hm <;> simp [hm]
      simp [hdrive, he, hne]
    · simp [hdrive, he, hm]
    · rw [hphase]

end Sys2Proof.Machine.Laws

/-! SUPPORT. What a composition leaves alone and what it tells (R81); the manual inhibits (O40), the timers of the output
unit (O42) and the runs of a channel (O45). -/

namespace Sys2Proof.Machine.Laws

open Sys2Proof Sys2Proof.Machine

/-! ### What a composition leaves alone -/

theorem sansFault_of_sansOutputs {s t : State} (h : t.sansOutputs = s.sansOutputs) (c : Crane) :
    (t.crane c).sansFault = (s.crane c).sansFault := by
  have hcranes : t.sansOutputs.cranes = s.sansOutputs.cranes := by rw [h]
  have hc := congrArg (fun v : Vector CraneRec 8 => v[c]) hcranes
  simpa [State.sansOutputs, State.crane] using hc

theorem keepsCranes_of_sansOutputs {s t : State} (h : t.sansOutputs = s.sansOutputs) (e : Option Crane) :
    keepsCranes e s t := by
  intro c _
  have hc : (t.crane c).report = (s.crane c).report ∧ (t.crane c).clamp = (s.crane c).clamp
      ∧ (t.crane c).link = (s.crane c).link ∧ (t.crane c).since = (s.crane c).since
      ∧ (t.crane c).duty = (s.crane c).duty ∧ (t.crane c).parkSw = (s.crane c).parkSw
      ∧ (t.crane c).vaneFb = (s.crane c).vaneFb ∧ (t.crane c).parkSel = (s.crane c).parkSel
      ∧ (t.crane c).vaneSel = (s.crane c).vaneSel ∧ (t.crane c).lift = (s.crane c).lift
      ∧ (t.crane c).due = (s.crane c).due := by
    simpa [CraneRec.sansFault] using sansFault_of_sansOutputs h c
  obtain ⟨h1, h2, h3, h4, h5, h6, h7, h8, h9, h10, h11⟩ := hc
  exact ⟨h1, h2, h3, h4, h5, h6, h7, h8, h9, fun _ => ⟨h10, h11⟩⟩

@[simp] theorem compose_map (s0 s : State) : (compose s0 s).map = s.map :=
  of_sansOutputs State.map (compose_sansOutputs s0 s) fun _ => rfl

@[simp] theorem compose_envs (s0 s : State) : (compose s0 s).envs = s.envs :=
  of_sansOutputs State.envs (compose_sansOutputs s0 s) fun _ => rfl

@[simp] theorem compose_env (s0 s : State) (c : Crane) : (compose s0 s).env c = s.env c :=
  of_sansOutputs (fun u : State => u.env c) (compose_sansOutputs s0 s) fun _ => rfl

@[simp] theorem compose_book (s0 s : State) : (compose s0 s).book = s.book :=
  of_sansOutputs State.book (compose_sansOutputs s0 s) fun _ => rfl

@[simp] theorem compose_booking (s0 s : State) (n : Nat) : (compose s0 s).booking n = s.booking n :=
  of_sansOutputs (fun u : State => u.booking n) (compose_sansOutputs s0 s) fun _ => rfl

@[simp] theorem compose_store (s0 s : State) : (compose s0 s).store = s.store :=
  of_sansOutputs State.store (compose_sansOutputs s0 s) fun _ => rfl

theorem compose_sig_cfg (s0 s : State) (l : SigLine) : ((compose s0 s).sig l).cfg = (s.sig l).cfg := by
  rw [compose_sig, followed, sourceMoves_cfg]

theorem keepsPlant_compose (s0 s : State) : keepsPlant s (compose s0 s) :=
  ⟨compose_map s0 s, compose_store s0 s, compose_wind s0 s, compose_sig_cfg s0 s⟩

theorem keepsCranes_compose (s0 s : State) (e : Option Crane) : keepsCranes e s (compose s0 s) :=
  keepsCranes_of_sansOutputs (compose_sansOutputs s0 s) e

/-! ### What a composition tells -/

theorem told_composeLines {s : State} {c : Crane} (h : (s.out c).lines ≠ unionOf (sourceSets s c)) :
    told (composeLines s c) (.c c) (.inhibit c (unionOf (sourceSets s c)) (sourceSets s c)) := by
  unfold composeLines
  simp only [if_neg h]
  exact told_notify _ _ _

theorem foldl_composeLines_grows {u s : State} (l : List Crane) (h : Grows u s) : Grows u (l.foldl composeLines s) :=
  foldl_grows composeLines (fun _ c h => composeLines_grows h c) l h

/-- A crane whose lines change is told in its turn: the lines of the cranes before it are no part of its sources. -/
theorem told_foldl_composeLines {l : List Crane} {c : Crane} (hc : c ∈ l) {s : State}
    (h : (s.out c).lines ≠ unionOf (sourceSets s c)) :
    told (l.foldl composeLines s) (.c c) (.inhibit c (unionOf (sourceSets s c)) (sourceSets s c)) := by
  induction l generalizing s with
  | nil => simp at hc
  | cons d l ih =>
    rw [List.foldl_cons]
    by_cases hd : c = d
    · subst hd
      exact told_grows (foldl_composeLines_grows l (Grows.refl _)) (told_composeLines h)
    · have hout : (composeLines s d).out c = s.out c := by rw [composeLines_out, if_neg hd]
      have hsets : sourceSets (composeLines s d) c = sourceSets s c :=
        sourceSets_congr (composeLines_view s d) c (by rw [hout])
      have htold := ih ((List.mem_cons.1 hc).resolve_left hd) (s := composeLines s d) (by rw [hout, hsets]; exact h)
      rwa [hsets] at htold

theorem foldl_composeVane_grows {u s : State} (s0 : State) (l : List Crane) (h : Grows u s) :
    Grows u (l.foldl (composeVane s0) s) := foldl_grows (composeVane s0) (fun _ c h => composeVane_grows s0 h c) l h

/-- INHIBIT goes to each crane whose set of asserted lines a composition changes (R81). -/
theorem inhibitsTold_compose {s u : State} (s0 : State) (h : ∀ c, (u.out c).lines = (s.out c).lines) :
    inhibitsTold s (compose s0 u) := by
  intro c hc
  obtain ⟨hsrc, hlines⟩ := compose_lines s0 u c
  rw [hsrc, hlines]
  rw [hlines, ← h c] at hc
  have hgrows : Grows (allCranes.foldl composeLines u) (compose s0 u) :=
    updateSignals_grows (foldl_composeVane_grows s0 allCranes (Grows.refl _))
  exact told_grows hgrows (told_foldl_composeLines (mem_allCranes c) (Ne.symm hc))

theorem inhibitsTold_grows {s t u : State} (h : inhibitsTold s t) (hg : Grows t u) (ho : ∀ c, u.out c = t.out c) :
    inhibitsTold s u := by
  intro c hc
  rw [ho] at hc ⊢
  exact told_grows hg (h c hc)

theorem respond_grows' (s : State) (p : Port) (r : Response) : Grows s (s.respond p r) := respond_grows (Grows.refl s) p r

/-! ### Manual inhibits -/

/-- The state that a change of a crane's MANUAL set composes. -/
def withManual (s : State) (c : Crane) (m : Lines) : State :=
  s.modOut c fun o => { o with src := { o.src with manual := m } }

section
variable (s : State) (p : Port) (c : Crane) (m : Lines)

theorem placeManual_eq : placeManual s p c m = if (s.out c).src.manual = m then compose s (withManual s c m)
    else (compose s (withManual s c m)).notifyClass .crane (.manualInhibit c m p) := rfl

/-- What neither sees the ports nor is seen by the notice is as the composition left it. -/
theorem of_placeManual {γ : Type} (g : State → γ) (hg : ∀ (u : State) v, g { u with ports := v } = g u) :
    g (placeManual s p c m) = g (compose s (withManual s c m)) := by
  rw [placeManual_eq]
  split
  · rfl
  · exact of_talks g (talks_notifyClass _ _ _) hg

theorem placeManual_grows_compose : Grows (compose s (withManual s c m)) (placeManual s p c m) := by
  rw [placeManual_eq]
  split
  · exact Grows.refl _
  · exact notifyClass_grows (Grows.refl _) _ _

theorem withManual_lines (d : Crane) : ((withManual s c m).out d).lines = (s.out d).lines := by
  unfold withManual
  rw [out_modOut]
  split
  · rename_i h; subst h; rfl
  · rfl

theorem withManual_manual (d : Crane) :
    ((withManual s c m).out d).src.manual = if d = c then m else (s.out d).src.manual := by
  unfold withManual
  rw [out_modOut]
  split <;> rfl

theorem placeManual_out (d : Crane) : ((placeManual s p c m).out d).src.manual
      = (if d = c then m else (s.out d).src.manual)
    ∧ ((placeManual s p c m).out d).lines = unionOf ((placeManual s p c m).out d).src := by
  obtain ⟨hsrc, hlines⟩ := compose_lines s (withManual s c m) d
  rw [of_placeManual s p c m (fun u : State => u.out d) fun _ _ => rfl, hlines, hsrc]
  exact ⟨withManual_manual s c m d, rfl⟩

theorem placeManual_sansOutputs : (placeManual s p c m).sansOutputs = s.sansOutputs := by
  have hcomposed : (compose s (withManual s c m)).sansOutputs = s.sansOutputs := compose_sansOutputs _ _
  rw [placeManual_eq]
  split
  · exact hcomposed
  · exact (sansOutputs_of (notifyClass_sansNotices _ _ _)).trans hcomposed

theorem placeManual_tells (h : m ≠ (s.out c).src.manual) (y : Sup) (hy : (s.port (.s y)).mask.crane = true) :
    told (placeManual s p c m) (.s y) (.manualInhibit c m p) := by
  rw [placeManual_eq, if_neg h.symm]
  refine told_notifyClass _ .crane _ y ?_
  rw [mask_grows (compose_grows s (s := withManual s c m) (Grows.refl s)) (.s y)]
  exact hy

theorem placeManual_grows : Grows s (placeManual s p c m) :=
  (compose_grows s (s := withManual s c m) (Grows.refl s)).trans (placeManual_grows_compose s p c m)

end

section
variable {x : Sup} {s : State} (hx : x = s.holder) (k : ReqKind) (f : Lines → Lines → Lines)
include hx

theorem changeManual_accepts (c : Crane) {m : Lines} (hm : m ≠ noMotion) : changeManual k f x (craneNo c) m s
    = answerInhibit (placeManual s (.s x) c (f (s.out c).src.manual m)) (.s x) k c := by
  refine (if_neg (by simp [authorized_of_holder hx])).trans ?_
  simp only [craneOf_craneNo, if_neg hm]

theorem changeManual_refuses {n : Nat} {m : Lines} (h : craneOf n = none ∨ m = noMotion) :
    changeManual k f x n m s = s.refuse (.s x) k .badField := by
  refine (if_neg (by simp [authorized_of_holder hx])).trans ?_
  rcases h with h | h
  · rw [h]
  · cases craneOf n with
    | none => rfl
    | some c => exact if_pos h

end

/-- Settles O40. -/
theorem manualInhibitsAreSetAndCleared : Obligations.ManualInhibitsAreSetAndCleared := by
  intro x c m s h hx becomes
  have becomesManual : ∀ {i k} (manual : Lines),
      exec i s = .next (answerInhibit (placeManual s (.s x) c manual) (.s x) k c).transmit → becomes i k manual := by
    intro i k manual row
    obtain ⟨hmanual, hlines⟩ := placeManual_out s (.s x) c manual c
    rw [if_pos rfl] at hmanual
    have hsans := placeManual_sansOutputs s (.s x) c manual
    have hgrows := placeManual_grows s (.s x) c manual
    have hsite := kept_answered (placeManual_core s (.s x) c manual) hgrows (.s x) ⟨respKind k, .ok, none,
      .inhibits ((placeManual s (.s x) c manual).out c).src.manual ((placeManual s (.s x) c manual).out c).lines
        ((placeManual s (.s x) c manual).out c).src⟩
    have hafter : Grows (placeManual s (.s x) c manual)
        (answerInhibit (placeManual s (.s x) c manual) (.s x) k c).transmit :=
      (respond_grows' _ _ _).trans (transmit_grows _)
    refine ⟨_, row, ?_⟩
    unfold answerInhibit State.answer at *
    simp only [transmit_out, respond_out, transmit_cells, respond_cells, transmit_envs, respond_envs, transmit_book,
      respond_book]
    refine ⟨hmanual, ?_, hlines, fun e he => ?_, ?_, fun hne y hy => ?_, ?_, ?_, ?_, hsite.1, hsite.2, ?_, ?_⟩
    · rw [hmanual]
      exact responds_transmit (by unfold responds; exact respond_slot _ _ _)
    · rw [(placeManual_out s (.s x) c manual e).1, if_neg he]
    · have hcomposed := inhibitsTold_compose s (withManual_lines s c manual)
      refine inhibitsTold_grows hcomposed ((placeManual_grows_compose s (.s x) c manual).trans hafter) fun d => ?_
      rw [transmit_out, respond_out]
      exact of_placeManual s (.s x) c manual (fun u : State => u.out d) fun _ _ => rfl
    · exact told_grows hafter (placeManual_tells s (.s x) c manual hne y hy)
    · exact of_sansOutputs State.cells hsans fun _ => rfl
    · exact of_sansOutputs State.envs hsans fun _ => rfl
    · exact of_sansOutputs State.book hsans fun _ => rfl
    · unfold keepsPlant
      simp only [transmit_map, respond_map, transmit_store, respond_store, transmit_wind, respond_wind, transmit_sig,
        respond_sig]
      refine ⟨of_sansOutputs State.map hsans fun _ => rfl, of_sansOutputs State.store hsans fun _ => rfl,
        of_sansOutputs State.wind hsans fun _ => rfl, fun l => ?_⟩
      rw [of_placeManual s (.s x) c manual (fun u : State => (u.sig l).cfg) fun _ _ => rfl, compose_sig_cfg]
      rfl
    · unfold keepsCranes
      simp only [transmit_crane, respond_crane]
      exact keepsCranes_of_sansOutputs hsans none
  refine ⟨fun hm => ⟨?_, ?_⟩, fun hm => ⟨?_, ?_⟩, fun n hn => ⟨?_, ?_⟩⟩
  · exact becomesManual _ (exec_sup_attended h (.inhibitSet (craneNo c) m) (changeManual_accepts hx _ _ c hm))
  · exact becomesManual _ (exec_sup_attended h (.inhibitClear (craneNo c) m) (changeManual_accepts hx _ _ c hm))
  · exact exec_sup_attended h (.inhibitSet (craneNo c) m) (changeManual_refuses hx _ _ (.inr hm))
  · exact exec_sup_attended h (.inhibitClear (craneNo c) m) (changeManual_refuses hx _ _ (.inr hm))
  · exact exec_sup_attended h (.inhibitSet n m) (changeManual_refuses hx _ _ (.inl (craneOf_eq_none hn)))
  · exact exec_sup_attended h (.inhibitClear n m) (changeManual_refuses hx _ _ (.inl (craneOf_eq_none hn)))

/-! ### The timers of the output unit -/

/-- The flag is set and the check returns to IDLE. -/
def faultSet (s : State) (c : Crane) : State :=
  (s.modCrane c fun r => { r with vaneFault := true }).modOut c fun o => { o with check := .idle }

theorem faultSet_ports (s : State) (c : Crane) : (faultSet s c).ports = s.ports := rfl

/-- The state that a run-out of the feedback timer composes (R91). -/
def faultRaised (s : State) (c : Crane) (k : VaneFaultKind) : State :=
  (faultSet s c).notifyBoth c .crane (.vaneFault c k (s.out c).vane (fbAsserted s c))

section
variable (s : State) (c : Crane) (k : VaneFaultKind)

theorem faultRaised_out (d : Crane) :
    (faultRaised s c k).out d = if d = c then { s.out c with check := .idle } else s.out d := by
  unfold faultRaised
  rw [notifyBoth_out, faultSet, out_modOut]
  rfl

theorem faultRaised_crane (d : Crane) :
    (faultRaised s c k).crane d = if d = c then { s.crane c with vaneFault := true } else s.crane d := by
  unfold faultRaised
  rw [notifyBoth_crane, faultSet, crane_modOut, crane_modCrane]

theorem faultRaised_sansOutputs : (faultRaised s c k).sansOutputs = s.sansOutputs :=
  (notifyBoth_sansOutputs _ _ _ _).trans
    ((modOut_sansOutputs _ _ _).trans (modCrane_sansOutputs _ _ _ fun _ => rfl))

theorem faultRaised_grows : Grows s (faultRaised s c k) := by
  unfold faultRaised
  exact notifyBoth_grows ((Grows.refl s).ports (faultSet_ports s c)) _ _ _

end

/-- The occasions of R87 are those of what the output unit reads. -/
theorem vaneOccasion_congr {s0 s t : State} (h : t.sansOutputs = s.sansOutputs) (c : Crane) :
    vaneOccasion s0 t c = vaneOccasion s0 s c := by
  have hview : ∀ u : State, vaneOccasion s0 u.sourceView c = vaneOccasion s0 u c := fun u => by
    unfold vaneOccasion
    rw [view_crane_parkSw, view_crane_duty]
    rfl
  rw [← hview t, sourceView_of h, hview s]

/-- No occasion of R87 where what it reads has not moved. -/
theorem vaneOccasion_of_sansOutputs {s t : State} (h : t.sansOutputs = s.sansOutputs) (c : Crane) :
    vaneOccasion s t c = false := (vaneOccasion_congr h c).trans (by simp [vaneOccasion])

/-- A composition of a vane release that stands as its conditions have it moves neither the line nor the check. -/
theorem composeVaneNow_steady {s : State} {c : Crane} (h : (s.out c).vane = vaneLevel s c) (d : Crane) :
    (composeVaneNow s c).crane d = s.crane d ∧ ((composeVaneNow s c).out d).check = (s.out d).check
      ∧ ((composeVaneNow s c).out d).vane = (s.out d).vane := by
  unfold composeVaneNow
  extract_lets held withheld level o a b
  have hlevel : level = o.vane := h.symm
  have hb : b.crane d = s.crane d ∧ b.out d = a.out d := by
    show (if _ then _ else _ : State).crane d = _ ∧ (if _ then _ else _ : State).out d = _
    split <;> simp [a]
  rw [if_pos hlevel, hb.1, hb.2, show a.out d = _ from out_modOut _ _ _ _]
  refine ⟨rfl, ?_, ?_⟩
  · split
    · rename_i hd; subst hd; rfl
    · rfl
  · split
    · rename_i hd; subst hd; exact hlevel
    · rfl

theorem composeVane_steady {s0 s : State} {c : Crane} (ho : vaneOccasion s0 s c = false)
    (h : (s.out c).composed = true → (s.out c).vane = vaneLevel s c) (d : Crane) :
    (composeVane s0 s c).crane d = s.crane d ∧ ((composeVane s0 s c).out d).check = (s.out d).check
      ∧ ((composeVane s0 s c).out d).vane = (s.out d).vane
      ∧ (((composeVane s0 s c).out d).composed = true → (s.out d).composed = true) := by
  unfold composeVane
  cases hc : (s.out c).composed with
  | false =>
    rw [ho]
    exact ⟨rfl, rfl, rfl, id⟩
  | true =>
    obtain ⟨hcrane, hcheck, hvane⟩ := composeVaneNow_steady (h hc) d
    refine ⟨hcrane, hcheck, hvane, fun hd => ?_⟩
    by_cases hdc : d = c
    · rw [hdc, hc]
    · rwa [Bool.true_or, if_pos rfl, (composeVaneNow_out s c d).2.2, if_neg hdc] at hd

/-- Where every vane release follows its conditions and no occasion has come, the composition of the releases moves
no line, no check and no crane. -/
theorem foldl_composeVane_steady {s0 : State} (l : List Crane) {s : State} (hs : ∀ c, vaneOccasion s0 s c = false)
    (h : ∀ c, (s.out c).composed = true → (s.out c).vane = vaneLevel s c) (d : Crane) :
    (l.foldl (composeVane s0) s).crane d = s.crane d
      ∧ ((l.foldl (composeVane s0) s).out d).check = (s.out d).check
      ∧ ((l.foldl (composeVane s0) s).out d).vane = (s.out d).vane := by
  induction l generalizing s with
  | nil => exact ⟨rfl, rfl, rfl⟩
  | cons c l ih =>
    have steady := composeVane_steady (hs c) (h c)
    have hlevel : ∀ e, vaneLevel (composeVane s0 s c) e = vaneLevel s e := vaneLevel_congr (composeVane_view s0 s c)
    obtain ⟨hcrane, hcheck, hvane, -⟩ := steady d
    have hrest := ih (s := composeVane s0 s c)
      (fun e => (vaneOccasion_congr (composeVane_sansOutputs s0 s c) e).trans (hs e)) fun e he => by
      obtain ⟨-, -, hvane, hcomposed⟩ := steady e
      rw [hvane, hlevel]
      exact h e (hcomposed he)
    exact ⟨hrest.1.trans hcrane, hrest.2.1.trans hcheck, hrest.2.2.trans hvane⟩

/-- A composition where every vane release follows its conditions and no occasion has come. -/
theorem compose_steady {s0 s : State} (hs : ∀ c, vaneOccasion s0 s c = false)
    (h : ∀ c, (s.out c).composed = true → (s.out c).vane = vaneLevel s c) (d : Crane) :
    (compose s0 s).crane d = s.crane d ∧ ((compose s0 s).out d).check = (s.out d).check
      ∧ ((compose s0 s).out d).vane = (s.out d).vane := by
  have hpart : ∀ e, ((allCranes.foldl composeLines s).out e) = { s.out e with
      src := sourceSets s e, lines := unionOf (sourceSets s e) } := fun e => by
    rw [foldl_composeLines_out, if_pos (mem_allCranes e)]
  have hlines : (allCranes.foldl composeLines s).sansOutputs = s.sansOutputs :=
    foldl_keeps State.sansOutputs composeLines composeLines_sansOutputs _ _
  have hcranes : (allCranes.foldl composeLines s).crane d = s.crane d :=
    foldl_keeps (fun u : State => u.crane d) composeLines (fun u c => by
      unfold composeLines
      dsimp only
      split
      · rfl
      · rw [notify_crane]; rfl) _ _
  have hsteady := foldl_composeVane_steady (s0 := s0) allCranes (s := allCranes.foldl composeLines s)
    (fun e => (vaneOccasion_congr hlines e).trans (hs e)) (fun e he => by
      rw [hpart] at he ⊢
      rw [vaneLevel, vaneLevel_congr (sourceView_of hlines) e]
      exact h e he) d
  have hsignals : (compose s0 s).crane d = (composeOuts s0 s).crane d :=
    updateSignals_keeps (fun u : State => u.crane d) (fun _ _ _ => rfl) (fun _ _ => rfl) _
  have hout : (compose s0 s).out d = (composeOuts s0 s).out d := updateSignals_out _ _
  rw [hsignals, hout]
  refine ⟨hsteady.1.trans hcranes, hsteady.2.1.trans ?_, hsteady.2.2.trans ?_⟩
  · rw [hpart]
  · rw [hpart]

section
variable {s : State} {c : Crane} (k : VaneFaultKind)

theorem faultRaised_level (d : Crane) : vaneLevel (faultRaised s c k) d = vaneLevel s d :=
  vaneLevel_congr (sourceView_of (faultRaised_sansOutputs s c k)) d

/-- The fault and the ended wait stand after the composition: the vane line has not moved. -/
theorem compose_faultRaised (hr : s.phase = .running) (hv : vaneCurrent s) :
    ((compose s (faultRaised s c k)).crane c).vaneFault = true
      ∧ ((compose s (faultRaised s c k)).out c).check = .idle := by
  have hsteady : ∀ d, ((faultRaised s c k).out d).composed = true →
      ((faultRaised s c k).out d).vane = vaneLevel (faultRaised s c k) d := fun d hd => by
    rw [faultRaised_level]
    rw [faultRaised_out] at hd ⊢
    by_cases hdc : d = c
    · subst hdc
      rw [if_pos rfl] at hd ⊢
      exact hv hr d hd
    · rw [if_neg hdc] at hd ⊢
      exact hv hr d hd
  obtain ⟨hcrane, hcheck, -⟩ := compose_steady (vaneOccasion_of_sansOutputs (faultRaised_sansOutputs s c k)) hsteady c
  rw [hcrane, hcheck, faultRaised_crane, if_pos rfl, faultRaised_out, if_pos rfl]
  exact ⟨rfl, rfl⟩

/-- An enabled line of the source VANE_FAULT when the source becomes true (R94). -/
theorem followed_vaneFault {old new : Sources} {r : SigRec} (he : r.cfg.enabled = true)
    (hs : r.cfg.source = .vaneFault) (hn : new.vaneFault = true) :
    followed old new r = if old.vaneFault = true then r else match r.cfg.mode with
      | .level => { r with drive := .active }
      | .pulse => { r with drive := .active, phase := some 2000 }
      | .flash => { r with drive := .active, phase := some 500 } := by
  obtain ⟨⟨en, src, sense, mode⟩, drive, phase⟩ := r
  obtain rfl : en = true := he
  obtain rfl : src = .vaneFault := hs
  cases ho : old.vaneFault <;> cases mode <;> simp [followed, sourceMoves, sourceValue, ho, hn] <;> rfl

theorem faultRaised_notices (h : (s.port (.c c)).notices.length < 16) :
    Notice.vaneFault c k (s.out c).vane (fbAsserted s c) ∈ ((faultRaised s c k).port (.c c)).notices := by
  unfold faultRaised State.notifyBoth
  refine (notifyClass_grows (Grows.refl _) _ _ (.c c)).1.subset ?_
  unfold State.notify
  have hroom : ((faultSet s c).port (.c c)).notices.length < Config.noticeQueueMax := h
  rw [port_modPort_same, queueNotice, if_pos hroom]
  simp

end

theorem faultRaised_sig (s : State) (c : Crane) (k : VaneFaultKind) (l : SigLine) :
    (faultRaised s c k).sig l = s.sig l :=
  (of_talks (fun u : State => u.sig l) (talks_notifyBoth _ _ _ _) fun _ _ => rfl).trans
    (show (faultSet s c).sig l = s.sig l from rfl)

theorem faultRaised_sources (s : State) (c : Crane) (k : VaneFaultKind) : (faultRaised s c k).sources = s.sources :=
  (of_talks State.sources (talks_notifyBoth _ _ _ _) fun _ _ => rfl).trans
    (show (faultSet s c).sources = s.sources from rfl)

theorem sourcesOf_vaneFault {s : State} {c : Crane} (h : (s.crane c).vaneFault = true) :
    (sourcesOf s).vaneFault = true := List.any_eq_true.2 ⟨c, mem_allCranes c, h⟩

theorem feedbackTimerEnds_of_kind {s : State} {c : Crane} {k : VaneFaultKind}
    (h : faultKind (s.out c).check = some k) : feedbackTimerEnds c s = compose s (faultRaised s c k) := by
  simp only [feedbackTimerEnds, h]
  rfl

/-- Settles O42. -/
theorem feedbackPulseAndFlashTimersRunOut : Obligations.FeedbackPulseAndFlashTimersRunOut := by
  refine ⟨?_, fun l s hr hp => ⟨fun hm => ?_, fun hm => ?_⟩⟩
  · intro c s hr hv raises
    have raised : ∀ k, faultKind (s.out c).check = some k → raises k := fun k hk => by
      obtain ⟨hfault, hcheck⟩ := compose_faultRaised (c := c) k hr hv
      have hsource : (compose s (faultRaised s c k)).sources.vaneFault = true := by
        rw [compose_sources]
        exact sourcesOf_vaneFault hfault
      have hsans : (compose s (faultRaised s c k)).sansOutputs = s.sansOutputs :=
        (compose_sansOutputs _ _).trans (faultRaised_sansOutputs s c k)
      have hgrows := compose_grows s (faultRaised_grows s c k)
      have hkept := kept_event (core_of_sansOutputs hsans) hgrows
      refine ⟨(compose s (faultRaised s c k)).transmit, ?_, ?_⟩
      · refine (next_whenRunning hr _).trans ?_
        rw [feedbackTimerEnds_of_kind hk]
      simp only [transmit_crane, transmit_out, transmit_sources, transmit_sig, transmit_cells, transmit_envs,
        transmit_book]
      refine ⟨hfault, hcheck, hsource, fun h16 => ?_, fun l he hs => ?_, ?_, ?_, ?_, hkept.1, hkept.2, ?_, ?_⟩
      · refine ((compose_grows s (Grows.refl (faultRaised s c k))).trans (transmit_grows _) (.c c)).1.subset ?_
        exact faultRaised_notices k h16
      · rw [compose_sig, faultRaised_sig, faultRaised_sources]
        exact followed_vaneFault he hs hsource
      · exact of_sansOutputs State.cells hsans fun _ => rfl
      · exact of_sansOutputs State.envs hsans fun _ => rfl
      · exact of_sansOutputs State.book hsans fun _ => rfl
      · unfold keepsPlant
        simp only [transmit_map, transmit_store, transmit_wind, transmit_sig]
        refine ⟨of_sansOutputs State.map hsans fun _ => rfl, of_sansOutputs State.store hsans fun _ => rfl,
          of_sansOutputs State.wind hsans fun _ => rfl, fun l => ?_⟩
        rw [compose_sig_cfg, faultRaised_sig]
      · unfold keepsCranes
        simp only [transmit_crane]
        exact keepsCranes_of_sansOutputs hsans none
    exact ⟨fun h => raised _ (by rw [h]; rfl), fun h => raised _ (by rw [h]; rfl)⟩
  · have hstops : pulseStops (s.sig l) = { s.sig l with drive := .inactive, phase := none } := if_pos ⟨hm, hp⟩
    refine (next_whenRunning hr _).trans ?_
    exact congrArg (fun r => Host.Outcome.next ({ s with sigs := s.sigs.set l r } : State).transmit) hstops
  · have hturns : flashTurns (s.sig l)
        = { s.sig l with drive := if (s.sig l).drive = .active then .inactive else .active, phase := some 500 } :=
      if_pos ⟨hm, hp⟩
    refine (next_whenRunning hr _).trans ?_
    exact congrArg (fun r => Host.Outcome.next ({ s with sigs := s.sigs.set l r } : State).transmit) hturns

/-! ### The runs of a channel -/

theorem channel_sampled {m : Meas} (h : m.waiting = none) (ch : Channel) :
    channel (sampled m) ch = channel (gateChannels m) ch := by
  have hwaiting : applyWaiting (gateChannels m) = gateChannels m := by
    unfold applyWaiting
    rw [show (gateChannels m).waiting = none from h]
  have hblock : ∀ n, (formBlock n).a = n.a ∧ (formBlock n).b = n.b := fun n => by
    unfold formBlock
    dsimp only
    split <;> exact ⟨rfl, rfl⟩
  unfold sampled
  rw [hwaiting]
  cases ch
  · exact (hblock _).1
  · exact (hblock _).2

theorem channel_gateChannels (m : Meas) (ch : Channel) : channel (gateChannels m) ch
    = gateChannel (channel m ch) (judges (channel m (if ch = .a then .b else .a))) := by
  cases ch <;> rfl

/-- Settles O45: each run is judged at the sample that ends the gate. -/
theorem channelsFaultAndClearAtTheirRuns : Obligations.ChannelsFaultAndClearAtTheirRuns := by
  intro ch s hr hw k o moves
  have sampleRow : exec .sample s = .next (takeSample s).transmit := next_whenRunning hr _
  have after : channel (takeSample s).transmit.meas ch = gateChannel k (judges o) := by
    rw [transmit_meas, takeSample_meas, channel_sampled hw, channel_gateChannels]
  have moved : ∀ {i occurs new}, exec i s = .next (whenRunning (sampleIf occurs) s) → occurs = true →
      (gateChannel k (judges o)).status = new →
      (gateChannel k (judges o)).highRun = (if k.status = .valid then 0 else k.highRun) →
      (gateChannel k (judges o)).clearRun = 0 → moves i new := by
    intro i occurs new row hoccurs hstatus hhigh hclear
    subst hoccurs
    exact ⟨(takeSample s).transmit, row.trans (next_whenRunning hr _), sampleRow, by rw [after, hstatus],
      by rw [after, hhigh], by rw [after, hclear]⟩
  have becomes : ∀ former new : ChanStatus → Bool, former k.status = true →
      new (gateChannel k (judges o)).status = true → statusMoves s.meas ch former new = true := fun former new h1 h2 => by
    unfold statusMoves
    rw [channel_gateChannels, h1, h2]
    rfl
  refine ⟨fun hs hc hh => ?_, fun hs hc hh hos hoc => ?_, fun hs hc hh => ?_, fun hs hc hh => ?_⟩
  · have hgate : gateChannel k (judges o)
        = { endGate k with status := .faultHigh, highRun := 0, stuckRun := 0, clearRun := 0 } := by
      simp [gateChannel, hs, validRuns, endGate, hc, hh]
    refine moved rfl (becomes _ _ (by simp [hs]) (by simp [hgate])) (by rw [hgate]) (by rw [hgate, if_pos hs]) (by rw [hgate])
  · have hjudges : judges o = true := by simp [judges, hos, speedOf, hoc]
    have hgate : gateChannel k (judges o)
        = { endGate k with status := .faultStuck, highRun := 0, stuckRun := 0, clearRun := 0 } := by
      simp [gateChannel, hs, validRuns, endGate, hc, hh, hjudges]
    refine moved rfl (becomes _ _ (by simp [hs]) (by simp [hgate])) (by rw [hgate]) (by rw [hgate, if_pos hs]) (by rw [hgate])
  · have hgate : gateChannel k (judges o) = { endGate k with status := .valid, clearRun := 0 } := by
      simp [gateChannel, hs, clearRuns, endGate, hc, hh]
    refine moved rfl (becomes _ _ (by simp [hs, isFault]) (by simp [hgate])) (by rw [hgate]) ?_ (by rw [hgate])
    rw [hgate, if_neg (by simp [hs])]
    rfl
  · have hgate : gateChannel k (judges o) = { endGate k with status := .valid, clearRun := 0 } := by
      simp [gateChannel, hs, clearRuns, endGate, hc, hh]
    refine moved rfl (becomes _ _ (by simp [hs, isFault]) (by simp [hgate])) (by rw [hgate]) ?_ (by rw [hgate])
    rw [hgate, if_neg (by simp [hs])]
    rfl

end Sys2Proof.Machine.Laws

/-! SUPPORT. The service of the cells (R62, R68, R76), cell by cell: what head service and the recall test leave of one
record, and that the service of every cell leaves of each what its own service leaves. -/

namespace Sys2Proof.Machine

/-- The kind of grant that a request entry waits for (R68). -/
def requestKind (e : Entry) : GrantKind := if isAutoEntry e then .auto else .entry

/-- The state with a request at the head of a list granted, with its notices (R68, R79). -/
def headGranted (s : State) (x : CellNo) (e : Entry) (rest : List Entry) (why : CellCause) : State :=
  (setGrant (s.modCell x fun k => { k with list := rest }) x ⟨entryCrane e, requestKind e⟩ why).notify
    (.c (entryCrane e)) (.granted (entryCrane e) x (requestKind e))

/-- The recall of a record starts (R76): its conditions hold and it stands IDLE. -/
def recallStarts (k : CellRec) : Prop :=
  ∃ n c u rest g, k.list = .claim n c u :: rest ∧ k.grant = some g ∧ g.holder ≠ c ∧ g.kind ≠ .booked
    ∧ k.recallState = .idle

namespace Laws

/-! ### Reads that the cell table leaves -/

theorem of_sansCells {γ : Type} {s t : State} (g : State → γ) (h : s.sansCells = t.sansCells)
    (hg : ∀ u : State, g u.sansCells = g u) : g s = g t := (hg s).symm.trans ((congrArg g h).trans (hg t))

theorem of_sansBook {γ : Type} {s t : State} (g : State → γ) (h : s.sansBook = t.sansBook)
    (hg : ∀ u : State, g u.sansBook = g u) : g s = g t := (hg s).symm.trans ((congrArg g h).trans (hg t))

section
variable {s t : State}

theorem map_of_sansBook (h : t.sansBook = s.sansBook) : t.map = s.map := of_sansBook State.map h fun _ => rfl
theorem envs_of_sansBook (h : t.sansBook = s.sansBook) : t.envs = s.envs := of_sansBook State.envs h fun _ => rfl
theorem wind_of_sansBook (h : t.sansBook = s.sansBook) : t.wind = s.wind := of_sansBook State.wind h fun _ => rfl
theorem store_of_sansBook (h : t.sansBook = s.sansBook) : t.store = s.store := of_sansBook State.store h fun _ => rfl
theorem cranes_of_sansCells (h : t.sansCells = s.sansCells) : t.cranes = s.cranes :=
  of_sansCells State.cranes h fun _ => rfl

theorem crane_of_sansCells (h : t.sansCells = s.sansCells) (c : Crane) : t.crane c = s.crane c := by
  unfold State.crane; rw [cranes_of_sansCells h]

theorem booking_of_sansCells (h : t.sansCells = s.sansCells) (n : Nat) : t.booking n = s.booking n :=
  booking_congr (book_of_sansCells h) n

theorem windBars_of_wind (h : t.wind = s.wind) : t.windBars = s.windBars := by unfold State.windBars; rw [h]

theorem isDraining_of_map (h : t.map = s.map) (x : CellNo) : t.isDraining x = s.isDraining x := by
  unfold State.isDraining; rw [h]

theorem env_of_envs (h : t.envs = s.envs) (c : Crane) : t.env c = s.env c := by unfold State.env; rw [h]

theorem touches_of_envs (h : t.envs = s.envs) (c : Crane) (x : CellNo) : t.touches c x = s.touches c x := by
  unfold State.touches; rw [env_of_envs h]

theorem othersTouch_of_envs (h : t.envs = s.envs) (c : Crane) (x : CellNo) : t.othersTouch c x = s.othersTouch c x := by
  unfold State.othersTouch
  simp only [touches_of_envs h]

theorem barred_of (hm : t.map = s.map) (hw : t.wind = s.wind) (x : CellNo) : t.barred x = s.barred x := by
  unfold State.barred
  rw [windBars_of_wind hw, isDraining_of_map hm]

theorem holds_of_cell {c : Crane} {x : CellNo} (h : (t.cell x).grant = (s.cell x).grant) : t.holds c x = s.holds c x := by
  unfold State.holds; rw [h]

theorem canGrant_of {x : CellNo} (h : t.sansBook = s.sansBook) (hc : (t.cell x).grant = (s.cell x).grant) (c : Crane) :
    canGrant t x c = canGrant s x c := by
  unfold canGrant
  rw [hc, barred_of (map_of_sansBook h) (wind_of_sansBook h), othersTouch_of_envs (envs_of_sansBook h)]

end

theorem canGrant_iff (s : State) (x : CellNo) (c : Crane) :
    canGrant s x c = true ↔ (s.cell x).grant = none ∧ s.barred x = false ∧ s.othersTouch c x = false := by
  simp [canGrant, and_assoc]

/-! ### Head service -/

section
variable {s : State} {x : CellNo}

theorem serveHead_nil (h : (s.cell x).list = []) : serveHead s x = s := by
  unfold serveHead; rw [h]

theorem serveHead_claim {e : Entry} {rest : List Entry} (h : (s.cell x).list = e :: rest) (he : isRequest e = false) :
    serveHead s x = s := by
  unfold serveHead
  rw [h]
  cases e with
  | claim => rfl
  | entry => cases he
  | auto => cases he

/-- A cell that is not to be granted is left. -/
theorem serveHead_refused (h : ∀ e rest, (s.cell x).list = e :: rest → isRequest e = true → canGrant s x (entryCrane e) = false) :
    serveHead s x = s := by
  cases hl : (s.cell x).list with
  | nil => exact serveHead_nil hl
  | cons e rest =>
    cases he : isRequest e with
    | false => exact serveHead_claim hl he
    | true =>
      unfold serveHead
      rw [hl]
      dsimp only
      split
      · rfl
      · rw [if_neg (by simp [h e rest hl he])]

/-- A request at the head of the list that can be granted is. -/
theorem serveHead_granted {e : Entry} {rest : List Entry} (h : (s.cell x).list = e :: rest) (he : isRequest e = true)
    (hc : canGrant s x (entryCrane e) = true) : ∃ why, serveHead s x = headGranted s x e rest why := by
  unfold serveHead
  rw [h]
  cases e with
  | claim => cases he
  | entry c left => exact ⟨.enter, if_pos hc⟩
  | auto c => exact ⟨.auto, if_pos hc⟩

theorem headGranted_cell (e : Entry) (rest : List Entry) (why : CellCause) :
    (headGranted s x e rest why).cell x
      = { s.cell x with grant := some ⟨entryCrane e, requestKind e⟩, list := rest } := by
  unfold headGranted setGrant
  rw [notify_cell, notifyClass_cell, cell_modCell_same, cell_modCell_same]

theorem headGranted_cell_other {y : CellNo} (hy : y ≠ x) (e : Entry) (rest : List Entry) (why : CellCause) :
    (headGranted s x e rest why).cell y = s.cell y := by
  unfold headGranted setGrant
  rw [notify_cell, notifyClass_cell, cell_modCell_other _ hy, cell_modCell_other _ hy]

theorem told_headGranted (e : Entry) (rest : List Entry) (why : CellCause) :
    told (headGranted s x e rest why) (.c (entryCrane e)) (.granted (entryCrane e) x (requestKind e)) := told_notify _ _ _

theorem headGranted_grows {u : State} (h : Grows u s) (e : Entry) (rest : List Entry) (why : CellCause) :
    Grows u (headGranted s x e rest why) := by
  unfold headGranted
  refine notify_grows (setGrant_grows ?_ x _ why) _ _
  exact h.ports rfl

theorem headGranted_sansCells (e : Entry) (rest : List Entry) (why : CellCause) :
    (headGranted s x e rest why).sansCells = s.sansCells := by
  unfold headGranted
  rw [notify_sansCells, setGrant_sansCells, modCell_sansCells]

theorem serveHead_held {g : Grant} (h : (s.cell x).grant = some g) : serveHead s x = s :=
  serveHead_refused fun _ _ _ _ => by simp [canGrant, h]

/-! ### Recall -/

theorem startRecall_steady (h : ¬recallStarts (s.cell x)) : startRecall s x = s := by
  unfold startRecall
  split
  · rename_i n c u g hh hg
    refine if_neg fun ⟨h1, h2, h3⟩ => h ?_
    obtain ⟨rest, hl⟩ : ∃ rest, (s.cell x).list = .claim n c u :: rest := by
      cases hl : (s.cell x).list with
      | nil => rw [hl] at hh; cases hh
      | cons e rest => rw [hl] at hh; cases hh; exact ⟨rest, rfl⟩
    exact ⟨n, c, u, rest, g, hl, hg, h1, h2, h3⟩
  · rfl

theorem startRecall_free (h : (s.cell x).grant = none) : startRecall s x = s :=
  startRecall_steady fun ⟨_, _, _, _, _, _, hg, _⟩ => by rw [h] at hg; cases hg

theorem startRecall_starts {n : Nat} {c : Crane} {u : Nat} {rest : List Entry} {g : Grant}
    (hl : (s.cell x).list = .claim n c u :: rest) (hg : (s.cell x).grant = some g) (h1 : g.holder ≠ c)
    (h2 : g.kind ≠ .booked) (h3 : (s.cell x).recallState = .idle) :
    startRecall s x = (s.modCell x fun k => { k with recallState := .running (s.map.params.recallLimit * 1000) }).notifyBoth
      g.holder .zone (.recalled x n c) := by
  unfold startRecall
  rw [hl, hg]
  exact if_pos ⟨h1, h2, h3⟩

theorem startRecall_cell_other {y : CellNo} (hy : y ≠ x) : (startRecall s x).cell y = s.cell y := by
  unfold startRecall
  split
  · split
    · rw [notifyBoth_cell, cell_modCell_other _ hy]
    · rfl
  · rfl

/-- The recall test leaves a record but for its recall. -/
theorem startRecall_cell (s : State) (x : CellNo) :
    ∃ r, (startRecall s x).cell x = { s.cell x with recallState := r } := by
  unfold startRecall
  split
  · split
    · exact ⟨_, by rw [notifyBoth_cell, cell_modCell_same]⟩
    · exact ⟨_, rfl⟩
  · exact ⟨_, rfl⟩

theorem startRecall_tested {g : Grant} (hg : (s.cell x).grant = some g) :
    recallTested s (startRecall s x) x g (s.cell x).list (s.cell x).recallState := by
  unfold recallTested
  cases hl : (s.cell x).list with
  | nil => rw [startRecall_steady fun ⟨_, _, _, _, _, h, _⟩ => by rw [hl] at h; cases h]; rfl
  | cons e rest =>
    cases e with
    | claim n c u =>
      show if c ≠ g.holder ∧ g.kind ≠ .booked ∧ (s.cell x).recallState = .idle then _ else _
      split
      · rename_i h
        rw [startRecall_starts hl hg (Ne.symm h.1) h.2.1 h.2.2]
        obtain ⟨t1, t2⟩ := told_notifyBoth (s.modCell x fun k => { k with
          recallState := .running (s.map.params.recallLimit * 1000) }) g.holder .zone (.recalled x n c)
        exact ⟨by rw [notifyBoth_cell, cell_modCell_same], t1, t2⟩
      · rename_i h
        rw [startRecall_steady]
        rintro ⟨n', c', u', rest', g', hl', hg', h1, h2, h3⟩
        obtain rfl : g = g' := Option.some.inj (hg.symm.trans hg')
        rw [hl] at hl'
        cases hl'
        exact h ⟨Ne.symm h1, h2, h3⟩
    | entry c l => rw [startRecall_steady fun ⟨_, _, _, _, _, h, _⟩ => by rw [hl] at h; cases h]; rfl
    | auto c => rw [startRecall_steady fun ⟨_, _, _, _, _, h, _⟩ => by rw [hl] at h; cases h]; rfl

end

/-- A tested recall stays so as told and recorded further on. -/
theorem recallTested_mono {s s' t t' : State} {x : CellNo} {g : Grant} {l : List Entry} {r : Recall}
    (h : recallTested s t x g l r) (hm : s'.map = s.map) (hk : ∀ y, (s'.port (.s y)).mask = (s.port (.s y)).mask)
    (hc : (t'.cell x).recallState = (t.cell x).recallState) (hg : Grows t t') : recallTested s' t' x g l r := by
  unfold recallTested at h ⊢
  cases hl : claimAt l with
  | none => rw [hl] at h; exact hc.trans h
  | some p =>
    obtain ⟨n, d⟩ := p
    rw [hl] at h
    dsimp only at h ⊢
    rw [hm]
    split
    · rename_i hd
      rw [if_pos hd] at h
      exact ⟨hc.trans h.1, told_grows hg h.2.1, fun y hy => told_grows hg (h.2.2 y (hk y ▸ hy))⟩
    · rename_i hd
      rw [if_neg hd] at h
      exact hc.trans h

/-! ### The service of one cell -/

section
variable {s0 s : State} {x : CellNo}

theorem serveHead_cell_other {y : CellNo} (hy : y ≠ x) : (serveHead s x).cell y = s.cell y := by
  unfold serveHead
  split
  · rfl
  · split
    · rfl
    · split
      · rw [notify_cell]
        unfold setGrant
        rw [notifyClass_cell, cell_modCell_other _ hy, cell_modCell_other _ hy]
      · rfl

theorem serveCell_cell_other {y : CellNo} (hy : y ≠ x) : (serveCell s0 s x).cell y = s.cell y := by
  unfold serveCell
  extract_lets s1
  have h1 : s1.cell y = s.cell y := by
    show (if _ then _ else _ : State).cell y = _
    split
    · exact serveHead_cell_other hy
    · rfl
  split
  · exact (startRecall_cell_other hy).trans h1
  · exact h1

theorem serveCell_of_served {u : State} (h : (if serviceDue s0 s x then serveHead s x else s) = u) :
    serveCell s0 s x
      = if headChanged s0 u x || (s0.cell x).grant != (u.cell x).grant then startRecall u x else u := by
  subst h; rfl

/-- A cell with no occasion of service or recall is left. -/
theorem serveCell_steady (hd : serviceDue s0 s x = false) (hg : (s0.cell x).grant = (s.cell x).grant) :
    serveCell s0 s x = s := by
  have hh : headChanged s0 s x = false := by
    cases h : headChanged s0 s x with
    | false => rfl
    | true => simp [serviceDue, h] at hd
  rw [serveCell_of_served (u := s) (if_neg (by simp [hd])), hh, hg]
  simp

/-- A FREE cell at whose head no request can be granted is left. -/
theorem serveCell_refused (hf : (s.cell x).grant = none)
    (h : ∀ e rest, (s.cell x).list = e :: rest → isRequest e = true → canGrant s x (entryCrane e) = false) :
    serveCell s0 s x = s := by
  have hu : (if serviceDue s0 s x then serveHead s x else s) = s := by
    rw [serveHead_refused h]; exact ite_self s
  rw [serveCell_of_served hu, startRecall_free hf]
  exact ite_self s

/-- A request that can be granted is granted on an occasion of service, and the recall is tested. -/
theorem serveCell_granted {e : Entry} {rest : List Entry} (hd : serviceDue s0 s x = true) (h : (s.cell x).list = e :: rest)
    (he : isRequest e = true) (hc : canGrant s x (entryCrane e) = true)
    (h0 : (s0.cell x).grant ≠ some ⟨entryCrane e, requestKind e⟩ ∨ (s0.cell x).list.head? ≠ rest.head?
      ∨ claimAt rest = none) :
    ∃ why, serveCell s0 s x = startRecall (headGranted s x e rest why) x := by
  obtain ⟨why, hw⟩ := serveHead_granted h he hc
  refine ⟨why, ?_⟩
  rw [serveCell_of_served (u := headGranted s x e rest why) (by rw [if_pos hd, hw])]
  have hk := headGranted_cell (s := s) (x := x) e rest why
  by_cases hn : claimAt rest = none
  · rw [startRecall_steady (s := headGranted s x e rest why)]
    · exact ite_self _
    · rintro ⟨n, c, u, r, -, hl, -⟩
      rw [hk] at hl
      obtain rfl : rest = .claim n c u :: r := hl
      cases hn
  · refine if_pos ?_
    rw [headChanged, hk]
    simp only [Bool.or_eq_true, bne_iff_ne]
    exact (h0.imp_right fun h => h.resolve_right hn).symm

/-- Of a HELD cell the recall is tested where the head or the grant has changed. -/
theorem serveCell_held {g : Grant} (hg : (s.cell x).grant = some g) :
    serveCell s0 s x
      = if headChanged s0 s x || (s0.cell x).grant != some g then startRecall s x else s := by
  have hu : (if serviceDue s0 s x then serveHead s x else s) = s := by
    rw [serveHead_held hg]; exact ite_self s
  rw [serveCell_of_served hu, hg]

end

/-! ### The service of every cell -/

theorem foldl_serveCell_other {s0 : State} {x : CellNo} (l : List CellNo) (hx : x ∉ l) (s : State) :
    (l.foldl (serveCell s0) s).cell x = s.cell x := by
  induction l generalizing s with
  | nil => rfl
  | cons y l ih =>
    rw [List.foldl_cons, ih (fun h => hx (List.mem_cons_of_mem y h)), serveCell_cell_other]
    rintro rfl
    exact hx List.mem_cons_self

/-- Each cell is served once, on a state that has changed in other cells and in notices alone. -/
theorem serveCells_at (s0 s : State) (x : CellNo) :
    ∃ v, v.sansCells = s.sansCells ∧ v.cell x = s.cell x ∧ Grows s v
      ∧ (serveCells s0 s).cell x = (serveCell s0 v x).cell x ∧ Grows (serveCell s0 v x) (serveCells s0 s) := by
  obtain ⟨a, b, hab⟩ := List.mem_iff_append.mp (List.mem_finRange x)
  have hnd : (a ++ x :: b).Nodup := hab ▸ List.nodup_finRange 64
  obtain ⟨-, hb, hdis⟩ := List.nodup_append.mp hnd
  have hxa : x ∉ a := fun h => hdis x h x List.mem_cons_self rfl
  refine ⟨a.foldl (serveCell s0) s, ?_, foldl_serveCell_other a hxa s,
    foldl_grows _ (fun _ _ h => serveCell_grows s0 h _) a (Grows.refl s), ?_, ?_⟩
  · exact foldl_keeps State.sansCells (serveCell s0) (fun _ _ => serveCell_sansCells _ _ _) a s
  · unfold serveCells allCells
    rw [hab, List.foldl_append, List.foldl_cons, foldl_serveCell_other b (List.nodup_cons.mp hb).1]
  · unfold serveCells allCells
    rw [hab, List.foldl_append, List.foldl_cons]
    exact foldl_grows _ (fun _ _ h => serveCell_grows s0 h _) b (Grows.refl _)

/-- The occasions of service of a cell are the same where the rest of the site is. -/
theorem serviceDue_congr {s0 s v : State} {x : CellNo} (h : v.sansCells = s.sansCells) (hc : v.cell x = s.cell x) :
    serviceDue s0 v x = serviceDue s0 s x := by
  have hb := sansBook_of h
  have ht : touchLost s0 v x = touchLost s0 s x := by
    unfold touchLost
    simp only [touches_of_envs (envs_of_sansBook hb)]
  unfold serviceDue headChanged
  rw [hc, ht, windBars_of_wind (wind_of_sansBook hb), isDraining_of_map (map_of_sansBook hb)]

/-- A cell with no occasion of service or recall is left. -/
theorem serveCells_steady {s0 s : State} {x : CellNo} (hd : serviceDue s0 s x = false)
    (hg : (s0.cell x).grant = (s.cell x).grant) : (serveCells s0 s).cell x = s.cell x := by
  obtain ⟨v, hv, hc, -, hcell, -⟩ := serveCells_at s0 s x
  rw [hcell, serveCell_steady ((serviceDue_congr hv hc).trans hd) (hc ▸ hg), hc]

/-- A FREE cell at whose head no request can be granted is left. -/
theorem serveCells_refused {s0 s : State} {x : CellNo} (hf : (s.cell x).grant = none)
    (h : ∀ e rest, (s.cell x).list = e :: rest → isRequest e = true → canGrant s x (entryCrane e) = false) :
    (serveCells s0 s).cell x = s.cell x := by
  obtain ⟨v, hv, hc, -, hcell, -⟩ := serveCells_at s0 s x
  rw [hcell, serveCell_refused (hc ▸ hf) fun e rest hl he => ?_, hc]
  rw [canGrant_of (sansBook_of hv) (by rw [hc])]
  exact h e rest (hc ▸ hl) he

/-- A request that can be granted is granted on an occasion of service, and the recall is tested. -/
theorem serveCells_granted {s0 s : State} {x : CellNo} {e : Entry} {rest : List Entry} (hd : serviceDue s0 s x = true)
    (h : (s.cell x).list = e :: rest) (he : isRequest e = true) (hcan : canGrant s x (entryCrane e) = true)
    (h0 : (s0.cell x).grant ≠ some ⟨entryCrane e, requestKind e⟩ ∨ (s0.cell x).list.head? ≠ rest.head?
      ∨ claimAt rest = none) :
    told (serveCells s0 s) (.c (entryCrane e)) (.granted (entryCrane e) x (requestKind e))
      ∧ (∃ r, (serveCells s0 s).cell x
          = { s.cell x with grant := some ⟨entryCrane e, requestKind e⟩, list := rest, recallState := r })
      ∧ recallTested s (serveCells s0 s) x ⟨entryCrane e, requestKind e⟩ rest (s.cell x).recallState := by
  obtain ⟨v, hv, hc, hgv, hcell, hgr⟩ := serveCells_at s0 s x
  obtain ⟨why, hw⟩ := serveCell_granted (s0 := s0) ((serviceDue_congr hv hc).trans hd) (hc ▸ h) he
    ((canGrant_of (sansBook_of hv) (by rw [hc]) _).trans hcan) h0
  rw [hw] at hcell hgr
  have hk := headGranted_cell (s := v) (x := x) e rest why
  obtain ⟨r, hr⟩ := startRecall_cell (headGranted v x e rest why) x
  refine ⟨told_grows hgr (told_grows (startRecall_grows (Grows.refl _) x) (told_headGranted e rest why)), ⟨r, ?_⟩, ?_⟩
  · rw [hcell, hr, hk, hc]
  · have ht := startRecall_tested (s := headGranted v x e rest why) (x := x) (by rw [hk])
    rw [hk, hc] at ht
    have hm : s.map = (headGranted v x e rest why).map :=
      map_of_sansBook (sansBook_of (hv.symm.trans (headGranted_sansCells e rest why).symm))
    have hr : ((serveCells s0 s).cell x).recallState = ((startRecall (headGranted v x e rest why) x).cell x).recallState := by
      rw [hcell]
    refine recallTested_mono ht hm (fun y => ?_) hr hgr
    exact (mask_grows (headGranted_grows hgv e rest why) _).symm

/-- Of a HELD cell the recall is tested where the head or the grant has changed. -/
theorem serveCells_held {s0 s : State} {x : CellNo} {g : Grant} (hg : (s.cell x).grant = some g) :
    (∃ r, (serveCells s0 s).cell x = { s.cell x with recallState := r })
      ∧ (headChanged s0 s x = true ∨ (s0.cell x).grant ≠ some g →
          recallTested s (serveCells s0 s) x g (s.cell x).list (s.cell x).recallState)
      ∧ (headChanged s0 s x = false → (s0.cell x).grant = some g → (serveCells s0 s).cell x = s.cell x) := by
  obtain ⟨v, hv, hc, hgv, hcell, hgr⟩ := serveCells_at s0 s x
  have hh : headChanged s0 v x = headChanged s0 s x := by unfold headChanged; rw [hc]
  have hk := serveCell_held (s0 := s0) (s := v) (x := x) (hc ▸ hg)
  rw [hh] at hk
  by_cases hch : headChanged s0 s x = true ∨ (s0.cell x).grant ≠ some g
  · rw [if_pos (by simpa using hch)] at hk
    rw [hk] at hcell hgr
    obtain ⟨r, hr⟩ := startRecall_cell v x
    refine ⟨⟨r, by rw [hcell, hr, hc]⟩, fun _ => ?_, fun h1 h2 => ?_⟩
    · have ht := startRecall_tested (s := v) (x := x) (hc ▸ hg)
      rw [hc] at ht
      exact recallTested_mono ht (map_of_sansBook (sansBook_of hv.symm)) (fun y => (mask_grows hgv _).symm)
        (by rw [hcell]) hgr
    · exact absurd hch (by simp [h1, h2])
  · rw [if_neg (by simpa using hch)] at hk
    rw [hk, hc] at hcell
    exact ⟨⟨_, hcell⟩, fun h => absurd h hch, fun _ _ => hcell⟩

/-! ### Any cell -/

/-- The service of the cells keeps the grant, or grants a FREE cell to the request at its head; it covers nothing. -/
theorem serveCells_cases (s0 s : State) (x : CellNo) :
    (∃ r, (serveCells s0 s).cell x = { s.cell x with recallState := r })
      ∨ ∃ e rest r, (s.cell x).list = e :: rest ∧ isRequest e = true ∧ canGrant s x (entryCrane e) = true
          ∧ (serveCells s0 s).cell x
            = { s.cell x with grant := some ⟨entryCrane e, requestKind e⟩, list := rest, recallState := r } := by
  obtain ⟨v, hv, hc, -, hcell, -⟩ := serveCells_at s0 s x
  rw [hcell]
  have hstart : ∀ u : State, ∃ r, (if headChanged s0 u x || (s0.cell x).grant != (u.cell x).grant then startRecall u x
      else u).cell x = { u.cell x with recallState := r } := fun u => by
    split
    · exact startRecall_cell u x
    · exact ⟨_, rfl⟩
  by_cases hcan : ∃ e rest, (v.cell x).list = e :: rest ∧ isRequest e = true ∧ canGrant v x (entryCrane e) = true
      ∧ serviceDue s0 v x = true
  · obtain ⟨e, rest, hl, he, hg, hd⟩ := hcan
    obtain ⟨why, hw⟩ := serveHead_granted hl he hg
    obtain ⟨r, hr⟩ := hstart (headGranted v x e rest why)
    refine .inr ⟨e, rest, r, hc ▸ hl, he, (canGrant_of (sansBook_of hv.symm) (by rw [hc]) _).trans hg, ?_⟩
    rw [serveCell_of_served (u := headGranted v x e rest why) (by rw [if_pos hd, hw]), hr, headGranted_cell, hc]
  · have hu : (if serviceDue s0 v x then serveHead v x else v) = v := by
      split
      · rename_i hd
        refine serveHead_refused fun e rest hl he => ?_
        cases hg : canGrant v x (entryCrane e) with
        | false => rfl
        | true => exact absurd ⟨e, rest, hl, he, hg, hd⟩ hcan
      · rfl
    obtain ⟨r, hr⟩ := hstart v
    exact .inl ⟨r, by rw [serveCell_of_served hu, hr, hc]⟩

/-- While the wind bars grants, no cell is granted by service. -/
theorem serveCells_barred {s0 s : State} (h : s.windBars = true) (x : CellNo) :
    ∃ r, (serveCells s0 s).cell x = { s.cell x with recallState := r } := by
  rcases serveCells_cases s0 s x with h1 | ⟨e, _, _, _, _, hc, -⟩
  · exact h1
  · rw [canGrant_windBars hc] at h; cases h

end Laws
end Sys2Proof.Machine

/-! SUPPORT. The admissions of an event (R149 to R151): what one admission leaves, that no two within an event share a
crane or a cell, and that no booking they gave occasion for is left ready. -/

namespace Sys2Proof.Machine

/-- The booking, DUE in `u` with every condition of R149 met, has been admitted in `v` (R151). -/
structure Enters (u v : State) (b : Booking) : Prop where
  known : u.booking b.number = some b
  due : b.state = .due
  ready : canBeAdmitted u b
  booked : v.booking b.number = some { b with state := .admitted }
  crane : v.crane b.crane = { u.crane b.crane with due := none, lift := some b.number }
  cells : ∀ x ∈ b.cells, v.cell x = Laws.admittedCell b.number b.crane (u.cell x)
  told : bookingTold u v b (some .due) (.state .admitted) none (some b.cells)

/-- `v` is `u` with some DUE bookings admitted, and nothing else. -/
structure Admits (u v : State) : Prop where
  rest : v.sansBook = u.sansBook
  grows : Grows u v
  next : v.book.next = u.book.next
  booking : ∀ n, v.booking n = u.booking n ∨ ∃ b, Enters u v b ∧ b.number = n
  crane : ∀ c, v.crane c = u.crane c ∨ ∃ b, Enters u v b ∧ b.crane = c
  cell : ∀ x, v.cell x = u.cell x ∨ ∃ b, Enters u v b ∧ x ∈ b.cells

namespace Laws

/-! ### The conditions of admission -/

theorem cellAdmits_iff (s : State) (b : Booking) (x : CellNo) : cellAdmits s b x = true ↔
    s.isDraining x = false
      ∧ (s.holds b.crane x = true ∨ ((s.cell x).grant = none ∧ s.othersTouch b.crane x = false))
      ∧ ((s.cell x).covered = some b.number ∨ headClaim b.number (s.cell x).list = true) := by
  unfold cellAdmits State.holds
  cases (s.cell x).grant <;> simp [and_assoc]

theorem windAdmits_iff (w : WindState) (k : LoadClass) :
    windAdmits w k = true ↔ w = .calm ∨ (w = .alert ∧ k = .normal) := by
  cases k <;> cases w <;> simp [windAdmits]

theorem admissible_iff (s : State) (b : Booking) : admissible s b = true ↔ canBeAdmitted s b := by
  unfold admissible canBeAdmitted craneReadyFor
  simp only [Bool.and_eq_true, List.all_eq_true, cellAdmits_iff, windAdmits_iff, beq_iff_eq, Option.isNone_iff_eq_none,
    and_assoc]

/-- The conditions of admission are the same where the crane, the listed cells and the rest of the site are. -/
theorem canBeAdmitted_congr {s t : State} {b : Booking} (hr : t.sansBook = s.sansBook)
    (hk : t.crane b.crane = s.crane b.crane) (hc : ∀ x ∈ b.cells, t.cell x = s.cell x) :
    canBeAdmitted t b ↔ canBeAdmitted s b := by
  unfold canBeAdmitted craneReadyFor
  rw [hk, wind_of_sansBook hr]
  refine and_congr Iff.rfl (forall_congr' fun x => forall_congr' fun hx => ?_)
  rw [isDraining_of_map (map_of_sansBook hr), othersTouch_of_envs (envs_of_sansBook hr), hc x hx,
    holds_of_cell (s := s) (t := t) (by rw [hc x hx])]

theorem cellOccasion_congr {s0 s t : State} {x : CellNo} (hm : t.map = s.map) (he : t.envs = s.envs)
    (hc : t.cell x = s.cell x) : cellOccasion s0 t x = cellOccasion s0 s x := by
  unfold cellOccasion headChanged
  simp only [hc, isDraining_of_map hm, touches_of_envs he]

/-- The occasions of admission are the same where the crane, the listed cells and the rest of the site are. -/
theorem admissionDue_congr {s0 s t : State} {b : Booking} (hr : t.sansBook = s.sansBook)
    (hk : t.crane b.crane = s.crane b.crane) (hc : ∀ x ∈ b.cells, t.cell x = s.cell x) :
    admissionDue s0 t b = admissionDue s0 s b := by
  have hcells : b.cells.any (cellOccasion s0 t) = b.cells.any (cellOccasion s0 s) := by
    refine Bool.eq_iff_iff.mpr ?_
    simp only [List.any_eq_true]
    refine exists_congr fun x => and_congr_right fun hx => ?_
    rw [cellOccasion_congr (map_of_sansBook hr) (envs_of_sansBook hr) (hc x hx)]
  unfold admissionDue
  rw [hk, wind_of_sansBook hr, hcells]

/-! ### One admission -/

section
variable {s : State} {b : Booking}

theorem admitBooking_cell (s : State) (b : Booking) (x : CellNo) : (admitBooking s b).cell x
    = if x ∈ b.cells then admittedCell b.number b.crane (s.cell x) else s.cell x := by
  unfold admitBooking
  rw [notifyBooking_cell, foldl_keeps (fun t : State => t.cell x) _ (fun t y => notifyClass_cell _ _ _ _), ← admitCells_cell]
  rfl

theorem admitBooking_crane (s : State) (b : Booking) (c : Crane) : (admitBooking s b).crane c
    = if c = b.crane then { s.crane c with due := none, lift := some b.number } else s.crane c := by
  unfold admitBooking
  rw [notifyBooking_crane, foldl_keeps (fun t : State => t.crane c) _ (fun t y => notifyClass_crane _ _ _ _), crane_modCrane]
  have h : ∀ d, ((b.cells.foldl (admitCell b) s).modBooking b.number fun k => { k with state := .admitted }).crane d
      = s.crane d := fun d => foldl_keeps (fun t : State => t.crane d) (admitCell b) (fun _ _ => rfl) b.cells s
  rw [h, h]
  split
  · rename_i e; rw [e]
  · rfl

theorem admitBooking_book (s : State) (b : Booking) :
    (admitBooking s b).book = (s.modBooking b.number fun k => { k with state := .admitted }).book := by
  have h : (b.cells.foldl (admitCell b) s).book = s.book := foldl_keeps State.book (admitCell b) (fun _ _ => rfl) _ _
  unfold admitBooking
  rw [notifyBooking_book, foldl_keeps State.book _ (fun t y => notifyClass_book _ _ _)]
  show (State.modBooking _ _ _).book = _
  unfold State.modBooking
  rw [h]
  rfl

theorem admitBooking_booking (s : State) (b : Booking) (n : Nat) : (admitBooking s b).booking n
    = if n = b.number then (s.booking b.number).map fun k => { k with state := .admitted } else s.booking n := by
  rw [booking_congr (admitBooking_book s b), booking_modBooking]
  exact fun _ => rfl

theorem admitBooking_told (s : State) (b : Booking) :
    bookingTold s (admitBooking s b) b (some b.state) (.state .admitted) none (some b.cells) := by
  unfold admitBooking
  extract_lets s1 s2 s3 s4
  have hg : Grows s s4 := by
    have h1 : Grows s s1 := foldl_grows (admitCell b) (fun _ _ h => h.ports rfl) b.cells (Grows.refl s)
    exact foldl_grows _ (fun _ _ h => notifyClass_grows h _ _) _ (h1.ports (t := s3) rfl)
  obtain ⟨h1, h2⟩ := told_notifyBooking s4 b (.booking b.number b.crane (some b.state) (.state .admitted) none (some b.cells))
  exact ⟨h1, fun y hy => h2 y (by rwa [mask_grows hg])⟩

end

/-! ### Admissions one after another -/

theorem bookingTold_mono {s s' t t' : State} {b : Booking} {f : Option BookState} {o : BookNow} {q : Option Port}
    {l : Option (List CellNo)} (h : bookingTold s t b f o q l)
    (hk : ∀ y, (s'.port (.s y)).mask = (s.port (.s y)).mask) (hg : Grows t t') : bookingTold s' t' b f o q l :=
  ⟨told_grows hg h.1, fun y hy => told_grows hg (h.2 y (hk y ▸ hy))⟩

theorem Admits_refl (u : State) : Admits u u :=
  ⟨rfl, Grows.refl u, rfl, fun _ => .inl rfl, fun _ => .inl rfl, fun _ => .inl rfl⟩

section
variable {u v : State}

/-- A crane that a booking has entered with has a lift. -/
theorem Enters_lift {b : Booking} (h : Enters u v b) : (v.crane b.crane).lift = some b.number := by rw [h.crane]

theorem Enters_grant {b : Booking} (h : Enters u v b) {x : CellNo} (hx : x ∈ b.cells) :
    (v.cell x).grant = some ⟨b.crane, .booked⟩ := by rw [h.cells x hx]; rfl

/-- A cell that has been admitted on admits no booking of the same event. -/
theorem cell_unentered (h : Admits u v) {b : Booking} (hb : canBeAdmitted v b) {x : CellNo} (hx : x ∈ b.cells) :
    v.cell x = u.cell x := by
  rcases h.cell x with e | ⟨d, hd, hdx⟩
  · exact e
  · have hg := Enters_grant hd hdx
    obtain ⟨-, hx2, -⟩ := hb.2 x hx
    have hdc : d.crane = b.crane := by
      rcases hx2 with hh | ⟨hn, -⟩
      · simpa [State.holds, hg] using hh
      · rw [hg] at hn; cases hn
    have := hb.1.2.2.1
    rw [← hdc, Enters_lift hd] at this
    cases this

theorem crane_unentered (h : Admits u v) {b : Booking} (hb : canBeAdmitted v b) : v.crane b.crane = u.crane b.crane := by
  rcases h.crane b.crane with e | ⟨d, hd, hdc⟩
  · exact e
  · have := hb.1.2.2.1
    rw [← hdc, Enters_lift hd] at this
    cases this

/-- A booking that is still DUE has been left. -/
theorem booking_unentered (h : Admits u v) {n : Nat} {b : Booking} (hb : v.booking n = some b) (hd : b.state = .due) :
    u.booking n = some b := by
  rcases h.booking n with e | ⟨d, hd', rfl⟩
  · exact e ▸ hb
  · rw [hd'.booked] at hb
    cases hb
    cases hd

theorem Admits_admit (h : Admits u v) {b : Booking} (hb : v.booking b.number = some b) (hd : b.state = .due)
    (hc : canBeAdmitted v b) : Admits u (admitBooking v b) := by
  have hub := booking_unentered h hb hd
  have hcell : ∀ x ∈ b.cells, v.cell x = u.cell x := fun x hx => cell_unentered h hc hx
  have hcrane := crane_unentered h hc
  have hgr : Grows v (admitBooking v b) := admit_grows (Grows.refl v) b
  have hnew : Enters u (admitBooking v b) b := {
    known := hub
    due := hd
    ready := (canBeAdmitted_congr h.rest hcrane hcell).mp hc
    booked := by rw [admitBooking_booking, if_pos rfl, hb]; rfl
    crane := by rw [admitBooking_crane, if_pos rfl, hcrane]
    cells := fun x hx => by rw [admitBooking_cell, if_pos hx, hcell x hx]
    told := by
      have ht := admitBooking_told v b
      rw [hd] at ht
      exact bookingTold_mono ht (fun y => (mask_grows h.grows _).symm) (Grows.refl _) }
  have hold : ∀ d, Enters u v d → Enters u (admitBooking v b) d := fun d hd' => by
    have hne : d.crane ≠ b.crane := fun e => by
      have := hc.1.2.2.1
      rw [← e, Enters_lift hd'] at this
      cases this
    have hnum : d.number ≠ b.number := fun e => by
      have := hd'.booked
      rw [e, hb] at this
      rw [Option.some.inj this] at hd
      cases hd
    refine ⟨hd'.known, hd'.due, hd'.ready, ?_, ?_, fun x hx => ?_, ?_⟩
    · rw [admitBooking_booking, if_neg hnum]; exact hd'.booked
    · rw [admitBooking_crane, if_neg hne]; exact hd'.crane
    · rw [admitBooking_cell, if_neg]
      · exact hd'.cells x hx
      · intro hx'
        have hg := Enters_grant hd' hx
        rcases (hc.2 x hx').2.1 with hh | ⟨hn, -⟩
        · exact hne (by simpa [State.holds, hg] using hh)
        · rw [hg] at hn; cases hn
    · exact bookingTold_mono hd'.told (fun _ => rfl) hgr
  refine ⟨(admit_sansBook v b).trans h.rest, h.grows.trans hgr, ?_, fun n => ?_, fun c => ?_, fun x => ?_⟩
  · rw [admitBooking_book]; exact h.next
  · by_cases e : n = b.number
    · exact .inr ⟨b, hnew, e.symm⟩
    · rcases h.booking n with k | ⟨d, k, hn⟩
      · exact .inl (by rw [admitBooking_booking, if_neg e]; exact k)
      · exact .inr ⟨d, hold d k, hn⟩
  · by_cases e : c = b.crane
    · exact .inr ⟨b, hnew, e.symm⟩
    · rcases h.crane c with k | ⟨d, k, hn⟩
      · exact .inl (by rw [admitBooking_crane, if_neg e]; exact k)
      · exact .inr ⟨d, hold d k, hn⟩
  · by_cases e : x ∈ b.cells
    · exact .inr ⟨b, hnew, e⟩
    · rcases h.cell x with k | ⟨d, k, hn⟩
      · exact .inl (by rw [admitBooking_cell, if_neg e]; exact k)
      · exact .inr ⟨d, hold d k, hn⟩

theorem Admits_test (s0 : State) (h : Admits u v) (n : Nat) : Admits u (testAdmission s0 v n) := by
  unfold testAdmission
  split
  · rename_i b hb
    split
    · rename_i hc
      exact Admits_admit h (booking_self hb) hc.1 ((admissible_iff _ _).mp hc.2.2)
    · exact h
  · exact h

theorem Admits_foldl (s0 : State) (l : List Nat) (h : Admits u v) : Admits u (l.foldl (testAdmission s0) v) := by
  induction l generalizing v with
  | nil => exact h
  | cons n l ih => exact ih (Admits_test s0 h n)

end

/-- The admissions of an event let bookings in and do nothing else. -/
theorem admits_admissions (s0 u : State) : Admits u (admissions s0 u) := Admits_foldl s0 _ (Admits_refl u)

theorem testAdmission_enters {s0 v : State} {n : Nat} {b : Booking} (hb : v.booking n = some b) (hd : b.state = .due)
    (ho : admissionDue s0 v b = true) (hc : canBeAdmitted v b) : testAdmission s0 v n = admitBooking v b := by
  unfold testAdmission
  rw [hb]
  exact if_pos ⟨hd, ho, (admissible_iff _ _).mpr hc⟩

theorem mem_bookingsWhere {s : State} {p : Booking → Bool} {n : Nat} {b : Booking} (hb : s.booking n = some b)
    (hp : p b = true) : n ∈ bookingsWhere s p :=
  List.mem_map.mpr ⟨b, List.mem_filter.mpr ⟨booking_mem hb, hp⟩, booking_number hb⟩

/-- No booking that the event gave occasion for is left ready (R150). -/
theorem admissions_exhaust {s0 u : State} {n : Nat} {b : Booking} (hb : (admissions s0 u).booking n = some b)
    (hd : b.state = .due) (ho : admissionDue s0 u b = true) : ¬canBeAdmitted (admissions s0 u) b := by
  intro hc
  have hub := booking_unentered (admits_admissions s0 u) hb hd
  obtain ⟨l1, l2, hl⟩ := List.mem_iff_append.mp
    (mem_bookingsWhere (p := fun b => b.state == .due) hub (by simp [hd]))
  have hsplit : admissions s0 u = (n :: l2).foldl (testAdmission s0) (l1.foldl (testAdmission s0) u) := by
    rw [admissions, hl, List.foldl_append]
  generalize hv : l1.foldl (testAdmission s0) u = v at hsplit
  have huv : Admits u v := hv ▸ Admits_foldl s0 l1 (Admits_refl u)
  have hvt : Admits v (admissions s0 u) := hsplit ▸ Admits_foldl s0 _ (Admits_refl v)
  have hvb := booking_unentered hvt hb hd
  have hk := crane_unentered hvt hc
  have hcells : ∀ x ∈ b.cells, (admissions s0 u).cell x = v.cell x := fun x hx => cell_unentered hvt hc hx
  have hcv : canBeAdmitted v b := (canBeAdmitted_congr hvt.rest hk hcells).mp hc
  have hov : admissionDue s0 v b = true := (admissionDue_congr huv.rest (crane_unentered huv hcv)
    fun x hx => cell_unentered huv hcv hx).trans ho
  rw [hsplit, List.foldl_cons, testAdmission_enters hvb hd hov hcv] at hb
  have hafter := Admits_foldl s0 l2 (Admits_refl (admitBooking v b))
  have := booking_unentered hafter hb hd
  rw [admitBooking_booking, if_pos (booking_number hvb).symm, booking_self hvb] at this
  rw [← Option.some.inj this] at hd
  cases hd

/-- A ready booking that the event gave occasion for is admitted, where no other DUE booking names its crane or one of
its cells. -/
theorem admissions_admit {s0 u : State} {b : Booking} (hb : u.booking b.number = some b) (hd : b.state = .due)
    (ho : admissionDue s0 u b = true) (hc : canBeAdmitted u b)
    (hothers : ∀ d, u.booking d.number = some d → d.state = .due → d.number ≠ b.number →
      d.crane ≠ b.crane ∧ ∀ x ∈ b.cells, x ∉ d.cells) : Enters u (admissions s0 u) b := by
  have ha := admits_admissions s0 u
  have hsame : ∀ d, Enters u (admissions s0 u) d → d.number = b.number → d = b := fun d hd' e =>
    Option.some.inj (hd'.known.symm.trans (e ▸ hb))
  rcases ha.booking b.number with e | ⟨d, hd', hn⟩
  · have hnone : ∀ d, Enters u (admissions s0 u) d → d.number ≠ b.number := fun d hd' hn => by
      obtain rfl := hsame d hd' hn
      rw [hd'.booked, hb] at e
      have hs := congrArg Booking.state (Option.some.inj e)
      rw [hd] at hs
      cases hs
    refine absurd ((canBeAdmitted_congr ha.rest ?_ fun x hx => ?_).mpr hc) (admissions_exhaust (e.trans hb) hd ho)
    · rcases ha.crane b.crane with k | ⟨d, hd', hk⟩
      · exact k
      · exact absurd hk (hothers d hd'.known hd'.due (hnone d hd')).1
    · rcases ha.cell x with k | ⟨d, hd', hk⟩
      · exact k
      · exact absurd hk ((hothers d hd'.known hd'.due (hnone d hd')).2 x hx)
  · exact hsame d hd' hn ▸ hd'

/-- Without a crane's or a cell's DUE booking, no admission changes it. -/
theorem Admits_crane {u v : State} (h : Admits u v) {c : Crane} (hc : ¬dueForCrane u c) : v.crane c = u.crane c := by
  rcases h.crane c with e | ⟨b, hb, hk⟩
  · exact e
  · exact absurd ⟨b, booking_mem hb.known, hb.due, hk⟩ hc

theorem Admits_cell {u v : State} (h : Admits u v) {x : CellNo} (hc : ¬dueForCell u x) : v.cell x = u.cell x := by
  rcases h.cell x with e | ⟨b, hb, hk⟩
  · exact e
  · exact absurd ⟨b, booking_mem hb.known, hb.due, hk⟩ hc

theorem Admits_booking {u v : State} (h : Admits u v) {n : Nat} {b : Booking} (hb : u.booking n = some b)
    (hd : b.state ≠ .due) : v.booking n = some b := by
  rcases h.booking n with e | ⟨d, hd', rfl⟩
  · exact e.trans hb
  · obtain rfl := Option.some.inj (hd'.known.symm.trans hb)
    exact absurd hd'.due hd

/-- While the wind bars grants, no booking is admitted. -/
theorem admissions_barred {s0 u : State} (h : u.windBars = true) : admissions s0 u = u := by
  unfold admissions
  generalize bookingsWhere u _ = l
  induction l with
  | nil => rfl
  | cons n l ih =>
    have hn : testAdmission s0 u n = u := by
      unfold testAdmission
      split
      · refine if_neg fun hc => ?_
        rw [windBars_of_admissible hc.2.2] at h
        cases h
      · rfl
    rw [List.foldl_cons, hn]
    exact ih

/-- Without occasion no booking is admitted. -/
theorem admissions_steady {s0 u : State}
    (h : ∀ n b, u.booking n = some b → b.state = .due → admissionDue s0 u b = false) :
    admissions s0 u = u := by
  unfold admissions
  generalize bookingsWhere u _ = l
  induction l with
  | nil => rfl
  | cons n l ih =>
    have hn : testAdmission s0 u n = u := by
      unfold testAdmission
      split
      · rename_i b hb
        exact if_neg fun hc => absurd (h n b hb hc.1) (by simp [hc.2.1])
      · rfl
    rw [List.foldl_cons, hn]
    exact ih

end Laws
end Sys2Proof.Machine

/-! SUPPORT. What the service of an event leaves (R79, R150), a pending commit apart: the cells served and the bookings
admitted. When the drain retest (R17) has no occasion. -/

namespace Sys2Proof.Machine

/-- The cells that an event has changed are served, and the bookings it gave occasion for admitted. -/
def eventServed (s0 u : State) : State := admissions s0 (serveCells s0 u)

/-- `t` is `s` with the output unit's and the ports' part of an event done: the rest is the same, and what was told
stays told. -/
structure Follows (s t : State) : Prop where
  cells : t.cells = s.cells
  book : t.book = s.book
  envs : t.envs = s.envs
  map : t.map = s.map
  wind : t.wind = s.wind
  store : t.store = s.store
  crane : ∀ c, (t.crane c).sansFault = (s.crane c).sansFault
  cfg : ∀ l, (t.sig l).cfg = (s.sig l).cfg
  grows : Grows s t

namespace Laws

/-! ### Following states -/

theorem Follows_refl (s : State) : Follows s s := ⟨rfl, rfl, rfl, rfl, rfl, rfl, fun _ => rfl, fun _ => rfl, Grows.refl s⟩

theorem Follows_trans {s t u : State} (h : Follows s t) (k : Follows t u) : Follows s u :=
  ⟨k.cells.trans h.cells, k.book.trans h.book, k.envs.trans h.envs, k.map.trans h.map, k.wind.trans h.wind,
    k.store.trans h.store, fun c => (k.crane c).trans (h.crane c),
    fun l => (k.cfg l).trans (h.cfg l), h.grows.trans k.grows⟩

theorem Follows_compose (s0 s : State) : Follows s (compose s0 s) :=
  ⟨compose_cells s0 s, compose_book s0 s, compose_envs s0 s, compose_map s0 s, compose_wind s0 s, compose_store s0 s,
    sansFault_of_sansOutputs (compose_sansOutputs s0 s), compose_sig_cfg s0 s, compose_grows s0 (Grows.refl s)⟩

theorem Follows_respond (s : State) (p : Port) (r : Response) : Follows s (s.respond p r) :=
  ⟨rfl, rfl, rfl, rfl, rfl, rfl, fun _ => rfl, fun _ => rfl, respond_grows' s p r⟩

theorem Follows_transmit (s : State) : Follows s s.transmit :=
  ⟨transmit_cells s, transmit_book s, transmit_envs s, transmit_map s, transmit_wind s, transmit_store s,
    fun c => by rw [transmit_crane], fun l => by rw [transmit_sig], transmit_grows s⟩

theorem Follows_of_talks {s t : State} (h : Talks s t) (hg : Grows s t) : Follows s t :=
  ⟨of_talks State.cells h fun _ _ => rfl, of_talks State.book h fun _ _ => rfl, of_talks State.envs h fun _ _ => rfl,
    of_talks State.map h fun _ _ => rfl, of_talks State.wind h fun _ _ => rfl, of_talks State.store h fun _ _ => rfl,
    fun c => of_talks (fun u : State => (u.crane c).sansFault) h fun _ _ => rfl,
    fun l => of_talks (fun u : State => (u.sig l).cfg) h fun _ _ => rfl, hg⟩

theorem eq_of_sansFault {j k : CraneRec} (h : j.sansFault = k.sansFault) :
    j.link = k.link ∧ j.duty = k.duty ∧ j.lift = k.lift ∧ j.due = k.due := by
  simp only [CraneRec.sansFault, CraneRec.mk.injEq] at h
  tauto

section
variable {s t : State}

theorem Follows_cell (h : Follows s t) (x : CellNo) : t.cell x = s.cell x := by unfold State.cell; rw [h.cells]

theorem Follows_booking (h : Follows s t) (n : Nat) : t.booking n = s.booking n := booking_congr h.book n

theorem Follows_env (h : Follows s t) (c : Crane) : t.env c = s.env c := env_of_envs h.envs c

theorem Follows_holds (h : Follows s t) (c : Crane) (x : CellNo) : t.holds c x = s.holds c x :=
  holds_of_cell (by rw [Follows_cell h])

theorem Follows_lift (h : Follows s t) (c : Crane) : (t.crane c).lift = (s.crane c).lift :=
  (eq_of_sansFault (h.crane c)).2.2.1

theorem Follows_due (h : Follows s t) (c : Crane) : (t.crane c).due = (s.crane c).due :=
  (eq_of_sansFault (h.crane c)).2.2.2

theorem Follows_canBeAdmitted (h : Follows s t) (b : Booking) : canBeAdmitted t b ↔ canBeAdmitted s b := by
  obtain ⟨hlink, hduty, -, -⟩ := eq_of_sansFault (h.crane b.crane)
  unfold canBeAdmitted craneReadyFor
  rw [hlink, hduty, Follows_lift h, h.wind]
  refine and_congr Iff.rfl (forall_congr' fun x => forall_congr' fun _ => ?_)
  rw [isDraining_of_map h.map, othersTouch_of_envs h.envs, Follows_cell h, Follows_holds h]

end

/-! ### What is left alone -/

theorem keepsCranes_of {s t t' : State} {e : Option Crane} (hf : Follows t t')
    (h : ∀ c, some c ≠ e → (t.crane c).sansLift = (s.crane c).sansLift ∧ (¬dueForCrane s c → t.crane c = s.crane c)) :
    keepsCranes e s t' := by
  intro c hc
  obtain ⟨h1, h2⟩ := h c hc
  have hk : (t'.crane c).sansFault.sansLift = (s.crane c).sansFault.sansLift := by
    rw [hf.crane c]
    exact congrArg CraneRec.sansFault h1
  have hlifts : ¬dueForCrane s c → (t'.crane c).lift = (s.crane c).lift ∧ (t'.crane c).due = (s.crane c).due := fun hd => by
    rw [Follows_lift hf, Follows_due hf, h2 hd]
    exact ⟨rfl, rfl⟩
  simp only [CraneRec.sansFault, CraneRec.sansLift, CraneRec.mk.injEq] at hk
  tauto

/-! ### The service of an event -/

section
variable (s0 u : State)

theorem served_sansBook : (eventServed s0 u).sansBook = u.sansBook :=
  (admissions_sansBook _ _).trans (serveCells_sansBook _ _)

theorem served_core : (eventServed s0 u).core = u.core := core_of_sansBook (served_sansBook s0 u)

theorem served_grows : Grows u (eventServed s0 u) := admissions_grows s0 (serveCells_grows s0 (Grows.refl u))

theorem serveCells_booking (n : Nat) : (serveCells s0 u).booking n = u.booking n :=
  booking_of_sansCells (serveCells_sansCells s0 u) n

theorem serveCells_book : (serveCells s0 u).book = u.book := book_of_sansCells (serveCells_sansCells s0 u)

theorem serveCells_crane (c : Crane) : (serveCells s0 u).crane c = u.crane c :=
  crane_of_sansCells (serveCells_sansCells s0 u) c

theorem admits_served : Admits (serveCells s0 u) (eventServed s0 u) := admits_admissions s0 _

theorem served_next : (eventServed s0 u).book.next = u.book.next :=
  (admits_served s0 u).next.trans (by rw [serveCells_book])

theorem served_sansLift (c : Crane) : ((eventServed s0 u).crane c).sansLift = (u.crane c).sansLift := by
  have h := of_sansBook (fun v : State => v.crane c) (served_sansBook s0 u)
  have hk : ∀ v : State, (v.sansBook.crane c) = (v.crane c).sansLift := fun v => by
    show ((v.cranes.map CraneRec.sansLift)[c] : CraneRec) = _
    rw [Fin.getElem_fin, Vector.getElem_map]
    rfl
  rw [← hk, ← hk, served_sansBook]

variable {s0 u}

theorem dueForCrane_congr {s t : State} (h : t.book = s.book) (c : Crane) : dueForCrane t c ↔ dueForCrane s c := by
  unfold dueForCrane; rw [h]

theorem dueForCell_congr {s t : State} (h : t.book = s.book) (x : CellNo) : dueForCell t x ↔ dueForCell s x := by
  unfold dueForCell; rw [h]

theorem served_crane {c : Crane} (h : ¬dueForCrane u c) : (eventServed s0 u).crane c = u.crane c :=
  (Admits_crane (admits_served s0 u) (by rwa [dueForCrane_congr (serveCells_book s0 u)])).trans (serveCells_crane s0 u c)

theorem served_cell {x : CellNo} (h : ¬dueForCell u x) : (eventServed s0 u).cell x = (serveCells s0 u).cell x :=
  Admits_cell (admits_served s0 u) (by rwa [dueForCell_congr (serveCells_book s0 u)])

theorem served_booking {n : Nat} {b : Booking} (h : u.booking n = some b) (hb : b.state ≠ .due) :
    (eventServed s0 u).booking n = some b :=
  Admits_booking (admits_served s0 u) ((serveCells_booking s0 u n).trans h) hb

/-- A booking is as it was, or DUE and now ADMITTED. -/
theorem served_booking_cases (s0 u : State) (n : Nat) :
    (eventServed s0 u).booking n = u.booking n
      ∨ ∃ b, u.booking n = some b ∧ b.state = .due ∧ (eventServed s0 u).booking n = some { b with state := .admitted } := by
  rcases (admits_served s0 u).booking n with h | ⟨b, hb, rfl⟩
  · exact .inl (h.trans (serveCells_booking s0 u n))
  · exact .inr ⟨b, serveCells_booking s0 u b.number ▸ hb.known, hb.due, hb.booked⟩

/-- A HELD cell keeps its holder (R59). -/
theorem served_holders {x : CellNo} {g : Grant} (h : (u.cell x).grant = some g) : stillHeld (eventServed s0 u) x g := by
  have hg : ((serveCells s0 u).cell x).grant = some g := by
    obtain ⟨⟨r, hr⟩, -⟩ := serveCells_held (s0 := s0) h
    rw [hr]
    exact h
  rcases (admits_served s0 u).cell x with e | ⟨b, hb, hx⟩
  · exact ⟨g.kind, by rw [e, hg], .inl rfl⟩
  · have hholder : g.holder = b.crane := by
      rcases (hb.ready.2 x hx).2.1 with hh | ⟨hn, -⟩
      · simpa [State.holds, hg] using hh
      · rw [hg] at hn; cases hn
    exact ⟨.booked, by rw [hb.cells x hx, hholder]; rfl, .inr rfl⟩

/-! ### The drain retest -/

theorem drainRetest_idle {v : State} (h : v.map.commit = .idle) : drainRetest s0 v = v :=
  if_neg (by simp [isPending, h])

/-- With no commit pending an event is served alone. -/
theorem settle_idle (h : u.map.commit = .idle) : settle s0 u = eventServed s0 u :=
  drainRetest_idle ((congrArg MapUnit.commit (map_of_sansBook (served_sansBook s0 u))).trans h)

theorem drainRetest_steady {v : State} (h : ∀ x, v.isDraining x = true → drainOccasion s0 v x = false) :
    drainRetest s0 v = v := by
  refine if_neg ?_
  have hany : (drainingCells v.map).any (drainOccasion s0 v) = false := by
    rw [List.any_eq_false]
    intro x hx
    have hd : v.isDraining x = true := by
      have := (List.mem_filter.mp hx).2
      simpa [State.isDraining] using this
    simp [h x hd]
  simp [hany]

theorem namedUnderWay_modBooking {v : State} {n : Nat} {st : BookState} (hst : underWay st = true) {x : CellNo}
    (h : namedUnderWay v x = true) : namedUnderWay (v.modBooking n fun k => { k with state := st }) x = true := by
  unfold namedUnderWay at h ⊢
  rw [List.any_eq_true] at h ⊢
  obtain ⟨b, hb, hx⟩ := h
  refine ⟨_, List.mem_map.mpr ⟨b, hb, rfl⟩, ?_⟩
  split
  · simp only [Bool.and_eq_true] at hx ⊢
    exact ⟨hst, hx.2⟩
  · exact hx

theorem namedUnderWay_congr {v w : State} (h : w.book = v.book) (x : CellNo) : namedUnderWay w x = namedUnderWay v x := by
  unfold namedUnderWay; rw [h]

theorem namedUnderWay_testAdmission {v : State} (n : Nat) {x : CellNo} (h : namedUnderWay v x = true) :
    namedUnderWay (testAdmission s0 v n) x = true := by
  unfold testAdmission
  split
  · split
    · rw [namedUnderWay_congr (admitBooking_book _ _)]
      exact namedUnderWay_modBooking rfl h
    · exact h
  · exact h

theorem namedUnderWay_served {x : CellNo} (h : namedUnderWay u x = true) : namedUnderWay (eventServed s0 u) x = true := by
  refine foldl_holds (fun v => namedUnderWay v x = true) (testAdmission s0)
    (fun v n => namedUnderWay_testAdmission n) _ _ ?_
  rw [namedUnderWay_congr (serveCells_book s0 u)]
  exact h

/-- Of a DRAINING cell service changes nothing but the recall: neither its grant nor its list. -/
theorem served_draining {x : CellNo} (hd : u.isDraining x = true) :
    ∃ r, (eventServed s0 u).cell x = { u.cell x with recallState := r } := by
  have hcell : (eventServed s0 u).cell x = (serveCells s0 u).cell x := by
    rcases (admits_served s0 u).cell x with e | ⟨b, hb, hx⟩
    · exact e
    · have := (hb.ready.2 x hx).1
      rw [isDraining_of_map (map_of_sansBook (serveCells_sansBook s0 u)), hd] at this
      cases this
  rcases serveCells_cases s0 u x with ⟨r, hr⟩ | ⟨e, _, _, _, _, hc, -⟩
  · exact ⟨r, hcell.trans hr⟩
  · have := ((canGrant_iff _ _ _).mp hc).2.1
    rw [State.barred, hd] at this
    simp at this

theorem entryLeft_self {v w : State} {x : CellNo} (h : (w.cell x).list = (v.cell x).list) : entryLeft v w x = false := by
  unfold entryLeft
  rw [h, List.any_eq_false]
  intro e he
  have : ((v.cell x).list.any fun f => entryKind f == entryKind e && entryCrane f == entryCrane e) = true :=
    List.any_eq_true.mpr ⟨e, he, by simp⟩
  simp [this]

/-- An event that changes neither the grant nor the list of a DRAINING cell and takes no booking under way out of the
book gives no occasion for the drain retest. -/
theorem settle_undrained
    (hc : ∀ x, u.isDraining x = true → (u.cell x).grant = (s0.cell x).grant ∧ (u.cell x).list = (s0.cell x).list)
    (hn : ∀ x, namedUnderWay s0 x = true → namedUnderWay u x = true) : settle s0 u = eventServed s0 u := by
  refine drainRetest_steady fun x hx => ?_
  have hdu : u.isDraining x = true := by
    rw [← hx]
    exact (isDraining_of_map (map_of_sansBook (served_sansBook s0 u)) x).symm
  obtain ⟨r, hr⟩ := served_draining (s0 := s0) hdu
  have hlist : ((eventServed s0 u).cell x).list = (s0.cell x).list := by rw [hr]; exact (hc x hdu).2
  have hgrant : ((eventServed s0 u).cell x).grant = (s0.cell x).grant := by rw [hr]; exact (hc x hdu).1
  show drainOccasion s0 (eventServed s0 u) x = false
  unfold drainOccasion
  rw [entryLeft_self hlist, hgrant]
  cases h : namedUnderWay s0 x with
  | false => cases (s0.cell x).grant <;> rfl
  | true => rw [namedUnderWay_served (hn x h)]; cases (s0.cell x).grant <;> rfl

/-! ### Events without occasion -/

/-- Cells without an occasion of service are left. -/
theorem serveCells_eq_self (h : ∀ x, serviceDue s0 u x = false ∧ (s0.cell x).grant = (u.cell x).grant) :
    serveCells s0 u = u := by
  unfold serveCells
  generalize allCells = l
  induction l with
  | nil => rfl
  | cons x l ih => rw [List.foldl_cons, serveCell_steady (h x).1 (h x).2]; exact ih

/-- A cell has no occasion of service where it, the touch sets, the marks and the bar of the wind are as before. -/
theorem serviceDue_steady (hcells : u.cells = s0.cells) (henvs : u.envs = s0.envs) (hmap : u.map = s0.map)
    (hwind : s0.windBars = true → u.windBars = true) (x : CellNo) :
    serviceDue s0 u x = false ∧ (s0.cell x).grant = (u.cell x).grant := by
  have hcell : u.cell x = s0.cell x := by unfold State.cell; rw [hcells]
  refine ⟨?_, by rw [hcell]⟩
  unfold serviceDue headChanged touchLost
  simp only [hcell, touches_of_envs henvs, isDraining_of_map hmap]
  cases (s0.cell x).grant <;> cases h : s0.windBars <;> simp_all

end

end Laws
end Sys2Proof.Machine

/-! SUPPORT. The moves of the wind state (R114 to R125): what a move leaves of the site, and how it is served. -/

namespace Sys2Proof.Machine

/-- `u` is `s` with the wind record moved, lifts become landings, and notices sent: cells, cranes, envelopes, outputs
and the DUE bookings are as they were. -/
structure WindTurned (s u : State) : Prop where
  cells : u.cells = s.cells
  envs : u.envs = s.envs
  map : u.map = s.map
  cranes : u.cranes = s.cranes
  outs : u.outs = s.outs
  next : u.book.next = s.book.next
  named : ∀ x, namedUnderWay s x = true → namedUnderWay u x = true
  due : ∀ b ∈ u.book.live, b.state = .due → b ∈ s.book.live
  grows : Grows s u

namespace Laws

/-! ### Notices of a fold over the cranes -/

theorem mem_notify {s : State} {p : Port} {n : Notice} (h : (s.port p).notices.length < 16) :
    n ∈ ((s.notify p n).port p).notices := by
  have hroom : (s.port p).notices.length < Config.noticeQueueMax := h
  unfold State.notify
  rw [port_modPort_same, queueNotice, if_pos hroom]
  simp

theorem notify_port_same (s : State) (p : Port) (n : Notice) : (s.notify p n).port p = queueNotice n (s.port p) :=
  port_modPort_same _ _ _

theorem notify_port_other {s : State} {p q : Port} (n : Notice) (h : q ≠ p) : (s.notify p n).port q = s.port q :=
  port_modPort_other _ h _

theorem notifyClass_port_crane (s : State) (k : NoticeClass) (n : Notice) (c : Crane) :
    (s.notifyClass k n).port (.c c) = s.port (.c c) := by
  have hsup : ∀ (u : State) (x : Sup), (u.notifySup k n x).port (.c c) = u.port (.c c) := fun u x => by
    unfold State.notifySup
    split
    · exact notify_port_other n (by simp)
    · rfl
  exact (hsup _ .s2).trans (hsup s .s1)

theorem notifyBoth_port_other {s : State} {c d : Crane} (k : NoticeClass) (n : Notice) (h : d ≠ c) :
    (s.notifyBoth c k n).port (.c d) = s.port (.c d) := by
  unfold State.notifyBoth
  rw [notifyClass_port_crane, notify_port_other n (by simpa using h)]

/-- A fold over cranes that talks to each crane in its own turn alone. -/
theorem foldl_port_crane {f : State → Crane → State} (hf : ∀ s c d, d ≠ c → (f s c).port (.c d) = s.port (.c d))
    {l : List Crane} {c : Crane} (hl : c ∉ l) (s : State) : (l.foldl f s).port (.c c) = s.port (.c c) := by
  induction l generalizing s with
  | nil => rfl
  | cons d l ih =>
    rw [List.foldl_cons, ih fun h => hl (List.mem_cons_of_mem d h)]
    exact hf s d c fun e => hl (e ▸ List.mem_cons_self)

theorem announceWind_notices (s : State) (w : WindState) (c : Crane) :
    ((announceWind s w).port (.c c)).notices.length ≤ (s.port (.c c)).notices.length + 1 := by
  unfold announceWind
  generalize Notice.wind .change w s.wind.state s.wind.cause s.wind.manual s.wind.ready = n
  dsimp only
  rw [notifyClass_port_crane]
  have hf : ∀ (u : State) (d e : Crane), e ≠ d → (u.notify (.c d) n).port (.c e) = u.port (.c e) := fun u d e h =>
    notify_port_other n (by simpa using h)
  have hnd : (allCranes.filter s.declared).Nodup := (List.nodup_finRange 8).filter _
  by_cases hc : c ∈ allCranes.filter s.declared
  · obtain ⟨a, b, hab⟩ := List.mem_iff_append.mp hc
    rw [hab] at hnd ⊢
    obtain ⟨-, hb, hdis⟩ := List.nodup_append.mp hnd
    rw [List.foldl_append, List.foldl_cons, foldl_port_crane hf (List.nodup_cons.mp hb).1]
    have ha : c ∉ a := fun h => hdis c h c List.mem_cons_self rfl
    rw [notify_port_same, foldl_port_crane hf ha]
    unfold queueNotice
    split
    · simp
    · exact Nat.le_succ _
  · rw [foldl_port_crane hf hc]
    exact Nat.le_succ _

/-! ### The wind turned -/

theorem WindTurned_refl (s : State) : WindTurned s s :=
  ⟨rfl, rfl, rfl, rfl, rfl, rfl, fun _ => id, fun _ h _ => h, Grows.refl s⟩

theorem WindTurned_trans {s t u : State} (h : WindTurned s t) (k : WindTurned t u) : WindTurned s u :=
  ⟨k.cells.trans h.cells, k.envs.trans h.envs, k.map.trans h.map, k.cranes.trans h.cranes, k.outs.trans h.outs,
    k.next.trans h.next, fun x hx => k.named x (h.named x hx), fun b hb hd => h.due b (k.due b hb hd) hd,
    h.grows.trans k.grows⟩

theorem WindTurned_of_talks {s t : State} (h : Talks s t) (hg : Grows s t) : WindTurned s t := by
  have hb : t.book = s.book := of_talks State.book h fun _ _ => rfl
  exact ⟨of_talks State.cells h fun _ _ => rfl, of_talks State.envs h fun _ _ => rfl,
    of_talks State.map h fun _ _ => rfl, of_talks State.cranes h fun _ _ => rfl, of_talks State.outs h fun _ _ => rfl,
    congrArg Book.next hb, fun x hx => namedUnderWay_congr hb x ▸ hx, fun b hm _ => hb ▸ hm, hg⟩

theorem WindTurned_setWind (s : State) (w : WindRec) : WindTurned s (s.setWind w) :=
  ⟨rfl, rfl, rfl, rfl, rfl, rfl, fun _ => id, fun _ h _ => h, (Grows.refl s).ports rfl⟩

theorem WindTurned_announceWind (s : State) (w : WindState) : WindTurned s (announceWind s w) :=
  WindTurned_of_talks (talks_announceWind s w) (announceWind_grows (Grows.refl s) w)

theorem WindTurned_notifyClass (s : State) (k : NoticeClass) (n : Notice) : WindTurned s (s.notifyClass k n) :=
  WindTurned_of_talks (talks_notifyClass s k n) (notifyClass_grows (Grows.refl s) k n)

theorem WindTurned_moveWind (s : State) (w : WindState) (k : WindCause) (t : Option Nat) :
    WindTurned s (moveWind s w k t) := WindTurned_trans (WindTurned_setWind s _) (WindTurned_announceWind _ _)

theorem WindTurned_foldl {α : Type} {f : State → α → State} (h : ∀ s a, WindTurned s (f s a)) (l : List α) (s : State) :
    WindTurned s (l.foldl f s) := by
  induction l generalizing s with
  | nil => exact WindTurned_refl s
  | cons a l ih => exact WindTurned_trans (h s a) (ih _)

theorem WindTurned_landed (s : State) (n : Nat) : WindTurned s (s.modBooking n fun k => { k with state := .landing }) := by
  refine ⟨rfl, rfl, rfl, rfl, rfl, rfl, fun x hx => namedUnderWay_modBooking rfl hx, fun b hb hd => ?_,
    (Grows.refl s).ports rfl⟩
  obtain ⟨a, ha, rfl⟩ := List.mem_map.mp hb
  split at hd
  · cases hd
  · rename_i h; rwa [if_neg h]

theorem WindTurned_toLanding (s : State) (n : Nat) : WindTurned s (toLanding s n) := by
  unfold toLanding
  split
  · exact WindTurned_trans (WindTurned_landed s _)
      (WindTurned_of_talks (talks_notifyBooking _ _ _) (notifyBooking_grows (Grows.refl _) _ _))
  · exact WindTurned_refl s

theorem WindTurned_landings (s : State) : WindTurned s (landings s) := WindTurned_foldl WindTurned_toLanding _ s

theorem WindTurned_parkingTest (s : State) : WindTurned s (parkingTest s) := by
  unfold parkingTest
  split
  · exact WindTurned_moveWind s _ _ _
  · exact WindTurned_refl s

theorem WindTurned_enterStop (s : State) (k : WindCause) : WindTurned s (enterStop s k) :=
  WindTurned_trans (WindTurned_trans (WindTurned_moveWind s _ _ _) (WindTurned_landings _)) (WindTurned_parkingTest _)

section
variable {s u : State}

theorem WindTurned_crane (h : WindTurned s u) (c : Crane) : u.crane c = s.crane c := by
  unfold State.crane; rw [h.cranes]

theorem WindTurned_cell (h : WindTurned s u) (x : CellNo) : u.cell x = s.cell x := by unfold State.cell; rw [h.cells]

theorem WindTurned_declared (h : WindTurned s u) (c : Crane) : u.declared c = s.declared c := by
  unfold State.declared State.decl; rw [h.map]

theorem WindTurned_inService (h : WindTurned s u) : craneInService u = craneInService s := by
  unfold craneInService
  simp only [WindTurned_crane h, WindTurned_declared h]

/-! ### A wind turned, served -/

/-- No turn of the wind gives a pending commit an occasion (R17). -/
theorem WindTurned_settle (h : WindTurned s u) : settle s u = eventServed s u :=
  settle_undrained (fun x _ => by rw [WindTurned_cell h x]; exact ⟨rfl, rfl⟩) h.named

/-- Under STOP and VANE nothing is served. -/
theorem WindTurned_conclude_barred (h : WindTurned s u) (hb : u.windBars = true) : conclude s u = compose s u := by
  have hcells : serveCells s u = u := serveCells_eq_self (serviceDue_steady h.cells h.envs h.map fun _ => hb)
  unfold conclude
  rw [WindTurned_settle h, eventServed, hcells, admissions_barred hb]

theorem WindTurned_conclude (h : WindTurned s u) : conclude s u = compose s (eventServed s u) := by
  unfold conclude
  rw [WindTurned_settle h]

theorem WindTurned_dueForCrane (h : WindTurned s u) {c : Crane} (hc : ¬dueForCrane s c) : ¬dueForCrane u c :=
  fun ⟨b, hb, hd, hk⟩ => hc ⟨b, h.due b hb hd, hd, hk⟩

/-- What follows a served turn of the wind keeps map, envelopes, crane records and holders. -/
theorem WindTurned_follows {t : State} (h : WindTurned s u) (hf : Follows (eventServed s u) t) :
    t.map = s.map ∧ t.envs = s.envs ∧ keepsHolders s t ∧ keepsCranes none s t ∧ t.book.next = s.book.next
      ∧ t.wind = u.wind := by
  have hrest := served_sansBook s u
  refine ⟨(hf.map.trans (map_of_sansBook hrest)).trans h.map, (hf.envs.trans (envs_of_sansBook hrest)).trans h.envs,
    fun x g hg => ?_, keepsCranes_of hf fun c _ => ⟨?_, fun hc => ?_⟩, ?_, hf.wind.trans (wind_of_sansBook hrest)⟩
  · unfold stillHeld
    rw [Follows_cell hf]
    exact served_holders (s0 := s) (WindTurned_cell h x ▸ hg)
  · rw [served_sansLift, WindTurned_crane h]
  · rw [served_crane (WindTurned_dueForCrane h hc), WindTurned_crane h]
  · rw [hf.book, served_next, h.next]

end

/-! ### The park timer -/

/-- What the run-out of the park timer leaves before it is served (R123). -/
def vaneEntered (s : State) : State := allCranes.foldl tellNotParked (moveWind s .vane .timeout none)

section
variable {s : State}

theorem talks_tellNotParked (s : State) (c : Crane) : Talks s (tellNotParked s c) := by
  unfold tellNotParked
  split
  · exact talks_notifyBoth _ _ _ _
  · exact Talks.refl s

theorem tellNotParked_grows {u : State} (h : Grows u s) (c : Crane) : Grows u (tellNotParked s c) := by
  unfold tellNotParked
  split
  · exact notifyBoth_grows h _ _ _
  · exact h

theorem tellNotParked_port_other (s : State) (c d : Crane) (h : d ≠ c) :
    (tellNotParked s c).port (.c d) = s.port (.c d) := by
  unfold tellNotParked
  split
  · exact notifyBoth_port_other _ _ h
  · rfl

theorem WindTurned_vaneEntered (s : State) : WindTurned s (vaneEntered s) :=
  WindTurned_trans (WindTurned_moveWind s _ _ _) (WindTurned_foldl (fun _ c =>
    WindTurned_of_talks (talks_tellNotParked _ c) (tellNotParked_grows (Grows.refl _) c)) _ _)

theorem vaneEntered_wind (s : State) : (vaneEntered s).wind = windMoved s.wind .vane .timeout none := by
  unfold vaneEntered
  rw [foldl_keeps State.wind tellNotParked fun u c => of_talks State.wind (talks_tellNotParked u c) fun _ _ => rfl]
  unfold moveWind
  rw [announceWind_wind]
  rfl

theorem vaneEntered_store (s : State) : (vaneEntered s).store = s.store := by
  unfold vaneEntered
  rw [foldl_keeps State.store tellNotParked fun u c => of_talks State.store (talks_tellNotParked u c) fun _ _ => rfl]
  unfold moveWind
  rw [of_talks State.store (talks_announceWind _ _) fun _ _ => rfl]
  rfl

theorem vaneEntered_book (s : State) : (vaneEntered s).book = s.book := by
  unfold vaneEntered
  rw [foldl_keeps State.book tellNotParked fun u c => of_talks State.book (talks_tellNotParked u c) fun _ _ => rfl]
  unfold moveWind
  rw [announceWind_book]
  rfl

theorem vaneEntered_core (s : State) : (vaneEntered s).core = s.core := by
  unfold vaneEntered
  rw [foldl_core _ (fun b a => tellNotParked_core b a), moveWind_core]

/-- Each crane is told in its turn. -/
theorem vaneEntered_at (s : State) (c : Crane) : ∃ v, WindTurned s v
    ∧ v.port (.c c) = (moveWind s .vane .timeout none).port (.c c)
    ∧ Grows (tellNotParked v c) (vaneEntered s) := by
  obtain ⟨a, b, hab⟩ := List.mem_iff_append.mp (mem_allCranes c)
  have hnd : (a ++ c :: b).Nodup := hab ▸ List.nodup_finRange 8
  obtain ⟨-, -, hdis⟩ := List.nodup_append.mp hnd
  have hg := fun (l : List Crane) {u v : State} (h : Grows u v) =>
    foldl_grows tellNotParked (fun _ d h => tellNotParked_grows h d) l h
  refine ⟨a.foldl tellNotParked (moveWind s .vane .timeout none), WindTurned_trans (WindTurned_moveWind s _ _ _)
      (WindTurned_of_talks (talks_foldl talks_tellNotParked a _) (hg a (Grows.refl _))),
    foldl_port_crane tellNotParked_port_other (fun h => hdis c h c List.mem_cons_self rfl) _, ?_⟩
  unfold vaneEntered
  rw [hab, List.foldl_append, List.foldl_cons]
  exact hg b (Grows.refl _)

theorem tellNotParked_eq {v : State} {c : Crane} (hd : v.declared c = true) (hi : (v.crane c).duty = .inService) :
    tellNotParked v c = v.notifyBoth c .crane (.notParked c (v.crane c).lift) := if_pos ⟨hd, hi⟩

/-- A declared crane in service is told of the run-out, and so are the supervisors of class CRANE (R123). -/
theorem vaneEntered_told {c : Crane} (hd : s.declared c = true) (hi : (s.crane c).duty = .inService) :
    (told (vaneEntered s) (.c c) (.notParked c (s.crane c).lift)
      ∧ ∀ y, (s.port (.s y)).mask.crane = true → told (vaneEntered s) (.s y) (.notParked c (s.crane c).lift))
    ∧ ((s.port (.c c)).notices.length ≤ 14 →
        Notice.notParked c (s.crane c).lift ∈ ((vaneEntered s).port (.c c)).notices) := by
  obtain ⟨v, hv, hport, hgrows⟩ := vaneEntered_at s c
  have hcrane := WindTurned_crane hv c
  rw [tellNotParked_eq ((WindTurned_declared hv c).trans hd) (hcrane ▸ hi), hcrane] at hgrows
  obtain ⟨h1, h2⟩ := told_notifyBoth v c .crane (.notParked c (s.crane c).lift)
  refine ⟨⟨told_grows hgrows h1, fun y hy => told_grows hgrows (h2 y ?_)⟩, fun h14 => ?_⟩
  · rw [mask_grows hv.grows]; exact hy
  · refine (hgrows (.c c)).1.subset ((notifyClass_grows (Grows.refl _) _ _ (.c c)).1.subset (mem_notify ?_))
    have hle : ((moveWind s .vane .timeout none).port (.c c)).notices.length ≤ (s.port (.c c)).notices.length + 1 :=
      announceWind_notices (s.setWind (windMoved s.wind .vane .timeout none)) _ c
    rw [hport]
    omega

theorem unionOf_of_vane {u : State} (h : u.wind.state = .vane) (c : Crane) : unionOf (sourceSets u c) = everyMotion := by
  have hwind : windSet u c = everyMotion := by unfold windSet; rw [h]
  simp [unionOf, sourceSets, hwind, linesUnion, everyMotion]

/-- Settles O49. -/
theorem parkTimeoutBringsTheSiteToVane : Obligations.ParkTimeoutBringsTheSiteToVane := by
  intro s hr hstop htimer
  have hturned := WindTurned_vaneEntered s
  have hwind := vaneEntered_wind s
  have hbars : (vaneEntered s).windBars = true := by rw [State.windBars, hwind]; rfl
  have hconclude : parkTimerEnds s = compose s (vaneEntered s) :=
    (if_pos ⟨hstop, htimer⟩).trans (WindTurned_conclude_barred hturned hbars)
  have hf : Follows (vaneEntered s) (compose s (vaneEntered s)).transmit :=
    Follows_trans (Follows_compose s _) (Follows_transmit _)
  have hcore : (compose s (vaneEntered s)).core = s.core := (compose_core s _).trans (vaneEntered_core s)
  obtain ⟨hsite, hports⟩ := kept_event hcore (compose_grows s hturned.grows)
  have htold : windTold s (vaneEntered s) .stop .vane .timeout s.wind.manual s.wind.ready := by
    have h := windTold_announceWind (s.setWind (windMoved s.wind .vane .timeout none)) .stop
    have hg : Grows (moveWind s .vane .timeout none) (vaneEntered s) :=
      foldl_grows tellNotParked (fun _ d h => tellNotParked_grows h d) _ (Grows.refl _)
    rw [moveWind, hstop] at hg
    exact ⟨fun c hc => told_grows hg (h.1 c hc), fun y hy => told_grows hg (h.2 y hy)⟩
  refine ⟨(compose s (vaneEntered s)).transmit, ?_, ?_⟩
  · exact (next_whenRunning hr _).trans (by rw [hconclude])
  rw [hf.wind, hwind, hf.cells, hf.book, hf.envs, hf.map, hf.store]
  refine ⟨rfl, rfl, rfl, rfl, ?_, fun c => ?_, fun c hd hi h14 => ?_, fun c hd hi => ?_, ?_, ?_, hturned.cells,
    vaneEntered_book s, hturned.envs, hturned.map, vaneEntered_store s, ?_, hsite, hports⟩
  · exact if_pos ⟨hstop, rfl⟩
  · rw [transmit_out, (compose_lines s _ c).2, unionOf_of_vane]
    rw [hwind]
    rfl
  · exact (hf.grows (.c c)).1.subset ((vaneEntered_told hd hi).2 h14)
  · obtain ⟨⟨h1, h2⟩, -⟩ := vaneEntered_told hd hi
    exact ⟨told_grows hf.grows h1, fun y hy => told_grows hf.grows (h2 y hy)⟩
  · exact ⟨fun c hc => told_grows hf.grows (htold.1 c hc), fun y hy => told_grows hf.grows (htold.2 y hy)⟩
  · refine inhibitsTold_grows (inhibitsTold_compose s fun c => ?_) (transmit_grows _) fun c => transmit_out _ c
    unfold State.out
    rw [hturned.outs]
  · exact keepsCranes_of hf fun c _ => ⟨by rw [WindTurned_crane hturned], fun _ => WindTurned_crane hturned c⟩

end

end Laws
end Sys2Proof.Machine

/-! SUPPORT. The entry into STOP (R121, R122, R153) with its notices, SITE_STOP and RESUME (R119, R120). -/

namespace Sys2Proof.Machine.Laws

open Sys2Proof Sys2Proof.Machine

theorem of_sansWind {γ : Type} {s t : State} (g : State → γ) (h : s.sansWind = t.sansWind)
    (hg : ∀ u : State, g u.sansWind = g u) : g s = g t := (hg s).symm.trans ((congrArg g h).trans (hg t))

theorem announceWind_store (s : State) (w : WindState) : (announceWind s w).store = s.store :=
  of_talks State.store (talks_announceWind s w) fun _ _ => rfl

/-! ### Landings -/

theorem toLanding_booking (s : State) (n m : Nat) : (toLanding s n).booking m
    = if m = n then (s.booking n).map fun b => { b with state := .landing } else s.booking m := by
  unfold toLanding
  split
  · rename_i b hb
    rw [booking_moveBooking, booking_number hb]
  · rename_i hb
    split
    · rename_i e; rw [e, hb]; rfl
    · rfl

theorem foldl_toLanding_booking (l : List Nat) (s : State) (m : Nat) : (l.foldl toLanding s).booking m
    = if m ∈ l then (s.booking m).map fun b => { b with state := .landing } else s.booking m := by
  induction l generalizing s with
  | nil => simp
  | cons n l ih =>
    rw [List.foldl_cons, ih, toLanding_booking]
    by_cases hn : m = n
    · subst hn
      cases s.booking m <;> simp
    · simp [hn]

/-- Where numbers are unique every ADMITTED booking becomes LANDING and every other stays (R153). -/
theorem landings_booking {s : State} (hu : (s.book.live.map (·.number)).Nodup) {n : Nat} {b : Booking}
    (hb : s.booking n = some b) :
    (landings s).booking n = some (if b.state = .admitted then { b with state := .landing } else b) := by
  unfold landings
  rw [foldl_toLanding_booking, hb]
  by_cases ha : b.state = .admitted
  · rw [if_pos (mem_bookingsWhere hb (by simp [ha])), if_pos ha]
    rfl
  · rw [if_neg, if_neg ha]
    intro hmem
    obtain ⟨d, hd, hp, rfl⟩ := bookingsWhere_spec hmem
    obtain rfl := Option.some.inj ((booking_of_mem hu hd).symm.trans hb)
    exact ha (by simpa using hp)

/-- Each landing is told (R130). -/
theorem landings_told {s : State} {n : Nat} {b : Booking} (hb : s.booking n = some b) (ha : b.state = .admitted) :
    bookingTold s (landings s) b (some .admitted) (.state .landing) := by
  have hmem : n ∈ bookingsWhere s fun b => b.state == .admitted := mem_bookingsWhere hb (by simp [ha])
  obtain ⟨l, r, hsplit, hl⟩ := List.eq_append_cons_of_mem hmem
  unfold landings
  rw [hsplit, List.foldl_append, List.foldl_cons]
  have hv : (l.foldl toLanding s).booking n = some b := by rw [foldl_toLanding_booking, if_neg hl, hb]
  have hto : toLanding (l.foldl toLanding s) n = moveBooking (l.foldl toLanding s) b .landing := by
    simp only [toLanding, hv]
  have hg : Grows s (l.foldl toLanding s) := (WindTurned_foldl WindTurned_toLanding l s).grows
  have hafter := (WindTurned_foldl WindTurned_toLanding r (toLanding (l.foldl toLanding s) n)).grows
  have htold := told_notifyBooking ((l.foldl toLanding s).modBooking b.number fun k => { k with state := .landing }) b
    (.booking b.number b.crane (some b.state) (.state .landing) none none)
  rw [ha] at htold
  rw [hto] at hafter ⊢
  refine ⟨told_grows hafter ?_, fun y hy => told_grows hafter ?_⟩
  · unfold moveBooking
    rw [ha]
    exact htold.1
  · unfold moveBooking
    rw [ha]
    refine htold.2 y ?_
    have hmask : (((l.foldl toLanding s).modBooking b.number fun k => { k with state := .landing }).port (.s y)).mask
        = (s.port (.s y)).mask := mask_grows hg _
    rwa [hmask]

theorem landings_wind (s : State) : (landings s).wind = s.wind :=
  foldl_keeps State.wind toLanding (fun t n => by
    unfold toLanding
    split
    · unfold moveBooking
      rw [notifyBooking_wind]
      rfl
    · rfl) _ s

theorem landings_store (s : State) : (landings s).store = s.store := of_sansWind State.store (landings_sansWind s) fun _ => rfl

/-! ### Told of a move -/

theorem windTold_mono {s s' t t' : State} {a b : WindState} {k : WindCause} {m r : Bool} (h : windTold s t a b k m r)
    (hs : WindTurned s' s) (hg : Grows t t') : windTold s' t' a b k m r :=
  ⟨fun c hc => told_grows hg (h.1 c ((WindTurned_declared hs c).trans hc)),
    fun y hy => told_grows hg (h.2 y ((congrArg Classes.wind (mask_grows hs.grows _)).trans hy))⟩

theorem bookingTold_turned {s s' t t' : State} {b : Booking} {f : Option BookState} {o : BookNow} {q : Option Port}
    {l : Option (List CellNo)} (h : bookingTold s t b f o q l) (hs : WindTurned s' s) (hg : Grows t t') :
    bookingTold s' t' b f o q l := bookingTold_mono h (fun _ => (mask_grows hs.grows _).symm) hg

theorem moveWind_wind (s : State) (w : WindState) (k : WindCause) (t : Option Nat) :
    (moveWind s w k t).wind = windMoved s.wind w k t := by
  unfold moveWind
  rw [announceWind_wind]
  rfl

theorem moveWind_book (s : State) (w : WindState) (k : WindCause) (t : Option Nat) :
    (moveWind s w k t).book = s.book := by
  unfold moveWind
  rw [announceWind_book]
  rfl

theorem moveWind_store (s : State) (w : WindState) (k : WindCause) (t : Option Nat) :
    (moveWind s w k t).store = s.store := of_sansWind State.store (moveWind_sansWind s w k t) fun _ => rfl

theorem moveWind_told (s : State) (w : WindState) (k : WindCause) (t : Option Nat) :
    windTold s (moveWind s w k t) s.wind.state w k s.wind.manual (if w = .vane then s.wind.ready else false) :=
  windTold_mono (windTold_announceWind _ _) (WindTurned_setWind s _) (Grows.refl _)

/-! ### The entry into STOP -/

/-- The state with STOP entered and its landings made, before the parking test. -/
def stopMade (s : State) (k : WindCause) : State :=
  landings (moveWind s .stop k (some (s.map.params.parkTimeout * 1000)))

theorem enterStop_eq (s : State) (k : WindCause) : enterStop s k = parkingTest (stopMade s k) := rfl

section
variable (s : State) (k : WindCause)

theorem WindTurned_stopMade : WindTurned s (stopMade s k) :=
  WindTurned_trans (WindTurned_moveWind s _ _ _) (WindTurned_landings _)

theorem stopMade_wind : (stopMade s k).wind = windMoved s.wind .stop k (some (s.map.params.parkTimeout * 1000)) := by
  unfold stopMade
  rw [landings_wind, moveWind_wind]

theorem stopMade_inService : craneInService (stopMade s k) = craneInService s :=
  WindTurned_inService (WindTurned_stopMade s k)

variable {s k}

theorem enterStop_of_working (h : craneInService s = true) : enterStop s k = stopMade s k := by
  rw [enterStop_eq, parkingTest, if_neg]
  rw [stopMade_inService, h]
  simp

theorem enterStop_of_none (h : craneInService s = false) :
    enterStop s k = moveWind (stopMade s k) .vane .parked none := by
  rw [enterStop_eq, parkingTest, if_pos]
  rw [stopMade_inService, h, stopMade_wind]
  exact ⟨rfl, rfl⟩

theorem enterStop_wind : (enterStop s k).wind
    = if craneInService s = true then windMoved s.wind .stop k (some (s.map.params.parkTimeout * 1000))
      else windMoved (windMoved s.wind .stop k (some (s.map.params.parkTimeout * 1000))) .vane .parked none := by
  split
  · rename_i h
    rw [enterStop_of_working h, stopMade_wind]
  · rename_i h
    rw [enterStop_of_none (by simpa using h), moveWind_wind, stopMade_wind]

theorem enterStop_bars : (enterStop s k).windBars = true := by
  unfold State.windBars
  rw [enterStop_wind]
  split <;> rfl

theorem stopMade_grows_enterStop : Grows (stopMade s k) (enterStop s k) := (WindTurned_parkingTest _).grows

theorem enterStop_told : windTold s (enterStop s k) s.wind.state .stop k s.wind.manual false :=
  windTold_mono (moveWind_told s .stop k _) (WindTurned_refl s)
    ((WindTurned_landings _).grows.trans stopMade_grows_enterStop)

theorem enterStop_told_vane (h : craneInService s = false) :
    windTold s (enterStop s k) .stop .vane .parked s.wind.manual false := by
  have ht := moveWind_told (stopMade s k) .vane .parked none
  rw [stopMade_wind] at ht
  rw [enterStop_of_none h]
  exact windTold_mono ht (WindTurned_stopMade s k) (Grows.refl _)

theorem enterStop_told_landing {n : Nat} {b : Booking} (hb : s.booking n = some b) (ha : b.state = .admitted) :
    bookingTold s (enterStop s k) b (some .admitted) (.state .landing) := by
  have hm : (moveWind s .stop k (some (s.map.params.parkTimeout * 1000))).booking n = some b :=
    (booking_congr (moveWind_book _ _ _ _) n).trans hb
  exact bookingTold_turned (landings_told hm ha) (WindTurned_moveWind s _ _ _) stopMade_grows_enterStop

theorem parkingTest_book (s : State) : (parkingTest s).book = s.book := by
  unfold parkingTest
  split
  · exact moveWind_book _ _ _ _
  · rfl

theorem enterStop_booking (hu : (s.book.live.map (·.number)).Nodup) {n : Nat} {b : Booking} (hb : s.booking n = some b) :
    (enterStop s k).booking n = some (if b.state = .admitted then { b with state := .landing } else b) := by
  have hbook : (moveWind s .stop k (some (s.map.params.parkTimeout * 1000))).book = s.book := moveWind_book _ _ _ _
  rw [enterStop_eq, booking_congr (parkingTest_book _)]
  refine landings_booking ?_ ((booking_congr hbook n).trans hb)
  rw [hbook]
  exact hu

theorem enterStop_store : (enterStop s k).store = s.store := of_sansWind State.store (enterStop_sansWind s k) fun _ => rfl

end

/-! ### SITE_STOP -/

section
variable {s : State}

theorem withdrawReady_wind (s : State) : (withdrawReady s).wind = { s.wind with ready := false } := by
  unfold withdrawReady
  cases h : s.wind.ready with
  | false => rw [if_neg (by simp)]; rw [← h]
  | true => rw [if_pos rfl, notifyClass_wind]; rfl

theorem withdrawReady_store (s : State) : (withdrawReady s).store = s.store := by
  unfold withdrawReady
  split
  · rw [of_talks State.store (talks_notifyClass _ _ _) fun _ _ => rfl]
    rfl
  · rfl

theorem WindTurned_withdrawReady (s : State) : WindTurned s (withdrawReady s) := by
  unfold withdrawReady
  split
  · exact WindTurned_trans (WindTurned_setWind s _) (WindTurned_notifyClass _ _ _)
  · exact WindTurned_refl s

theorem withdrawReady_told (h : s.wind.ready = true) {y : Sup} (hy : (s.port (.s y)).mask.wind = true) :
    told (withdrawReady s) (.s y)
      (.wind .resumeWithdrawn s.wind.state s.wind.state s.wind.cause s.wind.manual false) := by
  unfold withdrawReady
  rw [if_pos h]
  exact told_notifyClass _ _ _ y hy

/-- The state with the manual stop flag set. -/
def flagged (s : State) : State := s.setWind { s.wind with manual := true }

/-- The state with the cause MANUAL. -/
def recaused (s : State) : State := s.setWind { s.wind with cause := .manual }

theorem siteStops_of_stop (h : s.wind.state = .stop) : siteStops s = announceWind (recaused (flagged s)) .stop := by
  unfold siteStops
  extract_lets u
  split
  · rfl
  · rename_i hw
    exact absurd (h.symm.trans hw) nofun
  · rename_i hne _
    exact absurd h hne

theorem siteStops_of_vane (h : s.wind.state = .vane) : siteStops s = announceWind (withdrawReady (flagged s)) .vane := by
  unfold siteStops
  extract_lets u
  split
  · rename_i hw
    exact absurd (h.symm.trans hw) nofun
  · rfl
  · rename_i hne
    exact absurd h hne

theorem siteStops_of_lower (h : windRank s.wind.state < 3) : siteStops s = enterStop (flagged s) .manual := by
  unfold siteStops
  extract_lets u
  split
  · rename_i hw
    have hs : s.wind.state = .stop := hw
    rw [hs] at h
    exact absurd h (by decide)
  · rename_i hw
    have hs : s.wind.state = .vane := hw
    rw [hs] at h
    exact absurd h (by decide)
  · rfl

theorem WindTurned_flagged (s : State) : WindTurned s (flagged s) := WindTurned_setWind s _

/-- SITE_STOP turns the wind and leaves a state that bars grants. -/
theorem siteStops_turned (s : State) : WindTurned s (siteStops s) ∧ (siteStops s).windBars = true
    ∧ (siteStops s).store = s.store := by
  by_cases hlow : windRank s.wind.state < 3
  · rw [siteStops_of_lower hlow]
    exact ⟨WindTurned_trans (WindTurned_flagged s) (WindTurned_enterStop _ _), enterStop_bars, enterStop_store⟩
  · have hw : s.wind.state = .stop ∨ s.wind.state = .vane := by
      revert hlow
      cases s.wind.state <;> simp [windRank]
    rcases hw with hw | hw
    · rw [siteStops_of_stop hw]
      refine ⟨WindTurned_trans (WindTurned_flagged s) (WindTurned_trans (WindTurned_setWind _ _) (WindTurned_announceWind _ _)),
        ?_, ?_⟩
      · rw [State.windBars, announceWind_wind]
        exact (windBars_iff s).mpr (.inl hw)
      · rw [announceWind_store]
        rfl
    · rw [siteStops_of_vane hw]
      refine ⟨WindTurned_trans (WindTurned_flagged s) (WindTurned_trans (WindTurned_withdrawReady _)
        (WindTurned_announceWind _ _)), ?_, ?_⟩
      · rw [State.windBars, announceWind_wind, withdrawReady_wind]
        exact (windBars_iff s).mpr (.inr hw)
      · rw [announceWind_store, withdrawReady_store]
        rfl

/-! ### RESUME -/

/-- Outside CALM and ALERT no booking is admitted (R149). -/
theorem admissions_closed {s0 u : State} (h : u.wind.state ≠ .calm ∧ u.wind.state ≠ .alert) : admissions s0 u = u := by
  unfold admissions
  generalize bookingsWhere u _ = l
  induction l with
  | nil => rfl
  | cons n l ih =>
    have hn : testAdmission s0 u n = u := by
      unfold testAdmission
      split
      · refine if_neg fun hc => ?_
        rcases ((admissible_iff _ _).mp hc.2.2).1.2.2.2 with hw | ⟨hw, -⟩
        · exact h.1 hw
        · exact h.2 hw
      · rfl
    rw [List.foldl_cons, hn]
    exact ih

theorem doSiteStop_accepts {x : Sup} (hx : x = s.holder) (hm : s.wind.manual = false) :
    doSiteStop x s = (compose s (siteStops s)).answer (.s x) .siteStop
      (.windNow (siteStops s).wind.state (siteStops s).wind.cause) := by
  obtain ⟨hturned, hbars, -⟩ := siteStops_turned s
  unfold doSiteStop
  dsimp only
  refine (if_neg (by simp [authorized_of_holder hx])).trans ((if_neg (by simp [hm])).trans ?_)
  rw [WindTurned_conclude_barred hturned hbars, compose_wind]

theorem doSiteStop_unchanged {x : Sup} (hx : x = s.holder) (hm : s.wind.manual = true) :
    doSiteStop x s = s.answer (.s x) .siteStop .unchanged :=
  (if_neg (by simp [authorized_of_holder hx])).trans (if_pos hm)

theorem doResume_flag {x : Sup} (hx : x = s.holder) (hm : s.wind.manual = true) :
    doResume x s = (announceWind (s.setWind { s.wind with manual := false }) s.wind.state).answer (.s x) .resume
      .flagCleared :=
  (if_neg (by simp [authorized_of_holder hx])).trans (if_pos hm)

theorem doResume_hold {x : Sup} (hx : x = s.holder) (hm : s.wind.manual = false) (hw : s.wind.state = .vane)
    (hready : s.wind.ready = true) :
    doResume x s = (conclude s (moveWind s .hold s.wind.cause none)).answer (.s x) .resume .resumedHold :=
  (if_neg (by simp [authorized_of_holder hx])).trans ((if_neg (by simp [hm])).trans (if_pos ⟨hw, hready⟩))

theorem doResume_refuses {x : Sup} (hx : x = s.holder) (hm : s.wind.manual = false)
    (hr : ¬(s.wind.state = .vane ∧ s.wind.ready = true)) : doResume x s = s.refuse (.s x) .resume .notReady :=
  (if_neg (by simp [authorized_of_holder hx])).trans ((if_neg (by simp [hm])).trans (if_neg hr))

/-- An answered state follows. -/
theorem Follows_answer (u : State) (p : Port) (k : ReqKind) (r : Result) : Follows u (u.answer p k r).transmit :=
  Follows_trans (Follows_respond u p _) (Follows_transmit _)

/-- What SITE_STOP leaves of the wind record and the book, and whom it tells (R119). -/
theorem siteStops_wind (s : State) :
    (s.wind.state = .vane → (siteStops s).wind = { s.wind with manual := true, ready := false }
      ∧ (siteStops s).book = s.book ∧ windTold s (siteStops s) .vane .vane s.wind.cause true false
      ∧ (s.wind.ready = true → ∀ y, (s.port (.s y)).mask.wind = true →
          told (siteStops s) (.s y) (.wind .resumeWithdrawn .vane .vane s.wind.cause true false)))
    ∧ (s.wind.state = .stop → (siteStops s).wind = { s.wind with manual := true, cause := .manual }
      ∧ (siteStops s).book = s.book ∧ windTold s (siteStops s) .stop .stop .manual true s.wind.ready) := by
  refine ⟨fun hw => ?_, fun hw => ?_⟩
  · have hwind : (withdrawReady (flagged s)).wind = { s.wind with manual := true, ready := false } := withdrawReady_wind _
    have ht := windTold_announceWind (withdrawReady (flagged s)) .vane
    rw [hwind] at ht
    rw [siteStops_of_vane hw, announceWind_wind, announceWind_book]
    refine ⟨hwind, ?_, ?_, fun hr y hy => ?_⟩
    · unfold withdrawReady
      split
      · exact notifyClass_book _ _ _
      · rfl
    · refine windTold_mono ?_ (WindTurned_trans (WindTurned_flagged s) (WindTurned_withdrawReady _)) (Grows.refl _)
      simpa only [hw] using ht
    · have h := withdrawReady_told (s := flagged s) hr hy
      have hs : (flagged s).wind.state = .vane := hw
      rw [hs] at h
      exact told_grows (announceWind_grows (Grows.refl _) _) h
  · have ht := windTold_announceWind (recaused (flagged s)) .stop
    have hs : (recaused (flagged s)).wind.state = .stop := hw
    rw [hs] at ht
    rw [siteStops_of_stop hw, announceWind_wind, announceWind_book]
    exact ⟨rfl, rfl, windTold_mono ht (WindTurned_trans (WindTurned_flagged s) (WindTurned_setWind (flagged s) _))
      (Grows.refl _)⟩

end

/-- Settles O48. -/
theorem siteStopAndResume : Obligations.SiteStopAndResume := by
  intro x s h hx
  refine ⟨fun hm => ?_, fun hm => ?_, fun hm => ?_, fun hm hw hready => ?_, fun hm hr => ?_⟩
  · exact exec_sup_attended h .siteStop (doSiteStop_unchanged hx hm)
  · obtain ⟨hturned, hbars, hstore⟩ := siteStops_turned s
    obtain ⟨hvane, hstop⟩ := siteStops_wind s
    have hf : Follows (siteStops s) _ := Follows_trans (Follows_compose s (siteStops s))
      (Follows_answer _ (.s x) .siteStop (.windNow (siteStops s).wind.state (siteStops s).wind.cause))
    have hcore : (compose s (siteStops s)).core = s.core := (compose_core s _).trans (siteStops_core s)
    obtain ⟨hsite, hports⟩ := kept_answered hcore (compose_grows s hturned.grows) (.s x) _
    have hinService : craneInService (flagged s) = craneInService s := WindTurned_inService (WindTurned_flagged s)
    have hlower : windRank s.wind.state < 3 → (siteStops s).wind = if craneInService s = true
        then windMoved (flagged s).wind .stop .manual (some (s.map.params.parkTimeout * 1000))
        else windMoved (windMoved (flagged s).wind .stop .manual (some (s.map.params.parkTimeout * 1000))) .vane .parked
          none := fun hlow => by
      rw [siteStops_of_lower hlow, enterStop_wind, hinService]
      rfl
    have hrank : s.wind.state = .stop ∨ s.wind.state = .vane ∨ windRank s.wind.state < 3 := by
      cases s.wind.state <;> simp [windRank]
    refine ⟨_, exec_sup_attended h .siteStop (doSiteStop_accepts hx hm), ?_⟩
    rw [hf.wind, hf.book, hf.envs, hf.map, hf.store, hf.cells]
    refine ⟨?_, responds_transmit (answer_slot _ _ _ _), (windBars_iff _).mp hbars, fun hw => (hvane hw).1, fun hw => ?_, fun hw => ?_,
      fun hw => ?_, fun hlow => ⟨?_, fun hnone => ?_, fun n b hb ha => ?_⟩, fun _ hwork hne => ?_, fun _ hlow hu n b hb => ?_,
      fun _ hw => ?_, hturned.map, hstore, hturned.envs, hturned.cells, ?_, hsite, hports⟩
    · rcases hrank with hw | hw | hlow
      · rw [(hstop hw).1]
      · rw [(hvane hw).1]
      · rw [hlower hlow]
        split <;> rfl
    · rcases hrank with hw' | hw' | hlow
      · rw [(hstop hw').1]
      · rw [(hvane hw').1] at hw
        exact absurd (hw'.symm.trans hw) nofun
      · rw [hlower hlow] at hw ⊢
        split
        · rfl
        · rename_i hn
          rw [if_neg hn] at hw
          cases hw
    · obtain ⟨-, -, ht, hr⟩ := hvane hw
      exact ⟨windTold_mono ht (WindTurned_refl s) hf.grows, fun hready y hy => told_grows hf.grows (hr hready y hy)⟩
    · exact windTold_mono (hstop hw).2.2 (WindTurned_refl s) hf.grows
    · refine windTold_mono ?_ (WindTurned_flagged s) hf.grows
      rw [siteStops_of_lower hlow]
      exact enterStop_told
    · refine windTold_mono ?_ (WindTurned_flagged s) hf.grows
      rw [siteStops_of_lower hlow]
      exact enterStop_told_vane (hinService.trans hnone)
    · refine bookingTold_turned ?_ (WindTurned_flagged s) hf.grows
      rw [siteStops_of_lower hlow]
      exact enterStop_told_landing hb ha
    · rcases hrank with hw | hw | hlow
      · rw [(hstop hw).1]
        exact ⟨hw, (if_pos hw).symm⟩
      · exact absurd hw hne
      · rw [hlower hlow, if_pos hwork, if_neg]
        · exact ⟨rfl, rfl⟩
        · intro e
          rw [e] at hlow
          exact absurd hlow (by decide)
    · rw [Follows_booking hf, siteStops_of_lower hlow]
      exact enterStop_booking (s := flagged s) hu hb
    · rcases hw with hw | hw
      · exact (hstop hw).2.1
      · exact (hvane hw).2.1
    · exact keepsCranes_of hf fun c _ => ⟨by rw [WindTurned_crane hturned], fun _ => WindTurned_crane hturned c⟩
  · have htalks := talks_announceWind (s.setWind { s.wind with manual := false }) s.wind.state
    have hf := Follows_answer (announceWind (s.setWind { s.wind with manual := false }) s.wind.state) (.s x) .resume
      .flagCleared
    have hturned : WindTurned s (announceWind (s.setWind { s.wind with manual := false }) s.wind.state) :=
      WindTurned_trans (WindTurned_setWind s _) (WindTurned_announceWind _ _)
    have hcore : (announceWind (s.setWind { s.wind with manual := false }) s.wind.state).core = s.core :=
      (announceWind_core _ _).trans rfl
    obtain ⟨hsite, hports⟩ := kept_answered hcore hturned.grows (.s x) _
    refine ⟨_, exec_sup_attended h .resume (doResume_flag hx hm), responds_transmit (answer_slot _ _ _ _), ?_, ?_, ?_, ?_, ?_, ?_, ?_, ?_,
      ?_, ?_, ?_, hsite, hports⟩
    · rw [hf.wind, announceWind_wind]
      rfl
    · exact windTold_mono (windTold_announceWind _ _) (WindTurned_setWind s _) hf.grows
    · rw [hf.map, hturned.map]
    · simp only [State.answer, transmit_cranes, respond_cranes]
      exact hturned.cranes
    · rw [hf.envs, hturned.envs]
    · rw [hf.cells, hturned.cells]
    · simp only [State.answer, transmit_outs, respond_outs]
      exact hturned.outs
    · simp only [State.answer, transmit_sigs, respond_sigs]
      exact (of_talks State.sigs htalks fun _ _ => rfl).trans rfl
    · simp only [State.answer, transmit_sources, respond_sources]
      exact (of_talks State.sources htalks fun _ _ => rfl).trans rfl
    · rw [hf.book, announceWind_book]
      rfl
    · rw [hf.store]
      exact (of_talks State.store htalks fun _ _ => rfl).trans rfl
  · have hturned := WindTurned_moveWind s .hold s.wind.cause none
    have hclosed : eventServed s (moveWind s .hold s.wind.cause none)
        = serveCells s (moveWind s .hold s.wind.cause none) := by
      refine admissions_closed ?_
      rw [wind_of_sansBook (serveCells_sansBook _ _), moveWind_wind]
      exact ⟨nofun, nofun⟩
    have hf : Follows (eventServed s (moveWind s .hold s.wind.cause none)) _ := Follows_trans (Follows_compose s _)
      (Follows_answer _ (.s x) .resume .resumedHold)
    obtain ⟨hmap, henvs, hholders, hcranes, -, hwind⟩ := WindTurned_follows hturned hf
    have hcore : (compose s (eventServed s (moveWind s .hold s.wind.cause none))).core = s.core :=
      (compose_core s _).trans ((served_core _ _).trans (core_of_sansWind (moveWind_sansWind _ _ _ _)))
    have hgrows := (served_grows s (moveWind s .hold s.wind.cause none))
    obtain ⟨hsite, hports⟩ := kept_answered hcore (compose_grows s (hturned.grows.trans hgrows)) (.s x) _
    refine ⟨_, exec_sup_attended h .resume ((doResume_hold hx hm hw hready).trans (by rw [WindTurned_conclude hturned])),
      responds_transmit (answer_slot _ _ _ _), ?_⟩
    rw [hwind, moveWind_wind]
    have ht := moveWind_told s .hold s.wind.cause none
    rw [hw, hm] at ht
    refine ⟨rfl, rfl, hm, rfl, windTold_mono ht (WindTurned_refl s) (hgrows.trans hf.grows), hmap, ?_, henvs, ?_, hholders,
      hcranes, hsite, hports⟩
    · rw [hf.store, store_of_sansBook (served_sansBook _ _), moveWind_store]
    · rw [hf.book, hclosed, serveCells_book, moveWind_book]
  · exact exec_sup_attended h .resume (doResume_refuses hx hm hr)

end Sys2Proof.Machine.Laws

/-! SUPPORT. The sample (R100): what it leaves of the site, the wind state judged on it (R114 to R118, R124), and how
the outcome is served. -/

namespace Sys2Proof.Machine

/-- What a sample leaves before it is served: its notices, its measurement state, and the wind state judged on it. -/
def sampleJudged (s : State) : State := applyStep (Laws.sampleTold s) (sampleStep s)

namespace Laws

section
variable (s : State)

/-! ### Before the judgement -/

theorem WindTurned_setMeas (m : Meas) : WindTurned s (s.setMeas m) :=
  ⟨rfl, rfl, rfl, rfl, rfl, rfl, fun _ => id, fun _ h _ => h, (Grows.refl s).ports rfl⟩

theorem WindTurned_startWrite (k : Content) : WindTurned s (startWrite s k) :=
  ⟨rfl, rfl, rfl, rfl, rfl, rfl, fun _ => id, fun _ h _ => h, startWrite_grows (Grows.refl s) k⟩

theorem WindTurned_announceTable (m : Meas) : WindTurned s (announceTable m s) := by
  unfold announceTable
  split
  · exact WindTurned_trans (WindTurned_notifyClass s _ _) (WindTurned_startWrite _ _)
  · exact WindTurned_refl s

theorem announceChannel_grows (ch : Channel) (a b : ChanStatus) (v : Bool) : Grows s (announceChannel ch a b v s) := by
  unfold announceChannel
  split
  · exact Grows.refl s
  · exact notifyClass_grows (Grows.refl s) _ _

theorem announceChannels_grows (a b : Meas) : Grows s (announceChannels a b s) :=
  (announceChannel_grows s _ _ _ _).trans (announceChannel_grows _ _ _ _ _)

theorem WindTurned_announceChannels (a b : Meas) : WindTurned s (announceChannels a b s) :=
  WindTurned_of_talks (talks_announceChannels s a b) (announceChannels_grows s a b)

theorem WindTurned_sampleTold : WindTurned s (sampleTold s) :=
  WindTurned_trans (WindTurned_trans (WindTurned_trans (WindTurned_announceChannels s _ _)
    (WindTurned_announceChannels _ _ _)) (WindTurned_setMeas _ _)) (WindTurned_announceTable _ _)

theorem announceTable_keeps {γ : Type} (g : State → γ) (hp : ∀ (u : State) v, g { u with ports := v } = g u)
    (hs : ∀ (u : State) v, g (u.setStore v) = g u) (m : Meas) (u : State) : g (announceTable m u) = g u := by
  unfold announceTable
  split
  · exact (hs _ _).trans (of_talks g (talks_notifyClass _ _ _) hp)
  · rfl

theorem sampleTold_keeps {γ : Type} (g : State → γ) (hp : ∀ (u : State) v, g { u with ports := v } = g u)
    (hs : ∀ (u : State) v, g (u.setStore v) = g u) (hm : ∀ (u : State) v, g (u.setMeas v) = g u) :
    g (sampleTold s) = g s := by
  unfold sampleTold
  dsimp only
  rw [announceTable_keeps g hp hs, hm, of_talks g (talks_announceChannels _ _ _) hp,
    of_talks g (talks_announceChannels _ _ _) hp]

theorem sampleTold_wind : (sampleTold s).wind = s.wind :=
  sampleTold_keeps s State.wind (fun _ _ => rfl) (fun _ _ => rfl) fun _ _ => rfl

theorem sampleTold_book : (sampleTold s).book = s.book :=
  sampleTold_keeps s State.book (fun _ _ => rfl) (fun _ _ => rfl) fun _ _ => rfl

theorem announceTable_store (m : Meas) (u : State) : (announceTable m u).store
    = if boundary m = true then (m.pendingSet.map fun v => beginWrite u.store (.threshold v)).getD u.store else u.store := by
  unfold announceTable
  split
  · rename_i v hb hp
    rw [hb, hp]
    refine Eq.trans (b := beginWrite (State.notifyClass u _ _).store (.threshold v)) rfl ?_
    rw [of_talks State.store (talks_notifyClass _ _ _) fun _ _ => rfl]
    rfl
  · rename_i h
    cases hb : boundary m with
    | false => rfl
    | true =>
      cases hp : m.pendingSet with
      | none => rfl
      | some v => exact absurd hp (h v hb)

theorem sampleTold_store : (sampleTold s).store = if boundary s.meas = true then
    (s.meas.pendingSet.map fun v => beginWrite s.store (.threshold v)).getD s.store else s.store := by
  unfold sampleTold
  dsimp only
  rw [announceTable_store]
  have h : ((announceChannels (gateChannels s.meas) (applyWaiting (gateChannels s.meas))
      (announceChannels s.meas (gateChannels s.meas) s)).setMeas (sampled s.meas)).store = s.store :=
    Eq.trans (b := (announceChannels (gateChannels s.meas) (applyWaiting (gateChannels s.meas))
      (announceChannels s.meas (gateChannels s.meas) s)).store) rfl
      (of_talks State.store ((talks_announceChannels s _ _).trans (talks_announceChannels _ _ _)) fun _ _ => rfl)
  rw [h]

end

/-! ### The judgement -/

theorem setCount_vane {w : WindRec} (h : w.state = .vane) (n : Nat) : setCount w n = { w with stopCount := n } := by
  obtain ⟨st, _, _, _, _, _, _, _⟩ := w
  obtain rfl : st = .vane := h
  rfl

section
variable {s : State}

theorem staysAt_wind (s : State) (n : Nat) : (staysAt s n).wind
    = if s.wind.state = .vane ∧ n = 0 then { setCount s.wind n with ready := false } else setCount s.wind n := by
  have hstate : (setCount s.wind n).state = s.wind.state := by unfold setCount; split <;> rfl
  unfold staysAt
  extract_lets u
  have hu : u.wind = setCount s.wind n := rfl
  by_cases hc : s.wind.state = .vane ∧ n = 0
  · rw [if_pos hc, if_pos (by rw [hu, hstate]; exact hc), withdrawReady_wind, hu]
  · rw [if_neg hc, if_neg (by rw [hu, hstate]; exact hc), hu]

theorem WindTurned_staysAt (s : State) (n : Nat) : WindTurned s (staysAt s n) := by
  unfold staysAt
  extract_lets u
  split
  · exact WindTurned_trans (WindTurned_setWind s _) (WindTurned_withdrawReady u)
  · exact WindTurned_setWind s _

theorem staysAt_told {n : Nat} (hw : s.wind.state = .vane) (hn : n = 0) (hr : s.wind.ready = true) {y : Sup}
    (hy : (s.port (.s y)).mask.wind = true) :
    told (staysAt s n) (.s y) (.wind .resumeWithdrawn .vane .vane s.wind.cause s.wind.manual false) := by
  have hset := setCount_vane hw n
  have hu : staysAt s n = withdrawReady (s.setWind { s.wind with stopCount := n }) := by
    unfold staysAt
    rw [hset]
    exact if_pos ⟨hw, hn⟩
  have h := withdrawReady_told (s := s.setWind { s.wind with stopCount := n }) hr hy
  have hs : (s.setWind { s.wind with stopCount := n }).wind.state = .vane := hw
  rw [hs] at h
  rw [hu]
  exact h

theorem becomesReady_wind (s : State) (n : Nat) : (becomesReady s n).wind = { setCount s.wind n with ready := true } := by
  unfold becomesReady
  rw [notifyClass_wind]
  rfl

theorem WindTurned_becomesReady (s : State) (n : Nat) : WindTurned s (becomesReady s n) :=
  WindTurned_trans (WindTurned_setWind s _) (WindTurned_notifyClass _ _ _)

theorem becomesReady_told {n : Nat} (hw : s.wind.state = .vane) {y : Sup} (hy : (s.port (.s y)).mask.wind = true) :
    told (becomesReady s n) (.s y) (.wind .resumeReady .vane .vane s.wind.cause s.wind.manual true) := by
  have hset := setCount_vane hw n
  unfold becomesReady
  rw [hset]
  have h := told_notifyClass (s.setWind { s.wind with stopCount := n, ready := true }) .wind
    (.wind .resumeReady s.wind.state s.wind.state s.wind.cause s.wind.manual true) y hy
  rw [hw] at h
  rw [← hw] at h ⊢
  exact h

theorem WindTurned_applyStep (s : State) (st : WindStep) : WindTurned s (applyStep s st) := by
  unfold applyStep
  split
  · exact WindTurned_enterStop s _
  · exact WindTurned_moveWind s _ _ _
  · exact WindTurned_moveWind s _ _ _
  · exact WindTurned_becomesReady s _
  · exact WindTurned_staysAt s _

theorem applyStep_store (s : State) (st : WindStep) : (applyStep s st).store = s.store := by
  unfold applyStep
  split
  · exact enterStop_store
  · exact moveWind_store _ _ _ _
  · exact moveWind_store _ _ _ _
  · unfold becomesReady
    rw [of_talks State.store (talks_notifyClass _ _ _) fun _ _ => rfl]
    rfl
  · unfold staysAt
    extract_lets u
    split
    · exact withdrawReady_store u
    · rfl

/-- No step but an entry into STOP changes the book. -/
theorem applyStep_booking (s : State) (st : WindStep) (hu : (s.book.live.map (·.number)).Nodup) {n : Nat} {b : Booking}
    (hb : s.booking n = some b) : (applyStep s st).booking n = some b
      ∨ (b.state = .admitted ∧ (applyStep s st).booking n = some { b with state := .landing }) := by
  unfold applyStep
  split
  · rename_i k
    rw [enterStop_booking hu hb]
    split
    · rename_i ha
      exact .inr ⟨ha, rfl⟩
    · exact .inl rfl
  · exact .inl ((booking_congr (moveWind_book _ _ _ _) n).trans hb)
  · exact .inl ((booking_congr (moveWind_book _ _ _ _) n).trans hb)
  · refine .inl (Eq.trans ?_ hb)
    unfold becomesReady
    rw [notifyClass_booking]
    rfl
  · refine .inl (Eq.trans ?_ hb)
    unfold staysAt
    extract_lets u
    split
    · unfold withdrawReady
      split
      · rw [notifyClass_booking]
        rfl
      · rfl
    · rfl

/-! ### The sample served -/

theorem WindTurned_sampleJudged (s : State) : WindTurned s (sampleJudged s) :=
  WindTurned_trans (WindTurned_sampleTold s) (WindTurned_applyStep _ _)

theorem takeSample_served (s : State) : takeSample s = compose s (eventServed s (sampleJudged s)) :=
  (takeSample_eq (s := s)).trans (WindTurned_conclude (WindTurned_sampleJudged s))

theorem sample_next (hr : s.phase = .running) : exec .sample s = .next (takeSample s).transmit := next_whenRunning hr _

theorem sample_follows (s : State) : Follows (eventServed s (sampleJudged s)) (takeSample s).transmit := by
  rw [takeSample_served]
  exact Follows_trans (Follows_compose s _) (Follows_transmit _)

theorem sample_wind (s : State) : (takeSample s).transmit.wind = (sampleJudged s).wind :=
  (sample_follows s).wind.trans (wind_of_sansBook (served_sansBook _ _))

theorem sample_grows (s : State) : Grows (sampleJudged s) (takeSample s).transmit :=
  (served_grows s _).trans (sample_follows s).grows

theorem eventServed_barred {u : State} (h : WindTurned s u) (hb : u.windBars = true) : eventServed s u = u := by
  have hcells : serveCells s u = u := serveCells_eq_self (serviceDue_steady h.cells h.envs h.map fun _ => hb)
  rw [eventServed, hcells, admissions_barred hb]

theorem sampleStep_up {g : Nat} (hg : (sampled s.meas).gust = some g)
    (h : windRank s.wind.state < windRank (windMet (sampled s.meas).active g (sampled s.meas).mean)) :
    sampleStep s = .up (windMet (sampled s.meas).active g (sampled s.meas).mean)
      (upCause (sampled s.meas) g (windMet (sampled s.meas).active g (sampled s.meas).mean)) := by
  unfold sampleStep windStep
  rw [hg]
  exact if_pos h

theorem sampleStep_calm {g : Nat} (hg : (sampled s.meas).gust = some g)
    (h : windRank (windMet (sampled s.meas).active g (sampled s.meas).mean) ≤ windRank s.wind.state) :
    sampleStep s = calmStep (sampled s.meas) s.wind s.map.params.holdoff g := by
  unfold sampleStep windStep
  rw [hg]
  exact if_neg (by omega)

end

/-- A state between CALM and STOP entered by an upward move (R114). -/
theorem sample_up {s : State} {st : WindState} {k : WindCause} (hstep : sampleStep s = .up st k) (hne : st = .alert ∨ st = .hold) :
    (takeSample s).transmit.wind = windMoved s.wind st k none
      ∧ windTold s (takeSample s).transmit s.wind.state st k s.wind.manual false := by
  have hj : sampleJudged s = moveWind (sampleTold s) st k none := by
    unfold sampleJudged
    rw [hstep]
    rcases hne with rfl | rfl <;> rfl
  have ht := moveWind_told (sampleTold s) st k none
  rw [if_neg (by rcases hne with rfl | rfl <;> nofun), sampleTold_wind] at ht
  refine ⟨by rw [sample_wind, hj, moveWind_wind, sampleTold_wind], windTold_mono ht (WindTurned_sampleTold s) ?_⟩
  rw [← hj]
  exact sample_grows s

/-- Settles O46. -/
theorem windRisesAtTheSampleThatMeetsIt : Obligations.WindRisesAtTheSampleThatMeetsIt := by
  intro g s hr m working cause hg
  have hcauseOf : ∀ st level, gustMeets m.active g st = decide (level ≤ g) → upCause m g st = cause level :=
    fun st level h => by
      show (if m.sensorCause then WindCause.sensor else if gustMeets m.active g st then .gust else .mean) = _
      rw [h]
      simp only [decide_eq_true_eq]
      rfl
  have hworking : working ↔ craneInService s = true := by
    unfold craneInService
    simp only [List.any_eq_true, Bool.and_eq_true, beq_iff_eq]
    exact ⟨fun ⟨c, h⟩ => ⟨c, mem_allCranes c, h⟩, fun ⟨c, _, h⟩ => ⟨c, h⟩⟩
  have hmean : ∀ P : Nat → Prop, [DecidablePred P] → (m.mean.any (fun v => decide (P v)) = true ↔ ∃ v, m.mean = some v ∧ P v) := by
    intro P _
    cases m.mean <;> simp
  refine ⟨fun hmet hlow => ?_, fun h1 h2 h3 hlow => ?_, fun h1 h2 h3 h4 hcalm => ?_⟩
  · have hst : windMet m.active g m.mean = .stop := if_pos (by rw [hmean]; exact hmet)
    have hstep := sampleStep_up hg (s := s) (by rw [hst]; exact hlow)
    rw [hst, hcauseOf .stop m.active.stopSet rfl] at hstep
    have hturned := WindTurned_sampleTold s
    have hj : sampleJudged s = enterStop (sampleTold s) (cause m.active.stopSet) := by
      unfold sampleJudged
      rw [hstep]
      rfl
    have hin : craneInService (sampleTold s) = craneInService s := WindTurned_inService hturned
    have hwind := sample_wind s
    rw [hj, enterStop_wind, hin, sampleTold_wind, hturned.map] at hwind
    have hgrows := sample_grows s
    rw [hj] at hgrows
    have ht := enterStop_told (s := sampleTold s) (k := cause m.active.stopSet)
    rw [sampleTold_wind] at ht
    refine ⟨_, sample_next hr, ?_⟩
    rw [hwind]
    refine ⟨?_, ?_, ?_, windTold_mono ht hturned hgrows, fun hno => ?_, fun n b hb ha => ?_,
      fun _ => ⟨fun hwork => ?_, fun hno => ?_, fun hu n b hb => ?_⟩⟩
    · split
      · exact .inl rfl
      · exact .inr rfl
    · split <;> rfl
    · split <;> simp [windMoved]
    · have htv := enterStop_told_vane (s := sampleTold s) (k := cause m.active.stopSet)
        (hin.trans (by simpa using fun h => hno (hworking.mpr h)))
      rw [sampleTold_wind] at htv
      exact windTold_mono htv hturned hgrows
    · exact bookingTold_turned (enterStop_told_landing ((booking_congr (sampleTold_book s) n).trans hb) ha) hturned hgrows
    · rw [if_pos (hworking.mp hwork)]
      exact ⟨rfl, rfl, rfl⟩
    · rw [if_neg fun h => hno (hworking.mpr h)]
      exact ⟨rfl, rfl, rfl⟩
    · have hbar : (sampleJudged s).windBars = true := by rw [hj]; exact enterStop_bars
      rw [Follows_booking (sample_follows s), eventServed_barred (WindTurned_sampleJudged s) hbar, hj]
      exact enterStop_booking (by rw [sampleTold_book]; exact hu) ((booking_congr (sampleTold_book s) n).trans hb)
  · have hst : windMet m.active g m.mean = .hold := by
      refine (if_neg ?_).trans (if_pos h3)
      rw [hmean]
      rintro (h | ⟨v, hv, hle⟩)
      · omega
      · have := h2 v hv; omega
    have hstep := sampleStep_up hg (s := s) (by rw [hst]; exact hlow)
    rw [hst, hcauseOf .hold m.active.holdSet rfl] at hstep
    have hk : cause m.active.holdSet = if m.sensorCause then .sensor else .gust := by
      show (if _ then _ else if _ then _ else _) = _
      rw [if_pos h3]
    rw [hk] at hstep
    obtain ⟨hwind, ht⟩ := sample_up hstep (.inr rfl)
    refine ⟨_, sample_next hr, ?_⟩
    rw [hwind]
    exact ⟨rfl, rfl, rfl, rfl, rfl, ht⟩
  · have hst : windMet m.active g m.mean = .alert := by
      refine (if_neg ?_).trans ((if_neg (by omega)).trans (if_pos h4))
      rw [hmean]
      rintro (h | ⟨v, hv, hle⟩)
      · omega
      · have := h2 v hv; omega
    have hstep := sampleStep_up hg (s := s) (by rw [hst, hcalm]; decide)
    rw [hst, hcauseOf .alert m.active.alertSet rfl] at hstep
    have hk : cause m.active.alertSet = if m.sensorCause then .sensor else .gust := by
      show (if _ then _ else if _ then _ else _) = _
      rw [if_pos h4]
    rw [hk] at hstep
    obtain ⟨hwind, ht⟩ := sample_up hstep (.inl rfl)
    rw [hcalm] at ht
    refine ⟨_, sample_next hr, ?_⟩
    rw [hwind]
    exact ⟨rfl, rfl, rfl, rfl, ht⟩

end Laws
end Sys2Proof.Machine

/-! SUPPORT. The calm counts (R116 to R118, R124) and the measurement state that a sample leaves (R99 to R106). -/

namespace Sys2Proof.Machine.Laws

open Sys2Proof Sys2Proof.Machine

/-! ### The calm count -/

section
variable {m : Meas} {w : WindRec} {holdoff : Bool} {g : Nat}

theorem calmStep_fails (h : calmHolds m w g = false) : calmStep m w holdoff g = .stay 0 := if_pos (by simp [h])

theorem calmStep_counts (h : calmHolds m w g = true) (hlt : calmCount w + 1 < calmPeriod m.active w.state)
    (hr : w.ready = false ∨ w.state ≠ .vane) : calmStep m w holdoff g = .stay (calmCount w + 1) :=
  (if_neg (by simp [h])).trans (if_neg (by
    rintro (h1 | ⟨h1, h2⟩)
    · omega
    · rcases hr with h3 | h3
      · rw [h2] at h3; cases h3
      · exact h3 h1))

theorem calmStep_reaches (h : calmHolds m w g = true)
    (hle : calmPeriod m.active w.state ≤ calmCount w + 1 ∨ (w.state = .vane ∧ w.ready = true)) :
    calmStep m w holdoff g = calmReached w holdoff (calmPeriod m.active w.state) :=
  (if_neg (by simp [h])).trans (if_pos hle)

theorem calmHolds_alert (hw : w.state = .alert) :
    calmHolds m w g = true ↔ m.warmup = false ∧ g < m.active.alertRel := by simp [calmHolds, hw]

theorem calmHolds_hold (hw : w.state = .hold) :
    calmHolds m w g = true ↔ m.warmup = false ∧ g < m.active.holdRel := by simp [calmHolds, hw]

theorem calmHolds_stop (hw : w.state = .stop ∨ w.state = .vane) : calmHolds m w g = true ↔
    m.warmup = false ∧ g < m.active.stopRel ∧ (∃ v, m.mean = some v ∧ v < m.active.meanRel) ∧ w.manual = false := by
  have h : calmHolds m w g = (!m.warmup && stopCalm m w g) := by
    rcases hw with hw | hw <;> simp [calmHolds, hw]
  rw [h]
  cases hm : m.mean <;> simp [stopCalm, hm, and_assoc]

end

/-! ### Steps down and counts at a sample -/

section
variable {s : State}

theorem sample_down {new : WindState} (hstep : sampleStep s = .down new) (hne : new ≠ .vane) :
    (takeSample s).transmit.wind = windMoved s.wind new s.wind.cause none
      ∧ windTold s (takeSample s).transmit s.wind.state new s.wind.cause s.wind.manual false := by
  have hj : sampleJudged s = moveWind (sampleTold s) new s.wind.cause none := by
    unfold sampleJudged
    rw [hstep, ← sampleTold_wind]
    rfl
  have ht := moveWind_told (sampleTold s) new s.wind.cause none
  rw [if_neg hne, sampleTold_wind] at ht
  refine ⟨by rw [sample_wind, hj, moveWind_wind, sampleTold_wind], windTold_mono ht (WindTurned_sampleTold s) ?_⟩
  rw [← hj]
  exact sample_grows s

theorem sample_stays {n : Nat} (hstep : sampleStep s = .stay n) : (takeSample s).transmit.wind
    = if s.wind.state = .vane ∧ n = 0 then { setCount s.wind n with ready := false } else setCount s.wind n := by
  have hj : sampleJudged s = staysAt (sampleTold s) n := by
    unfold sampleJudged
    rw [hstep]
    rfl
  rw [sample_wind, hj, staysAt_wind, sampleTold_wind]

theorem sample_stays_told (hstep : sampleStep s = .stay 0) (hw : s.wind.state = .vane) (hr : s.wind.ready = true) {y : Sup}
    (hy : (s.port (.s y)).mask.wind = true) : told (takeSample s).transmit (.s y)
      (.wind .resumeWithdrawn .vane .vane s.wind.cause s.wind.manual false) := by
  have hj : sampleJudged s = staysAt (sampleTold s) 0 := by
    unfold sampleJudged
    rw [hstep]
    rfl
  have hsame := sampleTold_wind s
  have ht := staysAt_told (s := sampleTold s) (n := 0) (y := y) (hsame ▸ hw) rfl (hsame ▸ hr)
    ((congrArg Classes.wind (mask_grows (WindTurned_sampleTold s).grows _)).trans hy)
  rw [hsame, ← hj] at ht
  exact told_grows (sample_grows s) ht

theorem sample_ready {n : Nat} (hstep : sampleStep s = .ready n) (hw : s.wind.state = .vane) :
    (takeSample s).transmit.wind = { s.wind with ready := true, stopCount := n }
      ∧ ∀ y, (s.port (.s y)).mask.wind = true → told (takeSample s).transmit (.s y)
          (.wind .resumeReady .vane .vane s.wind.cause s.wind.manual true) := by
  have hj : sampleJudged s = becomesReady (sampleTold s) n := by
    unfold sampleJudged
    rw [hstep]
    rfl
  have hsame := sampleTold_wind s
  refine ⟨?_, fun y hy => ?_⟩
  · rw [sample_wind, hj, becomesReady_wind, hsame, setCount_vane hw]
  · have ht := becomesReady_told (s := sampleTold s) (n := n) (y := y) (hsame ▸ hw)
      ((congrArg Classes.wind (mask_grows (WindTurned_sampleTold s).grows _)).trans hy)
    rw [hsame, ← hj] at ht
    exact told_grows (sample_grows s) ht

/-- The move down at a sample, with its own row (R117, R118). -/
theorem sample_moves_down {i : Instr} {occurs : Bool} {new : WindState} (hr : s.phase = .running)
    (row : exec i s = .next (whenRunning (sampleIf occurs) s)) (hoccurs : occurs = true)
    (hstep : sampleStep s = .down new) (hne : new ≠ .vane) :
    ∃ t, exec i s = .next t ∧ exec .sample s = .next t ∧ t.wind.state = new ∧ t.wind.cause = s.wind.cause
      ∧ t.wind.manual = s.wind.manual ∧ t.wind.ready = false ∧ t.wind.alertCount = 0 ∧ t.wind.holdCount = 0
      ∧ t.wind.stopCount = 0 ∧ t.wind.parkTimer = none
      ∧ windTold s t s.wind.state new s.wind.cause s.wind.manual false := by
  subst hoccurs
  obtain ⟨hwind, ht⟩ := sample_down hstep hne
  refine ⟨(takeSample s).transmit, row.trans (next_whenRunning hr _), sample_next hr, ?_⟩
  rw [hwind]
  exact ⟨rfl, rfl, rfl, if_neg hne, rfl, rfl, if_neg fun h => hne h.2, rfl, ht⟩

end

theorem movesDown_of {s : State} {st new : WindState} (hw : s.wind.state = st) (hstep : sampleStep s = .down new) :
    movesDown s st = true := by
  unfold movesDown
  rw [hw, hstep]
  simp

theorem vaneCalms_of {s : State} (hw : s.wind.state = .vane)
    (hstep : (∃ new, sampleStep s = .down new) ∨ ∃ n, sampleStep s = .ready n) : vaneCalms s = true := by
  unfold vaneCalms
  rcases hstep with ⟨_, h⟩ | ⟨_, h⟩ <;> · rw [hw, h]; rfl

/-- Settles O47. -/
theorem calmCountsBringTheWindStateDown : Obligations.CalmCountsBringTheWindStateDown := by
  intro g s hr m hg hmet w down stays alertCalm holdCalm stopCalm
  have hstep : sampleStep s = calmStep m w s.map.params.holdoff g := sampleStep_calm hg hmet
  have row : exec .sample s = .next (takeSample s).transmit := sample_next hr
  have stay : ∀ {n v}, sampleStep s = .stay n → (w.state ≠ .vane ∨ n ≠ 0) → setCount w n = v → stays v := by
    intro n v hn hne hv
    refine ⟨_, row, ?_⟩
    rw [sample_stays hn, if_neg (by rintro ⟨h1, h2⟩; exact hne.elim (· h1) (· h2))]
    exact hv
  have below : ∀ {P : Prop} {st new : WindState} {i : Instr} {count period : Nat} {v : Nat → WindRec}, w.state = st →
      st ≠ .vane → new ≠ .vane → (calmHolds m w g = true ↔ P) → calmPeriod m.active w.state = period →
      calmCount w = count → (∀ n, setCount w n = v n) → (∀ p, calmReached w s.map.params.holdoff p = .down new) →
      exec i s = .next (whenRunning (fun t => sampleIf (movesDown t st) t) s) →
      (P → period ≤ count + 1 → down i new) ∧ (P → count + 1 < period → stays (v (count + 1))) ∧ (¬P → stays (v 0)) := by
    rintro P st new i count period v hw hst hnew hcalm rfl rfl hv hreach hrow
    have hne : w.state ≠ .vane := hw ▸ hst
    refine ⟨fun hc hle => ?_, fun hc hlt => ?_, fun hc => ?_⟩
    · have hdown : sampleStep s = .down new := by
        rw [hstep, calmStep_reaches (hcalm.mpr hc) (.inl hle), hreach]
      exact sample_moves_down hr hrow (movesDown_of hw hdown) hdown hnew
    · exact stay (hstep.trans (calmStep_counts (hcalm.mpr hc) hlt (.inr hne))) (.inl hne) (hv _)
    · exact stay (hstep.trans (calmStep_fails (by simpa using fun h => hc (hcalm.mp h)))) (.inl hne) (hv _)
  have fields : ∀ {st : WindState}, w.state = st →
      calmCount w = calmCount { w with state := st } ∧ calmPeriod m.active w.state = calmPeriod m.active st
        ∧ (∀ n, setCount w n = setCount { w with state := st } n)
        ∧ ∀ p, calmReached w s.map.params.holdoff p = calmReached { w with state := st } s.map.params.holdoff p := by
    rintro st rfl
    exact ⟨rfl, rfl, fun _ => rfl, fun _ => rfl⟩
  have same : ∀ {st : WindState}, w.state = st → ({ w with state := st } : WindRec) = w := by
    rintro st rfl
    rfl
  refine ⟨fun hw => ?_, fun hw => ?_, fun hw => ?_, fun hw => ?_⟩
  · obtain ⟨hnow, hperiod, hset, hreach⟩ := fields hw
    exact below hw nofun nofun (calmHolds_alert hw) hperiod hnow (v := fun n => { w with alertCount := n })
      (fun n => (hset n).trans (by rw [← same hw]; rfl)) hreach rfl
  · obtain ⟨hnow, hperiod, hset, hreach⟩ := fields hw
    exact below hw nofun nofun (calmHolds_hold hw) hperiod hnow (v := fun n => { w with holdCount := n })
      (fun n => (hset n).trans (by rw [← same hw]; rfl)) hreach rfl
  · obtain ⟨hnow, hperiod, hset, hreach⟩ := fields hw
    exact below hw nofun nofun (calmHolds_stop (.inl hw)) hperiod hnow (v := fun n => { w with stopCount := n })
      (fun n => (hset n).trans (by rw [← same hw]; rfl)) hreach rfl
  · have hcalm := calmHolds_stop (m := m) (g := g) (.inr hw)
    have hperiod : calmPeriod m.active w.state = 4 * m.active.stopCalm := by rw [hw]; rfl
    have hnow : calmCount w = w.stopCount := by unfold calmCount; rw [hw]
    have reached : ∀ {x}, calmReached w s.map.params.holdoff (4 * m.active.stopCalm) = x → stopCalm →
        (4 * m.active.stopCalm ≤ w.stopCount + 1 ∨ w.ready = true) → sampleStep s = x := by
      intro x hx hc hle
      rw [hstep, calmStep_reaches (hcalm.mpr hc) (hle.imp (by omega) (⟨hw, ·⟩)), hperiod, hx]
    refine ⟨fun hc hready hle ho => ?_, fun hc hready hle ho => ?_, fun hc hready hlt => ?_, fun hc hready hpos => ?_,
      fun hc => ?_⟩
    · have hdown : sampleStep s = .down .hold := by
        refine reached ?_ hc (.inl hle)
        unfold calmReached
        rw [hw, hready, ho]
        rfl
      exact sample_moves_down hr rfl (vaneCalms_of hw (.inl ⟨_, hdown⟩)) hdown nofun
    · have hset : sampleStep s = .ready (4 * m.active.stopCalm) := by
        refine reached ?_ hc (.inl hle)
        unfold calmReached
        rw [hw, hready, ho]
        rfl
      have hrow : exec .resumeReady s = .next (whenRunning (fun t => sampleIf (vaneCalms t) t) s) := rfl
      refine ⟨_, hrow.trans ((next_whenRunning hr _).trans ?_), row, sample_ready hset hw⟩
      rw [vaneCalms_of hw (.inr ⟨_, hset⟩)]
      rfl
    · refine stay (hstep.trans (calmStep_counts (hcalm.mpr hc) (by omega) (.inl hready))) (.inr (by omega)) ?_
      rw [hnow]
      exact setCount_vane hw _
    · refine stay (n := 4 * m.active.stopCalm) (reached ?_ hc (.inr hready)) (.inr (by omega)) (setCount_vane hw _)
      unfold calmReached
      rw [hw, hready]
      rfl
    · have hs : sampleStep s = .stay 0 := hstep.trans (calmStep_fails (by simpa using fun h => hc (hcalm.mp h)))
      refine ⟨_, row, ?_, fun hready y hy => sample_stays_told hs hw hready hy⟩
      rw [sample_stays hs, if_pos ⟨hw, rfl⟩, setCount_vane hw]

/-! ### The measurement state at a sample -/

/-- The measurement state with the channels gated and judged and the waiting settings applied (steps 1 to 3). -/
def gatedMeas (m : Meas) : Meas := applyWaiting (gateChannels m)

theorem gatedMeas_keeps (m : Meas) : (gatedMeas m).waiting = none ∧ (gatedMeas m).ring = m.ring
    ∧ (gatedMeas m).warmup = m.warmup ∧ (gatedMeas m).accSum = m.accSum ∧ (gatedMeas m).accCount = m.accCount
    ∧ (gatedMeas m).meanRing = m.meanRing ∧ (gatedMeas m).mean = m.mean ∧ (gatedMeas m).active = m.active
    ∧ (gatedMeas m).pendingSet = m.pendingSet := by
  unfold gatedMeas applyWaiting
  split
  · rename_i h
    exact ⟨h, rfl, rfl, rfl, rfl, rfl, rfl, rfl, rfl⟩
  · exact ⟨rfl, rfl, rfl, rfl, rfl, rfl, rfl, rfl, rfl⟩

/-- The effective sample of a gated measurement state (R104). -/
def effectiveSample (q : Meas) : Nat := (largest (partSpeed q.a) (partSpeed q.b)).getD 999

/-- A sample inside a block (R106). -/
theorem sampled_inside {m : Meas} (h : m.accCount < 59) : sampled m
    = let q := gatedMeas m
      let ring := pushRing 12 m.ring (effectiveSample q)
      { q with effective := some (effectiveSample q), sensorCause := (largest (partSpeed q.a) (partSpeed q.b)).isNone,
               ring := ring, gust := some (average ring), warmup := m.warmup && decide (ring.length < 12),
               accSum := m.accSum + effectiveSample q, accCount := m.accCount + 1, gateLeft := 250 } := by
  obtain ⟨hwait, hring, hwarm, hsum, hcount, hmr, hmean, hact, hpend⟩ := gatedMeas_keeps m
  have hb : boundary (formGust (formEffective (gatedMeas m))) = false := by
    unfold boundary
    rw [show (formGust (formEffective (gatedMeas m))).accCount = (gatedMeas m).accCount from rfl, hcount]
    simpa using h
  have hblock : sampled m = { formBlock (formGust (formEffective (gatedMeas m))) with gateLeft := Config.gateMs } := rfl
  rw [hblock]
  unfold formBlock
  dsimp only
  rw [hb, if_neg nofun]
  unfold formGust formEffective effectiveSample
  dsimp only
  rw [hring, hwarm, hsum, hcount]
  rfl

/-- The sample that completes a block (R106, R110). -/
theorem sampled_boundary {m : Meas} (h : 59 ≤ m.accCount) : sampled m
    = let q := gatedMeas m
      let ring := pushRing 12 m.ring (effectiveSample q)
      let means := pushRing 40 m.meanRing ((m.accSum + effectiveSample q) / 60)
      { q with effective := some (effectiveSample q), sensorCause := (largest (partSpeed q.a) (partSpeed q.b)).isNone,
               ring := ring, gust := some (average ring), warmup := m.warmup && decide (ring.length < 12),
               accSum := 0, accCount := 0, meanRing := means, mean := some (average means),
               active := m.pendingSet.getD m.active, pendingSet := none, gateLeft := 250 } := by
  obtain ⟨hwait, hring, hwarm, hsum, hcount, hmr, hmean, hact, hpend⟩ := gatedMeas_keeps m
  have hb : boundary (formGust (formEffective (gatedMeas m))) = true := by
    unfold boundary
    rw [show (formGust (formEffective (gatedMeas m))).accCount = (gatedMeas m).accCount from rfl, hcount]
    simpa using h
  have hblock : sampled m = { formBlock (formGust (formEffective (gatedMeas m))) with gateLeft := Config.gateMs } := rfl
  rw [hblock]
  unfold formBlock
  dsimp only
  rw [hb, if_pos rfl]
  unfold formGust formEffective effectiveSample
  dsimp only
  rw [hring, hwarm, hsum, hmr, hact, hpend]
  rfl

/-- No valid channel has a speed exactly where the effective sample has none to be the largest of (R104). -/
theorem largest_isNone (q : Meas) : (largest (partSpeed q.a) (partSpeed q.b)).isNone = true
    ↔ ∀ ch, (channel q ch).status = .valid → (channel q ch).speed = none := by
  have hpart : ∀ k : ChanRec, partSpeed k = none ↔ (k.status = .valid → k.speed = none) := fun k => by
    unfold partSpeed
    split <;> simp_all
  have hnone : ∀ a b : Option Nat, (largest a b).isNone = true ↔ a = none ∧ b = none := fun a b => by
    cases a <;> cases b <;> simp [largest]
  rw [hnone, hpart, hpart]
  exact ⟨fun ⟨ha, hb⟩ ch => by cases ch <;> assumption, fun h => ⟨h .a, h .b⟩⟩

/-- What every sample leaves of a measurement state (R99 to R105). -/
theorem sampled_every (m : Meas) : (sampled m).a = (gatedMeas m).a ∧ (sampled m).b = (gatedMeas m).b
    ∧ (sampled m).effective = some (effectiveSample (gatedMeas m))
    ∧ (sampled m).sensorCause = (largest (partSpeed (gatedMeas m).a) (partSpeed (gatedMeas m).b)).isNone
    ∧ (sampled m).ring = pushRing 12 m.ring (effectiveSample (gatedMeas m))
    ∧ (sampled m).gust = some (average (sampled m).ring)
    ∧ (sampled m).warmup = (m.warmup && decide ((sampled m).ring.length < 12))
    ∧ (sampled m).gateLeft = 250 ∧ (sampled m).waiting = none := by
  have hwait := (gatedMeas_keeps m).1
  by_cases h : m.accCount < 59
  · rw [sampled_inside h]
    exact ⟨rfl, rfl, rfl, rfl, rfl, rfl, rfl, rfl, hwait⟩
  · rw [sampled_boundary (by omega)]
    exact ⟨rfl, rfl, rfl, rfl, rfl, rfl, rfl, rfl, hwait⟩

/-- A channel that is not DISABLED starts its count afresh at the end of its gate (R99, R100). -/
theorem gateChannel_gate {k : ChanRec} (h : k.status ≠ .disabled) (j : Bool) : (gateChannel k j).count = 0
    ∧ (gateChannel k j).last = some k.count ∧ (gateChannel k j).speed = some (min 999 (k.count * k.cal.k / 64)) := by
  have hvalid : ∀ (e : ChanRec) n, (validRuns e n j).count = e.count ∧ (validRuns e n j).last = e.last
      ∧ (validRuns e n j).speed = e.speed := fun e n => by
    unfold validRuns
    extract_lets high stuck
    split
    · exact ⟨rfl, rfl, rfl⟩
    · split <;> exact ⟨rfl, rfl, rfl⟩
  have hclear : ∀ (e : ChanRec) c, (clearRuns e c).count = e.count ∧ (clearRuns e c).last = e.last
      ∧ (clearRuns e c).speed = e.speed := fun e c => by
    unfold clearRuns
    extract_lets run
    split <;> exact ⟨rfl, rfl, rfl⟩
  unfold gateChannel
  split
  · rename_i hd
    exact absurd hd h
  · exact hvalid _ _
  · exact hclear _ _
  · exact hclear _ _

theorem takeSample_core (s : State) : (takeSample s).core = (s.setMeas (sampled s.meas)).core := by
  rw [takeSample_eq, conclude_core, applyStep_core]
  unfold sampleTold
  dsimp only
  rw [announceTable_core]
  exact congrArg (fun u : State => u.setMeas (sampled s.meas))
    ((announceChannels_core _ _ _).trans (announceChannels_core s.meas (gateChannels s.meas) s))

/-- Settles O44. -/
theorem sampleFormsGustAndMean : Obligations.SampleFormsGustAndMean := by
  intro s hr
  have hmeas : (takeSample s).transmit.meas = sampled s.meas := by rw [transmit_meas, takeSample_meas]
  have hturned := WindTurned_sampleJudged s
  obtain ⟨hmap, henvs, hholders, hcranes, hnext, -⟩ := WindTurned_follows hturned (sample_follows s)
  obtain ⟨ha, hb, heff, hsensor, hring, hgust, hwarm, hgate, hwait⟩ := sampled_every s.meas
  have hchan : ∀ ch, channel (sampled s.meas) ch = channel (gatedMeas s.meas) ch := fun ch => by cases ch <;> assumption
  have hgrows : Grows s (takeSample s) := by
    rw [takeSample_served]
    exact hturned.grows.trans (compose_grows s (served_grows s _))
  obtain ⟨⟨hpending, hphase, -, -, -, hclock, hholder, htake⟩, hports⟩ :=
    kept_event (s := s.setMeas (sampled s.meas)) (takeSample_core s) hgrows
  refine ⟨_, sample_next hr, fun h59 => ?_, fun ch hw hd => ?_, ?_⟩
  · have hrow : exec .blockComplete s = .next (whenRunning (fun t => sampleIf (boundary t.meas) t) s) := rfl
    refine hrow.trans ((next_whenRunning hr _).trans ?_)
    rw [sampleIf, if_pos (by simpa [boundary] using h59)]
  · rw [hmeas, channel_sampled hw, channel_gateChannels]
    exact gateChannel_gate hd _
  rw [hmeas]
  refine ⟨⟨effectiveSample (gatedMeas s.meas), heff, ?_, ?_, hring, hgust, ?_, fun h59 => ?_, fun h59 => ?_⟩, hgate, hwait, hmap,
    henvs, hholders, hcranes, hnext, ?_, fun hu n b hb' hnd => ?_, hpending, hphase.trans hr, hclock, hholder, htake, hports⟩
  · rw [ha, hb]
    rfl
  · rw [hsensor, largest_isNone]
    simp only [hchan]
  · rw [hwarm]
    simp
  · obtain ⟨-, -, -, -, -, hmr, hmean, hact, hpend⟩ := gatedMeas_keeps s.meas
    rw [sampled_inside h59]
    exact ⟨rfl, rfl, hmr, hmean, hact, hpend⟩
  · rw [sampled_boundary h59]
    exact ⟨rfl, rfl, rfl, rfl, rfl, rfl⟩
  · rw [(sample_follows s).store, store_of_sansBook (served_sansBook _ _)]
    unfold sampleJudged
    rw [applyStep_store, sampleTold_store]
    have hbound : boundary s.meas = true ↔ 59 ≤ s.meas.accCount := by simp [boundary]
    simp only [hbound]
    cases s.meas.pendingSet <;> rfl
  · have hj : (sampleJudged s).booking n = some b
        ∨ (b.state = .admitted ∧ (sampleJudged s).booking n = some { b with state := .landing }) :=
      applyStep_booking (sampleTold s) _ (by rw [sampleTold_book]; exact hu)
        ((booking_congr (sampleTold_book s) n).trans hb')
    rw [Follows_booking (sample_follows s)]
    rcases hj with hj | ⟨hadm, hj⟩
    · exact .inl (served_booking hj hnd)
    · exact .inr ⟨hadm, served_booking hj nofun⟩

end Sys2Proof.Machine.Laws

/-! SUPPORT. The composition of one crane's vane release (R87 to R91) in its turn, and the inputs PARK_SW and VANE_FB
(R38 to R41). -/

namespace Sys2Proof.Machine.Laws

open Sys2Proof Sys2Proof.Machine

/-! ### One crane's turn -/

section
variable {s : State} {c d : Crane}

theorem feedbackEvent_crane (s : State) (c d : Crane) (e : Bool) : (feedbackEvent s c e).crane d
    = if d = c ∧ (s.out c).vane = fbAsserted s c then { s.crane c with vaneFault := false } else s.crane d := by
  unfold feedbackEvent
  dsimp only
  have hcrane : ∀ u : State, u.crane c = s.crane c → ((s.crane c).vaneFault = false →
      { s.crane c with vaneFault := false } = u.crane c) := fun u hu hf => by
    rw [hu, ← hf]
  split
  · rename_i h
    rw [notifyBoth_crane, crane_modCrane]
    by_cases hd : d = c
    · rw [if_pos hd, if_pos ⟨hd, h.1⟩]
      rfl
    · rw [if_neg hd, if_neg fun h' => hd h'.1]
      rfl
  · rename_i h
    by_cases hd : d = c ∧ (s.out c).vane = fbAsserted s c
    · rw [if_pos hd, hd.1]
      refine (hcrane _ rfl ?_).symm
      simpa using fun hf => h ⟨hd.2, hf⟩
    · rw [if_neg hd]
      rfl

theorem feedbackEvent_told (e : Bool) (h : (s.out c).vane = fbAsserted s c) (hf : (s.crane c).vaneFault = true) :
    told (feedbackEvent s c e) (.c c) (.vaneFault c .cleared (s.out c).vane (fbAsserted s c)) := by
  unfold feedbackEvent
  dsimp only
  rw [if_pos ⟨h, hf⟩]
  exact (told_notifyBoth _ _ _ _).1

/-- The withheld list of a crane as its conditions have it (R88). -/
def withheldNow (s : State) (c : Crane) : List (CellNo × Crane) :=
  if vaneEligible s c = true then (jibHeld s c).map fun w => (w.1, w.2.holder) else []

/-- The state with the release line set and the withheld list told, before the feedback check (R87, R88). -/
def releaseSet (s : State) (c : Crane) : State :=
  let t := s.modOut c fun o => { o with vane := vaneLevel s c, composed := true, withheld := withheldNow s c }
  if withheldNow s c ≠ [] ∧ withheldNow s c ≠ (s.out c).withheld then
    t.notifyBoth c .wind (.vaneWithheld c (jibHeld s c)) else t

theorem composeVaneNow_eq (s : State) (c : Crane) : composeVaneNow s c = if vaneLevel s c = (s.out c).vane then
    releaseSet s c else feedbackEvent ((releaseSet s c).notifyBoth c .crane (.vaneLine c (vaneLevel s c))) c true := rfl

theorem releaseSet_crane (s : State) (c d : Crane) : (releaseSet s c).crane d = s.crane d := by
  unfold releaseSet
  dsimp only
  split
  · rw [notifyBoth_crane]
    rfl
  · rfl

theorem releaseSet_out (s : State) (c d : Crane) : (releaseSet s c).out d = if d = c then
    { s.out c with vane := vaneLevel s c, composed := true, withheld := withheldNow s c } else s.out d := by
  unfold releaseSet
  dsimp only
  split
  · rw [of_talks (fun u : State => u.out d) (talks_notifyBoth _ _ _ _) fun _ _ => rfl, out_modOut]
  · rw [out_modOut]

theorem releaseSet_grows (s : State) (c : Crane) : Grows s (releaseSet s c) := by
  unfold releaseSet
  dsimp only
  split
  · refine notifyBoth_grows ?_ _ _ _
    exact (Grows.refl s).ports rfl
  · exact (Grows.refl s).ports rfl

/-- Another crane's composition leaves a crane's record of the output unit and of the crane table. -/
theorem composeVaneNow_other (h : d ≠ c) : (composeVaneNow s c).out d = s.out d
    ∧ (composeVaneNow s c).crane d = s.crane d := by
  rw [composeVaneNow_eq]
  split
  · rw [releaseSet_out, releaseSet_crane, if_neg h]
    exact ⟨rfl, rfl⟩
  · rw [feedbackEvent_out, feedbackEvent_crane, if_neg h, if_neg fun h' => h h'.1, notifyBoth_out, notifyBoth_crane,
      releaseSet_out, releaseSet_crane, if_neg h]
    exact ⟨rfl, rfl⟩

theorem composeVane_other (s0 : State) (h : d ≠ c) : (composeVane s0 s c).out d = s.out d
    ∧ (composeVane s0 s c).crane d = s.crane d := by
  unfold composeVane
  split
  · exact composeVaneNow_other h
  · exact ⟨rfl, rfl⟩

theorem foldl_composeVane_other (s0 : State) (l : List Crane) (h : d ∉ l) (s : State) :
    (l.foldl (composeVane s0) s).out d = s.out d ∧ (l.foldl (composeVane s0) s).crane d = s.crane d := by
  induction l generalizing s with
  | nil => exact ⟨rfl, rfl⟩
  | cons c l ih =>
    obtain ⟨h1, h2⟩ := ih (fun hm => h (List.mem_cons_of_mem c hm)) (composeVane s0 s c)
    obtain ⟨h3, h4⟩ := composeVane_other (s := s) s0 (c := c) (d := d) fun e => h (e ▸ List.mem_cons_self)
    exact ⟨h1.trans h3, h2.trans h4⟩

/-- In its turn a crane with an occasion is composed on a state that has what the event left of it. -/
theorem compose_at (s0 u : State) (c : Crane) (ho : vaneOccasion s0 u c = true) :
    ∃ v, v.sansOutputs = u.sansOutputs ∧ v.crane c = u.crane c
      ∧ v.out c = { u.out c with src := sourceSets u c, lines := unionOf (sourceSets u c) }
      ∧ (compose s0 u).out c = (composeVaneNow v c).out c ∧ (compose s0 u).crane c = (composeVaneNow v c).crane c
      ∧ Grows (composeVaneNow v c) (compose s0 u) := by
  obtain ⟨a, b, hab⟩ := List.mem_iff_append.mp (mem_allCranes c)
  have hnd : (a ++ c :: b).Nodup := hab ▸ List.nodup_finRange 8
  obtain ⟨-, hb, hdis⟩ := List.nodup_append.mp hnd
  have hca : c ∉ a := fun h => hdis c h c List.mem_cons_self rfl
  generalize hw : allCranes.foldl composeLines u = w
  have hsans : w.sansOutputs = u.sansOutputs := hw ▸ foldl_keeps State.sansOutputs composeLines composeLines_sansOutputs _ _
  have hcrane : w.crane c = u.crane c := hw ▸ foldl_keeps (fun x : State => x.crane c) composeLines (fun x e => by
      unfold composeLines
      dsimp only
      split
      · rfl
      · rw [notify_crane]; rfl) _ _
  have hout : w.out c = { u.out c with src := sourceSets u c, lines := unionOf (sourceSets u c) } := by
    rw [← hw, foldl_composeLines_out, if_pos (mem_allCranes c)]
  have hv : (a.foldl (composeVane s0) w).sansOutputs = u.sansOutputs :=
    (foldl_keeps State.sansOutputs (composeVane s0) (composeVane_sansOutputs s0) a w).trans hsans
  have hturn : composeVane s0 (a.foldl (composeVane s0) w) c = composeVaneNow (a.foldl (composeVane s0) w) c :=
    if_pos (by rw [vaneOccasion_congr hv, ho, Bool.or_true])
  obtain ⟨ha1, ha2⟩ := foldl_composeVane_other s0 a hca w
  obtain ⟨hb1, hb2⟩ := foldl_composeVane_other s0 b (List.nodup_cons.mp hb).1 (composeVaneNow (a.foldl (composeVane s0) w) c)
  have hcomp : composeOuts s0 u = b.foldl (composeVane s0) (composeVaneNow (a.foldl (composeVane s0) w) c) := by
    unfold composeOuts
    rw [hw, hab, List.foldl_append, List.foldl_cons, hturn]
  refine ⟨_, hv, ha2.trans hcrane, ha1.trans hout, ?_, ?_, ?_⟩
  · rw [compose_eq, updateSignals_out, hcomp, hb1]
  · rw [compose_eq, updateSignals_keeps (fun x : State => x.crane c) (fun _ _ _ => rfl) (fun _ _ => rfl), hcomp, hb2]
  · rw [compose_eq, hcomp]
    exact updateSignals_grows (foldl_composeVane_grows s0 b (Grows.refl _))

end

/-! ### What a composition leaves of a crane -/

theorem vaneEligible_congr {s t : State} (h : t.sansOutputs = s.sansOutputs) (c : Crane) :
    vaneEligible t c = vaneEligible s c := by
  have e : ∀ u : State, vaneEligible u.sourceView c = vaneEligible u c := fun u => by
    simp only [vaneEligible, view_crane_parkSw, view_crane_duty]
    rfl
  rw [← e, sourceView_of h, e]

theorem vaneEligible_transmit (s : State) (c : Crane) : vaneEligible s.transmit c = vaneEligible s c := by
  unfold vaneEligible State.decl
  simp only [transmit_crane, transmit_map, transmit_wind]

theorem jibHeld_transmit (s : State) (c : Crane) : jibHeld s.transmit c = jibHeld s c := by
  unfold jibHeld isJib State.member
  simp only [transmit_cell, transmit_map]

theorem jibHeld_congr {s t : State} (h : t.sansOutputs = s.sansOutputs) (c : Crane) : jibHeld t c = jibHeld s c :=
  of_sansOutputs (fun u : State => jibHeld u c) h fun _ => rfl

section
variable {s0 u : State} {c : Crane}

/-- The release of a crane with an occasion, composed (R87 to R91). -/
theorem compose_release (ho : vaneOccasion s0 u c = true) :
    ((compose s0 u).out c).composed = true ∧ ((compose s0 u).out c).vane = vaneLevel u c
      ∧ ((compose s0 u).out c).withheld = withheldNow u c
      ∧ (withheldNow u c ≠ [] → withheldNow u c ≠ (u.out c).withheld →
          told (compose s0 u) (.c c) (.vaneWithheld c (jibHeld u c)))
      ∧ (vaneLevel u c = (u.out c).vane → ((compose s0 u).out c).check = (u.out c).check
          ∧ (compose s0 u).crane c = u.crane c)
      ∧ (vaneLevel u c ≠ (u.out c).vane → told (compose s0 u) (.c c) (.vaneLine c (vaneLevel u c))
          ∧ ((compose s0 u).out c).check = checkAfter (vaneLevel u c) (fbAsserted u c) true (u.out c).check
          ∧ (compose s0 u).crane c
            = if vaneLevel u c = fbAsserted u c then { u.crane c with vaneFault := false } else u.crane c) := by
  obtain ⟨v, hsans, hcrane, hvout, hout, hk, hgrows⟩ := compose_at s0 u c ho
  have hlevel : vaneLevel v c = vaneLevel u c := vaneLevel_congr (sourceView_of hsans) c
  have hheld : jibHeld v c = jibHeld u c := jibHeld_congr hsans c
  have hnow : withheldNow v c = withheldNow u c := by
    unfold withheldNow
    rw [vaneEligible_congr hsans, hheld]
  have hfb : fbAsserted v c = fbAsserted u c := by unfold fbAsserted; rw [hcrane]
  have hset : (releaseSet v c).out c = { v.out c with vane := vaneLevel u c, composed := true, withheld := withheldNow u c } := by
    rw [releaseSet_out, if_pos rfl, hlevel, hnow]
  have hvane : (v.out c).vane = (u.out c).vane := by rw [hvout]
  have htold : withheldNow u c ≠ [] → withheldNow u c ≠ (u.out c).withheld →
      told (releaseSet v c) (.c c) (.vaneWithheld c (jibHeld u c)) := fun h1 h2 => by
    unfold releaseSet
    dsimp only
    rw [if_pos (by rw [hnow, hvout]; exact ⟨h1, h2⟩), hheld]
    exact (told_notifyBoth _ _ _ _).1
  by_cases hl : vaneLevel u c = (u.out c).vane
  · have heq : composeVaneNow v c = releaseSet v c := by
      rw [composeVaneNow_eq, hlevel, hvane, if_pos hl]
    rw [heq] at hout hk hgrows
    rw [hout, hk, hset, releaseSet_crane]
    exact ⟨rfl, rfl, rfl, fun h1 h2 => told_grows hgrows (htold h1 h2), fun _ => ⟨by rw [hvout], hcrane⟩,
      fun h => absurd hl h⟩
  · generalize hw : (releaseSet v c).notifyBoth c .crane (.vaneLine c (vaneLevel u c)) = w
    have heq : composeVaneNow v c = feedbackEvent w c true := by
      rw [composeVaneNow_eq, hlevel, hvane, if_neg hl, hw]
    have hwout : w.out c = (releaseSet v c).out c := by rw [← hw, notifyBoth_out]
    have hwcrane : w.crane c = u.crane c := by rw [← hw, notifyBoth_crane, releaseSet_crane, hcrane]
    have hwfb : fbAsserted w c = fbAsserted u c := by unfold fbAsserted; rw [hwcrane]
    have hwgrows : Grows w (compose s0 u) := by
      refine Grows.trans ?_ hgrows
      rw [heq]
      exact feedbackEvent_grows (Grows.refl w) c true
    rw [heq] at hout hk
    rw [hout, hk, feedbackEvent_out, if_pos rfl, feedbackEvent_crane, hwout, hset, hwfb, hwcrane]
    refine ⟨rfl, rfl, rfl, fun h1 h2 => told_grows hwgrows (told_grows ?_ (htold h1 h2)), fun h => absurd h hl, fun _ =>
      ⟨told_grows hwgrows ?_, by rw [hvout], ?_⟩⟩
    · rw [← hw]
      exact notifyBoth_grows (Grows.refl _) _ _ _
    · rw [← hw]
      exact (told_notifyBoth _ _ _ _).1
    · simp

end

/-! ### PARK_SW -/

section
variable {s : State} {c : Crane} {level : Bool}

/-- The state with the level of PARK_SW taken and told. -/
def parkSwTold (s : State) (c : Crane) (level : Bool) : State :=
  tellParkLost c level (tellEdge c .parkSw (s.crane c).parkSel (s.crane c).parkSw level
    (s.modCrane c fun r => { r with parkSw := levelOf level }))

theorem talks_tellEdge (u : State) (i : Input) (e : EdgeSel) (old : Level) : Talks u (tellEdge c i e old level u) := by
  unfold tellEdge
  split
  · exact talks_notifyBoth _ _ _ _
  · exact Talks.refl u

theorem tellEdge_grows (u : State) (i : Input) (e : EdgeSel) (old : Level) : Grows u (tellEdge c i e old level u) := by
  unfold tellEdge
  split
  · exact notifyBoth_grows (Grows.refl u) _ _ _
  · exact Grows.refl u

theorem tellEdge_told {u : State} {i : Input} {e : EdgeSel} {old : Level} (h1 : old ≠ .unsettled)
    (h2 : includesEdge e level = true) : told (tellEdge c i e old level u) (.c c) (.input c i level) := by
  unfold tellEdge
  rw [if_pos ⟨h1, h2⟩]
  exact (told_notifyBoth _ _ _ _).1

theorem talks_tellParkLost (u : State) : Talks u (tellParkLost c level u) := by
  unfold tellParkLost
  split
  · exact talks_notifyBoth _ _ _ _
  · exact Talks.refl u

theorem tellParkLost_grows (u : State) : Grows u (tellParkLost c level u) := by
  unfold tellParkLost
  split
  · exact notifyBoth_grows (Grows.refl u) _ _ _
  · exact Grows.refl u

theorem talks_parkSwTold : Talks (s.modCrane c fun r => { r with parkSw := levelOf level }) (parkSwTold s c level) :=
  (talks_tellEdge _ _ _ _).trans (talks_tellParkLost _)

theorem parkSwTold_crane (d : Crane) : (parkSwTold s c level).crane d
    = if d = c then { s.crane c with parkSw := levelOf level } else s.crane d := by
  rw [of_talks (fun u : State => u.crane d) talks_parkSwTold fun _ _ => rfl, crane_modCrane]

theorem parkSwTaken_eq (h : (s.crane c).parkSw ≠ levelOf level) :
    parkSwTaken c level s = compose s (parkSwTold s c level) := if_neg h

theorem checkAfter_line (line fb : Bool) (k : Check) : checkAfter line fb true k
    = if line = fb then .idle else if line = true then .releaseWait 10000 else .applyWait 10000 := by
  unfold checkAfter
  split
  · rfl
  · cases line <;> cases k <;> rfl

theorem tellEdge_sansOutputs (u : State) (i : Input) (e : EdgeSel) (old : Level) :
    (tellEdge c i e old level u).sansOutputs = u.sansOutputs := by
  unfold tellEdge
  split
  · exact notifyBoth_sansOutputs _ _ _ _
  · rfl

theorem tellParkLost_sansOutputs (u : State) : (tellParkLost c level u).sansOutputs = u.sansOutputs := by
  unfold tellParkLost
  split
  · exact notifyBoth_sansOutputs _ _ _ _
  · rfl

theorem modCrane_grows (s : State) (c : Crane) (f : CraneRec → CraneRec) : Grows s (s.modCrane c f) :=
  (Grows.refl s).ports rfl

/-- What a composed change of one crane's record leaves alone. -/
theorem inputTaken_keeps {f : CraneRec → CraneRec} {u : State} (hu : u.sansOutputs = (s.modCrane c f).sansOutputs)
    (hs : u.sigs = s.sigs) (hg : Grows s u) : let t := (compose s u).transmit
    t.map = s.map ∧ t.cells = s.cells ∧ t.envs = s.envs ∧ t.wind = s.wind ∧ t.book = s.book ∧ t.store = s.store
      ∧ keepsSite s t ∧ keepsPorts none s t ∧ keepsCranes (some c) s t := by
  have hsans : (compose s u).sansOutputs = (s.modCrane c f).sansOutputs := (compose_sansOutputs s u).trans hu
  have hcore : (compose s u).core = s.core := (core_of_sansOutputs hsans).trans (modCrane_core s c f)
  obtain ⟨hsite, hports⟩ := kept_event hcore (compose_grows s hg)
  have hf : Follows (s.modCrane c f) (compose s u) :=
    ⟨of_sansOutputs State.cells hsans fun _ => rfl, of_sansOutputs State.book hsans fun _ => rfl,
      of_sansOutputs State.envs hsans fun _ => rfl, of_sansOutputs State.map hsans fun _ => rfl,
      of_sansOutputs State.wind hsans fun _ => rfl, of_sansOutputs State.store hsans fun _ => rfl,
      sansFault_of_sansOutputs hsans, fun l => (compose_sig_cfg s u l).trans (by unfold State.sig; rw [hs]; rfl),
      compose_grows s hg⟩
  have hft := Follows_trans hf (Follows_transmit (compose s u))
  refine ⟨hft.map, hft.cells, hft.envs, hft.wind, hft.book, hft.store, hsite, hports, keepsCranes_of hft fun d hd => ?_⟩
  rw [crane_modCrane, if_neg fun e => hd (congrArg some e)]
  exact ⟨rfl, fun _ => rfl⟩

theorem parkSwTold_grows : Grows s (parkSwTold s c level) :=
  ((modCrane_grows s c _).trans (tellEdge_grows _ _ _ _)).trans (tellParkLost_grows _)

theorem parkSwTold_told : ((s.crane c).parkSw ≠ .unsettled → includesEdge (s.crane c).parkSel level = true →
      told (parkSwTold s c level) (.c c) (.input c .parkSw level))
    ∧ (level = false → standsParked (s.crane c).duty = true →
      told (parkSwTold s c level) (.c c) (.parkLost c (s.crane c).duty)) := by
  refine ⟨fun h1 h2 => told_grows (tellParkLost_grows _) (tellEdge_told h1 h2), fun h1 h2 => ?_⟩
  have hduty : ((tellEdge c .parkSw (s.crane c).parkSel (s.crane c).parkSw level
      (s.modCrane c fun r => { r with parkSw := levelOf level })).crane c).duty = (s.crane c).duty := by
    rw [of_talks (fun u : State => u.crane c) (talks_tellEdge _ _ _ _) fun _ _ => rfl, crane_modCrane, if_pos rfl]
  unfold parkSwTold tellParkLost
  rw [hduty, if_pos ⟨h1, h2⟩]
  exact (told_notifyBoth _ _ _ _).1

/-! ### VANE_FB -/

/-- The state with the level of VANE_FB taken and told. -/
def vaneFbTold (s : State) (c : Crane) (level : Bool) : State :=
  tellEdge c .vaneFb (s.crane c).vaneSel (s.crane c).vaneFb level
    (s.modCrane c fun r => { r with vaneFb := levelOf level })

theorem vaneFbTaken_eq (h : (s.crane c).vaneFb ≠ levelOf level) :
    vaneFbTaken c level s = compose s (feedbackEvent (vaneFbTold s c level) c false) := if_neg h

theorem vaneFbTold_crane (d : Crane) : (vaneFbTold s c level).crane d
    = if d = c then { s.crane c with vaneFb := levelOf level } else s.crane d := by
  unfold vaneFbTold
  rw [of_talks (fun u : State => u.crane d) (talks_tellEdge _ _ _ _) fun _ _ => rfl, crane_modCrane]

theorem vaneFbTold_out (d : Crane) : (vaneFbTold s c level).out d = s.out d := by
  unfold vaneFbTold
  rw [of_talks (fun u : State => u.out d) (talks_tellEdge _ _ _ _) fun _ _ => rfl]
  rfl

theorem vaneFbTold_sigs (s : State) (c : Crane) (level : Bool) : (vaneFbTold s c level).sigs = s.sigs := by
  unfold vaneFbTold
  rw [of_talks State.sigs (talks_tellEdge _ _ _ _) fun _ _ => rfl]
  rfl

theorem feedbackEvent_sigs (s : State) (c : Crane) (e : Bool) : (feedbackEvent s c e).sigs = s.sigs := by
  unfold feedbackEvent
  dsimp only
  split
  · rw [of_talks State.sigs (talks_notifyBoth _ _ _ _) fun _ _ => rfl]
    rfl
  · rfl

theorem vaneFbTold_fb : fbAsserted (vaneFbTold s c level) c = level := by
  unfold fbAsserted
  rw [vaneFbTold_crane, if_pos rfl]
  cases level <;> rfl

theorem checkAfter_edge (line fb : Bool) : checkAfter line fb false .idle
    = if line = fb then .idle else if line = true then .releaseWait 10000 else .applyWait 10000 := by
  unfold checkAfter
  split
  · rfl
  · cases line <;> rfl

/-- A level of VANE_FB is no occasion of R87. -/
theorem vaneOccasion_vaneFb (d : Crane) : vaneOccasion s (feedbackEvent (vaneFbTold s c level) c false) d = false := by
  have hu : (feedbackEvent (vaneFbTold s c level) c false).sansOutputs
      = (s.modCrane c fun r => { r with vaneFb := levelOf level }).sansOutputs :=
    (feedbackEvent_sansOutputs _ _ _).trans (tellEdge_sansOutputs _ _ _ _)
  rw [vaneOccasion_congr hu]
  have hcrane : ((s.modCrane c fun r => { r with vaneFb := levelOf level }).crane d).parkSw = (s.crane d).parkSw
      ∧ ((s.modCrane c fun r => { r with vaneFb := levelOf level }).crane d).duty = (s.crane d).duty := by
    rw [crane_modCrane]
    split
    · rename_i e
      rw [e]
      exact ⟨rfl, rfl⟩
    · exact ⟨rfl, rfl⟩
  have hcell : ∀ x, (s.modCrane c fun r => { r with vaneFb := levelOf level }).cell x = s.cell x := fun _ => rfl
  have hwind : (s.modCrane c fun r => { r with vaneFb := levelOf level }).wind = s.wind := rfl
  unfold vaneOccasion
  rw [hcrane.1, hcrane.2, hwind]
  simp [hcell]

/-- A level of VANE_FB changes no release level. -/
theorem vaneLevel_vaneFb (d : Crane) : vaneLevel (feedbackEvent (vaneFbTold s c level) c false) d = vaneLevel s d := by
  have hu : (feedbackEvent (vaneFbTold s c level) c false).sansOutputs
      = (s.modCrane c fun r => { r with vaneFb := levelOf level }).sansOutputs :=
    (feedbackEvent_sansOutputs _ _ _).trans (tellEdge_sansOutputs _ _ _ _)
  refine (vaneLevel_congr (sourceView_of hu) d).trans ?_
  have hcrane : ((s.modCrane c fun r => { r with vaneFb := levelOf level }).crane d).parkSw = (s.crane d).parkSw
      ∧ ((s.modCrane c fun r => { r with vaneFb := levelOf level }).crane d).duty = (s.crane d).duty := by
    rw [crane_modCrane]
    split
    · rename_i e
      rw [e]
      exact ⟨rfl, rfl⟩
    · exact ⟨rfl, rfl⟩
  unfold vaneLevel vaneEligible
  rw [hcrane.1, hcrane.2]
  rfl

end

/-- Settles O31. -/
theorem inputLevelsAreTakenWithTheirNotices : Obligations.InputLevelsAreTakenWithTheirNotices := by
  intro c level s hr
  refine ⟨fun h => ?_, fun h => ?_⟩
  · have hu : (parkSwTold s c level).sansOutputs = (s.modCrane c fun r => { r with parkSw := levelOf level }).sansOutputs :=
      (tellParkLost_sansOutputs _).trans (tellEdge_sansOutputs _ _ _ _)
    have hcrane : (parkSwTold s c level).crane c = { s.crane c with parkSw := levelOf level } := by
      rw [parkSwTold_crane, if_pos rfl]
    have hout : (parkSwTold s c level).out c = s.out c :=
      (of_talks (fun u : State => u.out c) talks_parkSwTold fun _ _ => rfl).trans rfl
    have hocc : vaneOccasion s (parkSwTold s c level) c = true := by
      unfold vaneOccasion
      rw [hcrane]
      simp [h]
    obtain ⟨hcomposed, hvane, hwith, htold, hsame, hmoved⟩ := compose_release (s0 := s) hocc
    have hkept := compose_sansOutputs s (parkSwTold s c level)
    have hafter := inputTaken_keeps hu ((of_talks State.sigs talks_parkSwTold fun _ _ => rfl).trans rfl) parkSwTold_grows
    have hfault := sansFault_of_sansOutputs hkept c
    rw [hcrane] at hfault
    have helig : vaneEligible (compose s (parkSwTold s c level)).transmit c = vaneEligible (parkSwTold s c level) c :=
      (vaneEligible_transmit _ c).trans (vaneEligible_congr hkept c)
    have hheld : jibHeld (compose s (parkSwTold s c level)).transmit c = jibHeld (parkSwTold s c level) c :=
      (jibHeld_transmit _ c).trans (jibHeld_congr hkept c)
    have hfb : fbAsserted (parkSwTold s c level) c = fbAsserted s c := by unfold fbAsserted; rw [hcrane]
    have htransmit := transmit_grows (compose s (parkSwTold s c level))
    have hgrows := (compose_grows s (Grows.refl (parkSwTold s c level))).trans htransmit
    obtain ⟨hinput, hlost⟩ := parkSwTold_told (s := s) (c := c) (level := level)
    rw [hout] at htold hsame hmoved
    refine ⟨(compose s (parkSwTold s c level)).transmit, ?_, ?_⟩
    · exact (next_whenRunning hr _).trans (by rw [parkSwTaken_eq h])
    rw [helig, hheld, transmit_crane, transmit_out, hvane, hwith]
    simp only [CraneRec.sansFault, CraneRec.mk.injEq] at hfault
    obtain ⟨hreport, -, hlink, -, hduty, hpark, hfbk, -⟩ := hfault
    refine ⟨hpark, hduty, hlink, hfbk, hreport, fun h1 h2 => told_grows hgrows (hinput h1 h2),
      fun h1 h2 => told_grows hgrows (hlost h1 h2), hcomposed, rfl, rfl, fun h1 h2 => told_grows htransmit (htold h1 h2),
      fun hv => ?_, fun hv => ?_, hafter⟩
    · obtain ⟨h1, h2⟩ := hsame hv
      rw [h1, h2, hcrane]
      exact ⟨rfl, rfl⟩
    · obtain ⟨h1, h2, h3⟩ := hmoved hv
      have hagree : (vaneLevel (parkSwTold s c level) c = fbAsserted s c)
          ↔ (vaneLevel (parkSwTold s c level) c = true ↔ (s.crane c).vaneFb = .asserted) := by
        rw [Bool.eq_iff_iff]
        simp [fbAsserted]
      rw [hfb, checkAfter_line] at h2
      rw [hfb] at h3
      refine ⟨told_grows htransmit h1, fun ha => ?_, fun ha => ?_⟩
      · rw [h2, h3, if_pos (hagree.mpr ha), if_pos (hagree.mpr ha)]
        exact ⟨rfl, rfl⟩
      · rw [h2, h3, if_neg fun e => ha (hagree.mp e), if_neg fun e => ha (hagree.mp e), hcrane]
        exact ⟨rfl, rfl⟩
  · generalize hu : feedbackEvent (vaneFbTold s c level) c false = u
    have hsans : u.sansOutputs = (s.modCrane c fun r => { r with vaneFb := levelOf level }).sansOutputs :=
      hu ▸ (feedbackEvent_sansOutputs _ _ _).trans (tellEdge_sansOutputs _ _ _ _)
    have hgv : Grows (vaneFbTold s c level) u := hu ▸ feedbackEvent_grows (Grows.refl _) c false
    have hgrows : Grows s u := ((modCrane_grows s c _).trans (tellEdge_grows _ _ _ _)).trans hgv
    have hgt := (compose_grows s (Grows.refl u)).trans (transmit_grows (compose s u))
    have hafter := inputTaken_keeps hsans (hu ▸ feedbackEvent_sigs _ _ _ |>.trans (vaneFbTold_sigs s c level)) hgrows
    have hfault : ((compose s u).crane c).sansFault = ({ s.crane c with vaneFb := levelOf level } : CraneRec).sansFault := by
      rw [sansFault_of_sansOutputs ((compose_sansOutputs s u).trans hsans) c, crane_modCrane, if_pos rfl]
    refine ⟨(compose s u).transmit, ?_, ?_⟩
    · exact (next_whenRunning hr _).trans (by rw [vaneFbTaken_eq h, hu])
    rw [transmit_crane, transmit_out]
    simp only [CraneRec.sansFault, CraneRec.mk.injEq] at hfault
    obtain ⟨hreport, -, hlink, -, hduty, hpark, hfbk, -⟩ := hfault
    refine ⟨hfbk, hduty, hlink, hpark, hreport, fun h1 h2 => told_grows hgt (told_grows hgv (tellEdge_told h1 h2)),
      fun hv => ?_, hafter⟩
    have hout : ∀ d, u.out d = if d = c then { s.out c with check := checkAfter (s.out c).vane level false (s.out c).check }
        else s.out d := fun d => by
      rw [← hu, feedbackEvent_out, vaneFbTold_out, vaneFbTold_out, vaneFbTold_fb]
    have hcrane : u.crane c = if (s.out c).vane = level then { s.crane c with vaneFb := levelOf level, vaneFault := false }
        else { s.crane c with vaneFb := levelOf level } := by
      rw [← hu, feedbackEvent_crane, vaneFbTold_out, vaneFbTold_fb, vaneFbTold_crane, if_pos rfl]
      simp
    have hsteady : ∀ d, (u.out d).composed = true → (u.out d).vane = vaneLevel u d := fun d hd => by
      rw [← hu, vaneLevel_vaneFb, hu]
      rw [hout] at hd ⊢
      by_cases hdc : d = c
      · subst hdc
        rw [if_pos rfl] at hd ⊢
        exact hv hr d hd
      · rw [if_neg hdc] at hd ⊢
        exact hv hr d hd
    obtain ⟨hsc, hcheck, hvane⟩ := compose_steady (s0 := s) (s := u) (fun d => hu ▸ vaneOccasion_vaneFb d) hsteady c
    rw [hvane, hcheck, hsc, hout, if_pos rfl, hcrane]
    refine ⟨rfl, fun he => ⟨?_, ?_, fun hf => ?_⟩, fun hne => ⟨?_, fun hi => ?_⟩⟩
    · rw [he]
      exact if_pos rfl
    · rw [if_pos he]
    · have hline : ((vaneFbTold s c level).out c).vane = fbAsserted (vaneFbTold s c level) c := by
        rw [vaneFbTold_out, vaneFbTold_fb, he]
      have ht := feedbackEvent_told false hline (by rw [vaneFbTold_crane, if_pos rfl]; exact hf)
      rw [hu, hline, vaneFbTold_fb] at ht
      exact told_grows hgt ht
    · rw [if_neg hne]
    · show checkAfter _ level false (s.out c).check = _
      rw [hi, checkAfter_edge, if_neg hne]

end Sys2Proof.Machine.Laws

/-! SUPPORT. What the service of an event leaves of a cell whose head it has changed (R68, R76, R150): of a FREE one, of
one that is released, of a HELD one. -/

namespace Sys2Proof.Machine

/-- The claims of a list are those of DUE bookings that name the cell (R63, R64). -/
def claimsKnown (u : State) (x : CellNo) (l : List Entry) : Prop :=
  ∀ e ∈ l, isRequest e = true ∨ ∃ b, dueNaming u x b ∧ e = .claim b.number b.crane b.start

/-- An operation has left the cell FREE with the list `l`, and its head is to be served (R68). A request at its head is
the one that stood there where the cell was HELD before. -/
structure NewHead (s u : State) (x : CellNo) (l : List Entry) : Prop where
  cell : u.cell x = ⟨none, none, l, .idle⟩
  map : u.map = s.map
  wind : u.wind = s.wind
  grows : Grows s u
  serves : serviceDue s u x = true
  occasion : cellOccasion s u x = true
  former : ∀ e rest, l = e :: rest → isRequest e = true → (s.cell x).grant = none ∨ (s.cell x).list.head? = some e
  claims : cellClaimsDue s x → claimsKnown u x l

/-- `u` is `s` with cells in which `P` holds changed, and notices told: the part of a request or a timer that comes
before the service of its event. -/
structure CellsOnly (P : CellNo → Prop) (s u : State) : Prop where
  rest : u.sansCells = s.sansCells
  other : ∀ y, ¬P y → u.cell y = s.cell y
  grows : Grows s u

namespace Laws

/-! ### Claims -/

theorem headClaim_iff (n : Nat) (l : List Entry) : headClaim n l = true ↔ ∃ d, claimAt l = some (n, d) := by
  cases l with
  | nil => simp [headClaim, claimAt]
  | cons e l => cases e <;> simp [headClaim, claimAt, isClaimOf]

theorem claimAt_known {u : State} {x : CellNo} {l : List Entry} (h : claimsKnown u x l) {n : Nat} {d : Crane}
    (hc : claimAt l = some (n, d)) : ∃ b, dueNaming u x b ∧ b.number = n ∧ b.crane = d := by
  cases l with
  | nil => cases hc
  | cons e l =>
    cases e with
    | claim m c v =>
      obtain ⟨rfl, rfl⟩ : m = n ∧ c = d := by simpa [claimAt] using hc
      rcases h _ List.mem_cons_self with h | ⟨b, hb, he⟩
      · cases h
      · cases he
        exact ⟨b, hb, rfl, rfl⟩
    | entry => cases hc
    | auto => cases hc

/-! ### A booking that has entered -/

section
variable {v w : State} {b : Booking} {x : CellNo} {k : CellRec}

theorem Enters_claims (h : Enters v w b) (hx : x ∈ b.cells) (hk : v.cell x = k) :
    k.covered = some b.number ∨ ∃ d, claimAt k.list = some (b.number, d) := by
  obtain ⟨-, -, hc⟩ := h.ready.2 x hx
  rw [hk] at hc
  exact hc.imp_right (headClaim_iff _ _).mp

theorem Enters_holder (h : Enters v w b) (hx : x ∈ b.cells) {g : Grant} (hg : (v.cell x).grant = some g) :
    g.holder = b.crane := by
  rcases (h.ready.2 x hx).2.1 with hh | ⟨hn, -⟩
  · simpa [State.holds, hg] using hh
  · rw [hg] at hn; cases hn

theorem enteredBooked_of (h : Enters v w b) (hx : x ∈ b.cells) (hk : v.cell x = k) :
    enteredBooked w x b.number b.crane k.list k.covered := by
  refine ⟨by rw [bookStateOf, h.booked]; rfl, ?_⟩
  rw [h.cells x hx, hk]
  unfold admittedCell
  cases hc : k.covered with
  | none => rfl
  | some n =>
    by_cases e : n = b.number
    · simp [e, Option.filter]
    · simp [e, Option.filter]

theorem enteredBooked_follows (hf : Follows v w) {n : Nat} {c : Crane} {l : List Entry} {o : Option Nat}
    (h : enteredBooked v x n c l o) : enteredBooked w x n c l o := by
  unfold enteredBooked bookStateOf at h ⊢
  rwa [Follows_booking hf, Follows_cell hf]

end

/-! ### No booking left ready -/

section
variable {s u t : State} {x : CellNo}

/-- An occasion of admission at a cell leaves no booking of it ready (R150). -/
theorem noneLeftReady_of (hf : Follows (eventServed s u) t) (ho : cellOccasion s (serveCells s u) x = true) :
    noneLeftReady t x := by
  intro n b hb hd hx hc
  rw [Follows_booking hf] at hb
  refine admissions_exhaust hb hd ?_ ((Follows_canBeAdmitted hf b).mp hc)
  have : b.cells.any (cellOccasion s (serveCells s u)) = true := List.any_eq_true.mpr ⟨x, hx, ho⟩
  simp [admissionDue, this]

/-- A cell on which no claim stands, covered or at the head, has no booking ready. -/
theorem noneLeftReady_unclaimed (h1 : (t.cell x).covered = none) (h2 : claimAt (t.cell x).list = none) :
    noneLeftReady t x := by
  intro n b _ _ hx hc
  rcases (hc.2 x hx).2.2 with h | h
  · rw [h1] at h; cases h
  · obtain ⟨d, hd⟩ := (headClaim_iff _ _).mp h
    rw [h2] at hd; cases hd

/-- The service of the cells leaves an occasion as it was where it leaves the cell. -/
theorem cellOccasion_served (h : (serveCells s u).cell x = u.cell x) :
    cellOccasion s (serveCells s u) x = cellOccasion s u x :=
  cellOccasion_congr (map_of_sansBook (serveCells_sansBook s u)) (envs_of_sansBook (serveCells_sansBook s u)) h

/-! ### A FREE cell with a new head -/

variable {l : List Entry}

/-- A cell that service leaves FREE with no request for it to grant: it stays so, or the booking of the claim at its
head is admitted. -/
theorem unserved_free (hc : (serveCells s u).cell x = ⟨none, none, l, .idle⟩) (hf : Follows (eventServed s u) t) :
    t.cell x = ⟨none, none, l, .idle⟩
      ∨ ∃ b d, Enters (serveCells s u) (eventServed s u) b ∧ x ∈ b.cells ∧ claimAt l = some (b.number, d)
          ∧ enteredBooked t x b.number b.crane l none := by
  rcases (admits_served s u).cell x with e | ⟨b, hb, hx⟩
  · exact .inl ((Follows_cell hf x).trans (e.trans hc))
  · rcases Enters_claims hb hx hc with h | ⟨d, hd⟩
    · cases h
    · exact .inr ⟨b, d, hb, hx, hd, enteredBooked_follows hf (enteredBooked_of hb hx hc)⟩

/-- A claim at the head of a FREE cell waits, or its booking is admitted (R68, R150). -/
theorem claimWaitsOrEnters_of {n : Nat} {d : Crane} {v : Nat} {rest : List Entry} (hl : l = .claim n d v :: rest)
    (hc : (serveCells s u).cell x = ⟨none, none, l, .idle⟩) (hk : claimsKnown u x l)
    (hf : Follows (eventServed s u) t) : claimWaitsOrEnters t x n d l := by
  obtain ⟨b, hb, rfl, rfl⟩ := claimAt_known hk (n := n) (d := d) (by rw [hl]; rfl)
  have hat : ∀ m e, claimAt l = some (m, e) → m = b.number := fun m e h => by
    rw [hl] at h
    exact (congrArg Prod.fst (Option.some.inj h)).symm
  rcases unserved_free hc hf with h | ⟨b', d', hb', -, hd', he⟩
  · refine .inl ⟨?_, by rw [h], by rw [h], by rw [h]⟩
    rw [bookStateOf, Follows_booking hf]
    rcases (admits_served s u).booking b.number with k | ⟨b', hb', hn⟩
    · rw [k, serveCells_booking, hb.1]
      exact congrArg some hb.2.1
    · have heq : b' = b := Option.some.inj (hb'.known.symm.trans ((serveCells_booking s u _).trans (hn ▸ hb.1)))
      have := Enters_grant hb' (heq ▸ hb.2.2)
      rw [← Follows_cell hf, h] at this
      cases this
  · have hn := hat _ _ hd'
    have heq : b' = b := Option.some.inj (hb'.known.symm.trans ((serveCells_booking s u _).trans (hn ▸ hb.1)))
    exact .inr (heq ▸ he)

/-- A request at the head that can be granted is, the recall is tested, and the booking of a claim that so becomes the
head is admitted at most. -/
theorem headGranted_served {e : Entry} {rest : List Entry} (h : NewHead s u x (e :: rest)) (he : isRequest e = true)
    (hk : claimsKnown u x (e :: rest)) (hcan : canGrant u x (entryCrane e) = true)
    (hf : Follows (eventServed s u) t) :
    noneLeftReady t x ∧ told t (.c (entryCrane e)) (.granted (entryCrane e) x (requestKind e))
      ∧ (((t.cell x).grant = some ⟨entryCrane e, requestKind e⟩ ∧ (t.cell x).list = rest
            ∧ recallTested s t x ⟨entryCrane e, requestKind e⟩ rest .idle)
          ∨ ∃ n, claimAt rest = some (n, entryCrane e) ∧ enteredBooked t x n (entryCrane e) rest none) := by
  have h0 : (s.cell x).grant = none ∨ (s.cell x).list.head? ≠ rest.head? ∨ claimAt rest = none := by
    refine (h.former e rest rfl he).imp_right fun hh => ?_
    cases hr : claimAt rest with
    | none => exact .inr rfl
    | some p =>
      refine .inl fun heq => ?_
      cases rest with
      | nil => cases hr
      | cons f fs =>
        obtain rfl : e = f := Option.some.inj (hh.symm.trans heq)
        cases e with
        | claim => cases he
        | entry => cases hr
        | auto => cases hr
  obtain ⟨ht, ⟨r, hr⟩, hrec⟩ := serveCells_granted (s0 := s) h.serves (by rw [h.cell]) he hcan
    (h0.imp_left fun hn => by rw [hn]; nofun)
  rw [h.cell] at hr hrec
  have hgr : Grows (serveCells s u) t := (admits_served s u).grows.trans hf.grows
  refine ⟨?_, told_grows hgr ht, ?_⟩
  · by_cases hn : claimAt rest = none
    · rcases (admits_served s u).cell x with k | ⟨b, hb, hx⟩
      · exact noneLeftReady_unclaimed (by rw [Follows_cell hf, k, hr]) (by rw [Follows_cell hf, k, hr]; exact hn)
      · rcases Enters_claims hb hx hr with hc | ⟨d, hd⟩
        · cases hc
        · exact absurd (hn.symm.trans hd) nofun
    · refine noneLeftReady_of hf ?_
      unfold cellOccasion headChanged
      rw [hr]
      rcases h0.imp_right fun k => k.resolve_right hn with hg | hg
      · simp [hg]
      · simp [hg]
  · rcases (admits_served s u).cell x with k | ⟨b, hb, hx⟩
    · have hcell : t.cell x = _ := (Follows_cell hf x).trans (k.trans hr)
      refine .inl ⟨by rw [hcell], by rw [hcell], ?_⟩
      exact recallTested_mono hrec h.map.symm (fun y => (mask_grows h.grows _).symm)
        (by rw [Follows_cell hf, k]) hgr
    · obtain hcrane : entryCrane e = b.crane := Enters_holder (g := ⟨entryCrane e, requestKind e⟩) hb hx (by rw [hr])
      rcases Enters_claims hb hx hr with hc | ⟨d, hd⟩
      · cases hc
      · obtain ⟨b', hb', hn, hd'⟩ := claimAt_known (fun f hf' => hk f (List.mem_cons_of_mem e hf')) hd
        have heq : b = b' := Option.some.inj
          (hb.known.symm.trans ((serveCells_booking s u _).trans (hn ▸ hb'.1)))
        refine .inr ⟨b.number, ?_, ?_⟩
        · rw [hd, ← hd', ← heq, hcrane]
        · rw [hcrane]
          exact enteredBooked_follows hf (enteredBooked_of hb hx hr)

/-- A request at the head of a FREE cell is served (R68). -/
theorem headServed_of {e : Entry} {rest : List Entry} (h : NewHead s u x (e :: rest)) (he : isRequest e = true)
    (hk : claimsKnown u x (e :: rest)) (hf : Follows (eventServed s u) t) :
    noneLeftReady t x ∧ headServed s t x (entryCrane e) (requestKind e) e rest := by
  have henvs : t.envs = u.envs := hf.envs.trans (envs_of_sansBook (served_sansBook s u))
  have hcan : canGrant u x (entryCrane e) = true ↔ s.barred x = false ∧ t.othersTouch (entryCrane e) x = false := by
    rw [canGrant_iff, barred_of h.map h.wind, othersTouch_of_envs henvs, h.cell]
    exact and_iff_right rfl
  by_cases hc : canGrant u x (entryCrane e) = true
  · obtain ⟨hnone, ht, hcases⟩ := headGranted_served h he hk hc hf
    refine ⟨hnone, ?_⟩
    rw [headServed, if_pos (hcan.mp hc)]
    refine ⟨ht, hcases.imp_right fun ⟨n, hn, hb⟩ => ?_⟩
    rw [hn]
    exact ⟨rfl, hb⟩
  · have hsame : (serveCells s u).cell x = ⟨none, none, e :: rest, .idle⟩ := by
      rw [serveCells_refused (by rw [h.cell]) (fun e' rest' hl _ => ?_), h.cell]
      rw [h.cell] at hl
      cases hl
      simpa using hc
    rcases unserved_free hsame hf with hcell | ⟨b, d, -, -, hd, -⟩
    · refine ⟨noneLeftReady_of hf ((cellOccasion_served (hsame.trans h.cell.symm)).trans h.occasion), ?_⟩
      rw [headServed, if_neg fun k => hc (hcan.mpr k)]
      exact ⟨by rw [hcell], by rw [hcell], by rw [hcell]⟩
    · cases e with
      | claim => cases he
      | entry => cases hd
      | auto => cases hd

/-- The head of a FREE cell whose head has just become `l.head?` is served (R68). -/
theorem newHeadServed_of (h : NewHead s u x l) (hf : Follows (eventServed s u) t) : newHeadServed s t x l := by
  have hrefused : (∀ e rest, l = e :: rest → isRequest e = false) →
      (serveCells s u).cell x = ⟨none, none, l, .idle⟩ := fun hreq => by
    rw [serveCells_refused (by rw [h.cell]) (fun e rest hl he => ?_), h.cell]
    rw [h.cell] at hl
    exact absurd he (by simp [hreq e rest hl])
  cases l with
  | nil =>
    rcases unserved_free (hrefused nofun) hf with hcell | ⟨_, _, -, -, hd, -⟩
    · exact ⟨by rw [hcell], by rw [hcell], by rw [hcell]⟩
    · cases hd
  | cons e rest =>
    intro hdue
    have hk := h.claims hdue
    cases e with
    | claim n d v =>
      have hsame := hrefused fun e' rest' hl => by cases hl; rfl
      exact ⟨noneLeftReady_of hf ((cellOccasion_served (hsame.trans h.cell.symm)).trans h.occasion),
        claimWaitsOrEnters_of rfl hsame hk hf⟩
    | entry c left => exact headServed_of h rfl hk hf
    | auto c => exact headServed_of h rfl hk hf

end

/-! ### A released cell -/

section
variable {s u t : State} {x : CellNo}

theorem mem_placeEntry_head {e : Entry} {l : List Entry} {f : Entry} {rest : List Entry} (h : placeEntry e l = f :: rest) :
    l.head? = some f ∨ f = e := by
  cases l with
  | nil => exact .inr (List.cons.inj h).1.symm
  | cons g l => exact .inl (congrArg some (List.cons.inj h).1)

/-- A request at the head of a released cell's list stood there before. -/
theorem freedList_head {e : Entry} {rest : List Entry} (h : freedList s x = e :: rest) (he : isRequest e = true) :
    (s.cell x).list.head? = some e := by
  unfold freedList at h
  split at h
  · rename_i f hf
    rcases mem_placeEntry_head h with k | rfl
    · exact k
    · simp only [Option.bind_eq_some_iff, Option.map_eq_some_iff] at hf
      obtain ⟨n, -, b, -, rfl⟩ := hf
      cases he
  · rw [h]; rfl

theorem claimsKnown_mono {l : List Entry} (h : claimsKnown s x l) (hb : ∀ b, dueNaming s x b → u.booking b.number = some b) :
    claimsKnown u x l := fun e he =>
  (h e he).imp_right fun ⟨b, hb', k⟩ => ⟨b, ⟨hb b hb', hb'.2⟩, k⟩

theorem claimsKnown_of_due (h : cellClaimsDue s x) : claimsKnown s x (s.cell x).list := fun e he =>
  (h.2 e he).imp_right fun ⟨b, _, k⟩ => ⟨b, k⟩

/-- Where the claims of a cell are those of DUE bookings that name it, so are those of the list that its release leaves
(R64). -/
theorem claimsKnown_freedList (h : cellClaimsDue s x) : claimsKnown s x (freedList s x) := by
  unfold freedList
  split
  · rename_i f hf
    simp only [Option.bind_eq_some_iff, Option.map_eq_some_iff] at hf
    obtain ⟨n, hn, b, hb, rfl⟩ := hf
    obtain ⟨b', -, hb', rfl⟩ := h.1 n hn
    obtain rfl : b' = b := Option.some.inj (hb'.1.symm.trans hb)
    intro e he
    rcases mem_placeEntry he with rfl | he
    · exact .inr ⟨b', hb', rfl⟩
    · exact claimsKnown_of_due h e he
  · exact claimsKnown_of_due h

/-- Service and admissions take entries out of lists alone. -/
theorem list_served (s u : State) (x : CellNo) : ((eventServed s u).cell x).list.Sublist (u.cell x).list := by
  have hserved : ((serveCells s u).cell x).list.Sublist (u.cell x).list := by
    rcases serveCells_cases s u x with ⟨r, hr⟩ | ⟨e, rest, r, hl, -, -, hr⟩
    · rw [hr]
    · rw [hr, hl]; exact List.sublist_cons_self e rest
  rcases (admits_served s u).cell x with e | ⟨b, hb, hx⟩
  · rw [e]; exact hserved
  · rw [hb.cells x hx]; exact List.filter_sublist.trans hserved

/-- Service and admissions cover no claim. -/
theorem covered_served (h : (u.cell x).covered = none) : ((eventServed s u).cell x).covered = none := by
  have hserved : ((serveCells s u).cell x).covered = none := by
    rcases serveCells_cases s u x with ⟨r, hr⟩ | ⟨_, _, r, -, -, -, hr⟩
    · rw [hr]; exact h
    · rw [hr]; exact h
  rcases (admits_served s u).cell x with e | ⟨b, hb, hx⟩
  · rw [e, hserved]
  · rw [hb.cells x hx]
    show (if _ then none else _) = none
    rw [hserved]
    rfl

/-- A cell that an operation releases is freed and served (R64, R68, R76, R77). -/
theorem freedAndServed_of {g : Grant} (hg : (s.cell x).grant = some g)
    (hcell : cellClaimsDue s x → u.cell x = ⟨none, none, freedList s x, .idle⟩)
    (hm : u.map = s.map) (hw : u.wind = s.wind) (hgr : Grows s u)
    (hb : ∀ b, dueNaming s x b → u.booking b.number = some b) (hf : Follows (eventServed s u) t) : freedAndServed s t x := by
  intro hdue
  have hc := hcell hdue
  refine ⟨by rw [Follows_cell hf]; exact covered_served (by rw [hc]), newHeadServed_of ?_ hf⟩
  exact {
    cell := hc
    map := hm
    wind := hw
    grows := hgr
    serves := by simp [serviceDue, hg, hc]
    occasion := by simp [cellOccasion, hg, hc]
    former := fun e rest hl he => .inr (freedList_head hl he)
    claims := fun h => claimsKnown_mono (claimsKnown_freedList h) hb }

end

/-! ### A HELD cell -/

section
variable {s u t : State} {x : CellNo}

theorem filter_withoutClaim (n : Nat) (l : List Entry) : (withoutClaim n l).filter isRequest = l.filter isRequest := by
  unfold withoutClaim
  rw [List.filter_filter]
  refine List.filter_congr fun e _ => ?_
  cases e <;> simp [isRequest, entryKind, isClaimOf]

/-- A HELD cell keeps its grant and its record but for the recall, or a DUE booking of its holder that claims the cell,
covered or at its head, is admitted on it (R59, R150). -/
theorem held_served {g : Grant} (hg : (u.cell x).grant = some g) (hf : Follows (eventServed s u) t) :
    ((∃ r, t.cell x = { u.cell x with recallState := r })
        ∧ t.cell x = (serveCells s u).cell x)
      ∨ ∃ b, dueNaming u x b ∧ b.crane = g.holder
          ∧ ((u.cell x).covered = some b.number ∨ ∃ d, claimAt (u.cell x).list = some (b.number, d))
          ∧ enteredBooked t x b.number g.holder (u.cell x).list (u.cell x).covered := by
  obtain ⟨⟨r, hr⟩, -, -⟩ := serveCells_held (s0 := s) hg
  rcases (admits_served s u).cell x with e | ⟨b, hb, hx⟩
  · have hcell := (Follows_cell hf x).trans e
    exact .inl ⟨⟨r, hcell.trans hr⟩, hcell⟩
  · have hh : g.holder = b.crane := Enters_holder hb hx (by rw [hr]; exact hg)
    have hclaim := Enters_claims hb hx hr
    have hent := enteredBooked_follows hf (enteredBooked_of hb hx hr)
    exact .inr ⟨b, ⟨(serveCells_booking s u _).symm.trans hb.known, hb.due, hx⟩, hh.symm, hclaim, hh ▸ hent⟩

theorem enteredBooked_list {n : Nat} {c : Crane} {l : List Entry} {o : Option Nat} (h : enteredBooked t x n c l o) :
    (t.cell x).grant = some ⟨c, .booked⟩ ∧ (t.cell x).list.filter isRequest = l.filter isRequest := by
  obtain ⟨-, hc⟩ := h
  exact ⟨by rw [hc], by rw [hc]; exact filter_withoutClaim n l⟩

/-- A BOOKED cell that the booking release leaves with its crane as ENTRY (R157). -/
theorem keptAsEntry_of {c : Crane} (hg : (s.cell x).grant = some ⟨c, .booked⟩)
    (hc : u.cell x = { s.cell x with grant := some ⟨c, .entry⟩ }) (hm : u.map = s.map) (hgr : Grows s u)
    (hf : Follows (eventServed s u) t) : keptAsEntry s t x c := by
  intro _
  have hu : (u.cell x).grant = some ⟨c, .entry⟩ := by rw [hc]
  obtain ⟨⟨r, hr⟩, htest, -⟩ := serveCells_held (s0 := s) hu
  refine ⟨noneLeftReady_of hf (by rw [cellOccasion, hr, hg, hc]; simp), ?_⟩
  rcases held_served hu hf with ⟨⟨r', hr'⟩, hsame⟩ | ⟨b, -, -, hclaim, hent⟩
  · rw [hc] at hr'
    refine .inl ⟨by rw [hr'], by rw [hr'], by rw [hr'], ?_⟩
    have := htest (.inr (by rw [hg]; simp))
    rw [hc] at this
    exact recallTested_mono this hm.symm (fun y => (mask_grows hgr _).symm) (by rw [hsame])
      ((admits_served s u).grows.trans hf.grows)
  · rw [hc] at hclaim hent
    refine .inr ⟨b.number, ?_, hent⟩
    rcases hclaim with h | ⟨d, hd⟩
    · exact List.mem_append_left _ (Option.mem_toList.mpr h)
    · exact List.mem_append_right _ (Option.mem_toList.mpr (by rw [hd]; rfl))

/-! ### A list that entries leave -/

variable {l : List Entry}

theorem dueForCell_of_naming {b : Booking} (h : dueNaming s x b) : dueForCell s x := ⟨b, booking_mem h.1, h.2⟩

theorem headChanged_iff : headChanged s u x = true ↔ (u.cell x).list.head? ≠ (s.cell x).list.head? :=
  bne_iff_ne.trans ne_comm

/-- Where no DUE booking can be admitted on a HELD cell, it keeps its record but for the recall, which is tested where
the head has changed. -/
theorem held_left {g : Grant} (hg : (s.cell x).grant = some g) (hc : u.cell x = { s.cell x with list := l })
    (hb : u.book = s.book) (hm : u.map = s.map) (hgr : Grows s u) (hk : cellClaimsDue s x → claimsKnown u x l)
    (hno : noAdmissionOn s x g l) (hf : Follows (eventServed s u) t) :
    (l.head? = (s.cell x).list.head? → t.cell x = { s.cell x with list := l })
      ∧ (l.head? ≠ (s.cell x).list.head? → heldWithNewHead s t x g l) := by
  have hu : (u.cell x).grant = some g := by rw [hc]; exact hg
  obtain ⟨-, htest, hsteady⟩ := serveCells_held (s0 := s) hu
  rcases held_served hu hf with ⟨⟨r, hr⟩, hsame⟩ | ⟨b, hdue, hcrane, hclaim, -⟩
  · rw [hc] at hr
    constructor
    · intro hh
      have hch : headChanged s u x = false := by
        rw [← Bool.not_eq_true, headChanged_iff, hc]; exact not_not_intro hh
      rw [hsame, hsteady hch hg, hc]
    · intro hh
      refine ⟨by rw [hr]; exact hg, by rw [hr], by rw [hr], ?_⟩
      have := htest (.inl (headChanged_iff.mpr (by rw [hc]; exact hh)))
      rw [hc] at this
      exact recallTested_mono this hm.symm (fun y => (mask_grows hgr _).symm) (by rw [hsame])
        ((admits_served s u).grows.trans hf.grows)
  · rw [hc] at hclaim
    rcases hno with h | ⟨hcd, hcov, hhead⟩
    · exact absurd ((dueForCell_congr hb x).mp (dueForCell_of_naming hdue)) h
    · rcases hclaim with h | ⟨d, hd⟩
      · exact absurd (hcov.symm.trans h) nofun
      · obtain ⟨b', hb', hn, rfl⟩ := claimAt_known (hk hcd) hd
        have heq : b = b' := Option.some.inj (hdue.1.symm.trans (hn ▸ hb'.1))
        cases l with
        | nil => cases hd
        | cons e rest =>
          cases e with
          | claim m c v =>
            obtain ⟨rfl, rfl⟩ : m = b.number ∧ c = b'.crane := by simpa [claimAt] using hd
            exact absurd (heq ▸ hcrane) (hhead _ _ _ rfl)
          | entry => cases hd
          | auto => cases hd

/-- A cell whose grant is left alone and whose list entries leave (R62, R68). -/
theorem listLeft_of {lost : Prop} (hc : u.cell x = { s.cell x with list := l }) (hb : u.book = s.book)
    (hm : u.map = s.map) (hw : u.wind = s.wind) (hgr : Grows s u) (hk : cellClaimsDue s x → claimsKnown u x l)
    (hlost : lost ↔ touchLost s u x = true) (hf : Follows (eventServed s u) t) : listLeft s t x l lost := by
  refine ⟨fun g hg => ?_, fun hg hcov hrec => ⟨fun hh hl hd => ?_, fun hh => newHeadServed_of ?_ hf⟩⟩
  · have hu : (u.cell x).grant = some g := by rw [hc]; exact hg
    refine ⟨?_, ?_, fun hno => held_left hg hc hb hm hgr hk hno hf⟩
    · obtain ⟨kind, hkind, -⟩ := served_holders (s0 := s) hu
      exact ⟨kind, by rw [Follows_cell hf]; exact hkind⟩
    · rcases held_served hu hf with ⟨⟨r, hr⟩, -⟩ | ⟨b, -, -, -, hent⟩
      · rw [hr, hc]
      · rw [(enteredBooked_list hent).2, hc]
  · rw [Follows_cell hf, served_cell (by rwa [dueForCell_congr hb]), serveCells_steady ?_ (by rw [hc]), hc]
    have htouch : touchLost s u x = false := by rw [← Bool.not_eq_true]; exact fun h => hl (hlost.mpr h)
    have hch : headChanged s u x = false := by
      rw [← Bool.not_eq_true, headChanged_iff, hc]; exact not_not_intro hh
    unfold serviceDue
    rw [hg, hch, htouch, windBars_of_wind hw, isDraining_of_map hm]
    simp
  · have hch : headChanged s u x = true ∨ touchLost s u x = true := hh.imp
      (fun h => headChanged_iff.mpr (by rw [hc]; exact h)) hlost.mp
    exact {
      cell := by rw [hc]; dsimp only; rw [hg, hcov, hrec]
      map := hm
      wind := hw
      grows := hgr
      serves := by rcases hch with h | h <;> simp [serviceDue, h]
      occasion := by
        rcases hch with h | h
        · simp [cellOccasion, h]
        · have : (allCranes.any fun c => s.touches c x != u.touches c x) = true := by
            obtain ⟨c, hc, hct⟩ := List.any_eq_true.mp h
            exact List.any_eq_true.mpr ⟨c, hc, by simp only [Bool.and_eq_true, Bool.not_eq_true'] at hct; simp [hct]⟩
          simp [cellOccasion, this]
      former := fun _ _ _ _ => .inl hg
      claims := hk }

end

/-! ### What an event leaves alone -/

section
variable {s u t : State}

theorem touchLost_unchanged (hrest : u.sansBook = s.sansBook) (x : CellNo) : touchLost s u x = false := by
  unfold touchLost
  simp [touches_of_envs (envs_of_sansBook hrest)]

/-- A cell has no occasion of service where its grant and head, the touch sets, the marks and the wind are as before. -/
theorem serviceDue_unchanged (hrest : u.sansBook = s.sansBook) {x : CellNo} (hg : (u.cell x).grant = (s.cell x).grant)
    (hh : (u.cell x).list.head? = (s.cell x).list.head?) : serviceDue s u x = false := by
  have hch : headChanged s u x = false := by rw [← Bool.not_eq_true, headChanged_iff]; exact not_not_intro hh
  unfold serviceDue
  rw [hg, hch, touchLost_unchanged hrest, windBars_of_wind (wind_of_sansBook hrest), isDraining_of_map (map_of_sansBook hrest)]
  cases (s.cell x).grant <;> simp

theorem serveCells_unchanged (hrest : u.sansBook = s.sansBook) {x : CellNo} (hg : (u.cell x).grant = (s.cell x).grant)
    (hh : (u.cell x).list.head? = (s.cell x).list.head?) : (serveCells s u).cell x = u.cell x :=
  serveCells_steady (serviceDue_unchanged hrest hg hh) hg.symm

theorem served_plant (hrest : u.sansBook = s.sansBook) (hf : Follows (eventServed s u) t) :
    t.envs = s.envs ∧ keepsPlant s t := by
  have hall : (eventServed s u).sansBook = s.sansBook := (served_sansBook s u).trans hrest
  exact ⟨hf.envs.trans (envs_of_sansBook hall),
    hf.map.trans (map_of_sansBook hall), hf.store.trans (store_of_sansBook hall), hf.wind.trans (wind_of_sansBook hall),
    fun l => (hf.cfg l).trans (of_sansBook (fun v : State => (v.sig l).cfg) hall fun _ => rfl)⟩

theorem served_keepsCranes {e : Option Crane} (hcrane : ∀ c, some c ≠ e → u.crane c = s.crane c)
    (hdue : ∀ c, dueForCrane u c → dueForCrane s c) (hf : Follows (eventServed s u) t) : keepsCranes e s t :=
  keepsCranes_of hf fun c hc => ⟨by rw [served_sansLift, hcrane c hc],
    fun hd => (served_crane fun h => hd (hdue c h)).trans (hcrane c hc)⟩

theorem served_keepsCells {P : CellNo → Prop} (hrest : u.sansBook = s.sansBook) (hother : ∀ y, ¬P y → u.cell y = s.cell y)
    (hdue : ∀ x, dueForCell u x → dueForCell s x) (hf : Follows (eventServed s u) t) : keepsCells P s t := by
  intro x hx hd
  rw [Follows_cell hf, served_cell fun h => hd (hdue x h),
    serveCells_unchanged hrest (by rw [hother x hx]) (by rw [hother x hx]), hother x hx]

/-- Where every grant, every head, every link, duty and lift and the state of every DUE booking are as before, nothing
is served and no booking admitted. -/
theorem served_steady (hrest : u.sansBook = s.sansBook) (hg : ∀ x, (u.cell x).grant = (s.cell x).grant)
    (hh : ∀ x, (u.cell x).list.head? = (s.cell x).list.head?) (hcrane : ∀ c, u.crane c = s.crane c)
    (hbook : ∀ n b, u.booking n = some b → b.state = .due → s.booking n = some b) : eventServed s u = u := by
  have hserve : serveCells s u = u := serveCells_eq_self fun x => ⟨serviceDue_unchanged hrest (hg x) (hh x), (hg x).symm⟩
  unfold eventServed
  rw [hserve]
  refine admissions_steady fun n b hb hd => ?_
  have hcells : b.cells.any (cellOccasion s u) = false := by
    rw [List.any_eq_false]
    intro x _
    have hch : headChanged s u x = false := by rw [← Bool.not_eq_true, headChanged_iff]; exact not_not_intro (hh x)
    unfold cellOccasion
    simp only [hg x, hch, touches_of_envs (envs_of_sansBook hrest), isDraining_of_map (map_of_sansBook hrest)]
    cases (s.cell x).grant <;> simp
  have hstate : bookStateOf s b.number = some .due := by
    rw [bookStateOf, booking_self (hbook n b hb hd)]
    exact congrArg some hd
  unfold admissionDue
  rw [hcells, hstate, hcrane, wind_of_sansBook hrest]
  cases (s.crane b.crane).link <;> cases (s.crane b.crane).duty <;> cases (s.crane b.crane).lift <;> simp

end

/-! ### A request at the tail -/

/-- A request that joins the tail of a list is not served: another stands before it and nothing gives occasion of
service, or the cell cannot be granted to it. -/
theorem appended_unserved {s u : State} {x : CellNo} {e : Entry} (he : isRequest e = true)
    (hc : u.cell x = { s.cell x with list := (s.cell x).list ++ [e] })
    (hbehind : (s.cell x).list ≠ [] → serviceDue s u x = false)
    (hfirst : (s.cell x).list = [] → (s.cell x).grant = none → canGrant u x (entryCrane e) = false) :
    (serveCells s u).cell x = u.cell x := by
  by_cases hl : (s.cell x).list = []
  · cases hg : (s.cell x).grant with
    | some g =>
      have hg' : (u.cell x).grant = some g := by rw [hc]; exact hg
      obtain ⟨⟨r, hr⟩, htest, -⟩ := serveCells_held (s0 := s) hg'
      have hch : headChanged s u x = true := by rw [headChanged_iff, hc, hl]; nofun
      have htested := htest (.inl hch)
      have hrec : ((serveCells s u).cell x).recallState = (u.cell x).recallState := by
        have hn : claimAt (u.cell x).list = none := by
          rw [hc, hl]
          cases e with
          | claim => cases he
          | entry => rfl
          | auto => rfl
        unfold recallTested at htested
        rw [hn] at htested
        exact htested
      rw [hr] at hrec ⊢
      rw [show r = _ from hrec]
    | none =>
      refine serveCells_refused (by rw [hc]; exact hg) fun e' rest hl' _ => ?_
      rw [hc, hl] at hl'
      obtain ⟨rfl, -⟩ := List.cons.inj hl'
      exact hfirst hl hg
  · exact serveCells_steady (hbehind hl) (by rw [hc])

/-! ### Operations on cells alone -/

section
variable {P : CellNo → Prop} {s u t : State}

theorem CellsOnly_notify (h : CellsOnly P s u) (p : Port) (n : Notice) : CellsOnly P s (u.notify p n) :=
  ⟨(notify_sansCells u p n).trans h.rest, fun y hy => (notify_cell u p n y).trans (h.other y hy), notify_grows h.grows p n⟩

theorem CellsOnly_notifyClass (h : CellsOnly P s u) (k : NoticeClass) (n : Notice) : CellsOnly P s (u.notifyClass k n) :=
  ⟨(notifyClass_sansCells u k n).trans h.rest, fun y hy => (notifyClass_cell u k n y).trans (h.other y hy),
    notifyClass_grows h.grows k n⟩

theorem CellsOnly_modCell {x : CellNo} (hx : P x) (h : CellsOnly P s u) (f : CellRec → CellRec) :
    CellsOnly P s (u.modCell x f) :=
  ⟨(modCell_sansCells u x f).trans h.rest,
    fun y hy => (cell_modCell_other u (fun e => hy (e.symm ▸ hx) : y ≠ x) f).trans (h.other y hy), h.grows.ports rfl⟩

theorem CellsOnly_refl (P : CellNo → Prop) (s : State) : CellsOnly P s s := ⟨rfl, fun _ _ => rfl, Grows.refl s⟩

theorem CellsOnly_map (h : CellsOnly P s u) : u.map = s.map := map_of_sansBook (sansBook_of h.rest)

theorem CellsOnly_wind (h : CellsOnly P s u) : u.wind = s.wind := wind_of_sansBook (sansBook_of h.rest)

theorem CellsOnly_envs (h : CellsOnly P s u) : u.envs = s.envs := envs_of_sansBook (sansBook_of h.rest)

/-- Where every grant and every head is as before, nothing is served and no booking admitted. -/
theorem CellsOnly_steady (h : CellsOnly P s u) (hg : ∀ x, (u.cell x).grant = (s.cell x).grant)
    (hh : ∀ x, (u.cell x).list.head? = (s.cell x).list.head?) : eventServed s u = u :=
  served_steady (sansBook_of h.rest) hg hh (crane_of_sansCells h.rest) fun n _ hb _ =>
    (booking_of_sansCells h.rest n).symm.trans hb

/-- What an event that changes cells alone leaves. -/
theorem CellsOnly_keeps (h : CellsOnly P s u) (hf : Follows (eventServed s u) t) :
    t.envs = s.envs ∧ keepsPlant s t ∧ keepsCranes none s t ∧ keepsBook s t ∧ keepsCells P s t := by
  have hrest := sansBook_of h.rest
  have hbook : u.book = s.book := book_of_sansCells h.rest
  obtain ⟨henvs, hplant⟩ := served_plant hrest hf
  refine ⟨henvs, hplant, served_keepsCranes (fun c _ => crane_of_sansCells h.rest c)
    (fun c => (dueForCrane_congr hbook c).mp) hf, ⟨?_, fun n b hb hd => ?_⟩,
    served_keepsCells hrest h.other (fun x => (dueForCell_congr hbook x).mp) hf⟩
  · rw [hf.book, served_next, hbook]
  · rw [Follows_booking hf]
    exact served_booking ((booking_of_sansCells h.rest n).trans hb) hd

theorem CellsOnly_core (h : CellsOnly P s u) : (conclude s u).core = s.core :=
  (conclude_core s u).trans (core_of_sansCells h.rest)

/-- With no commit pending, an event is its service handed on. -/
theorem Follows_conclude (h : u.map.commit = .idle) : Follows (eventServed s u) (conclude s u) := by
  unfold conclude
  rw [settle_idle h]
  exact Follows_compose s _

theorem Follows_grows_conclude (h : Grows s u) (hf : Follows (eventServed s u) t) : Grows s t :=
  (h.trans (served_grows s u)).trans hf.grows

end

end Laws
end Sys2Proof.Machine

/-! SUPPORT. ENTER (R66), LEAVE (R73) and the wait and recall timers (R67, R77). -/

namespace Sys2Proof.Machine.Laws

open Sys2Proof Sys2Proof.Machine

/-! ### LEAVE, stage by stage -/

section
variable {p : Port} {w : Option Nat} {s : State}

theorem exec_leave_attended (h : attends s p) (hw : whoSuits p w = true) (n : Nat) :
    exec (.leave p w n) s = .next (doLeave p w n s).transmit := by
  refine (exec_attended h (.leave w n)).trans ?_
  rw [show perform p (.leave w n) s = doLeave p w n s from named_of_suits hw _ _ _]

theorem doLeave_refused {why : Reason} (h : firstRefusal (linkChecks s p) = some why) (n : Nat) :
    doLeave p w n s = s.refuse p .leave why := by
  simp only [doLeave, h]

theorem doLeave_badField {n : Nat} (hl : linkAllows s p) (h : craneNamed p w = none ∨ cellOf n = none) :
    doLeave p w n s = s.refuse p .leave .badField := by
  simp only [doLeave, firstRefusal_linkChecks_allowed hl]
  rcases h with hc | hx
  · rw [hc]
  · rw [hx]
    cases craneNamed p w <;> rfl

variable {c : Crane} {x : CellNo}

theorem doLeave_fails {why : Reason} (hl : linkAllows s p) (hc : craneNamed p w = some c)
    (h : firstRefusal (leaveChecks s c x) = some why) : doLeave p w (cellNo x) s = s.refuse p .leave why := by
  simp only [doLeave, firstRefusal_linkChecks_allowed hl, hc, cellOf_cellNo, h]

theorem doLeave_accepts (hl : linkAllows s p) (hc : craneNamed p w = some c)
    (h : firstRefusal (leaveChecks s c x) = none) : doLeave p w (cellNo x) s = acceptLeave s p c x := by
  simp only [doLeave, firstRefusal_linkChecks_allowed hl, hc, cellOf_cellNo, h]

end

/-! ### A cell released -/

section
variable {s : State} {x : CellNo}

theorem releaseCell_cell (s : State) (x : CellNo) (w : CellCause) :
    (releaseCell s x w).cell x = ⟨none, none, freedList s x, .idle⟩ := by
  unfold releaseCell
  rw [notifyClass_cell, cell_modCell_same]
  rfl

theorem CellsOnly_releaseCell (s : State) (x : CellNo) (w : CellCause) : CellsOnly (· = x) s (releaseCell s x w) := by
  unfold releaseCell
  exact CellsOnly_notifyClass (CellsOnly_modCell (P := (· = x)) rfl (CellsOnly_refl _ s) _) _ _

theorem CellsOnly_tellLeft {u : State} {P : CellNo → Prop} (h : CellsOnly P s u) (p : Port) (c : Crane) :
    CellsOnly P s (tellLeft u p c x) := by
  cases p with
  | c n => exact h
  | s y => exact CellsOnly_notify h _ _

theorem tellLeft_cell (u : State) (p : Port) (c : Crane) (x y : CellNo) : (tellLeft u p c x).cell y = u.cell y := by
  cases p with
  | c n => rfl
  | s z => exact notify_cell _ _ _ _

end

/-- Settles O37: one refusal for each stage of `doLeave`; past them the cell is released and its head served. -/
theorem leaveFreesTheCellAndServesItsHead : Obligations.LeaveFreesTheCellAndServesItsHead := by
  intro p w c x s hatt hn refused
  have hw := whoSuits_of_namesCrane hn
  have hc := craneNamed_of_namesCrane hn
  refine ⟨fun ha => ?_, fun ha hm => ?_, fun n hl hout => ?_, fun y n hp hl hout => ?_, fun hl hd => ?_, fun hl hd hx => ?_,
    fun hl hd hx => ⟨fun hh => ?_, fun hh => ?_⟩, fun k hl hd hx hh hk hidle => ?_⟩
  · exact (exec_leave_attended hatt hw _).trans (by rw [doLeave_refused (firstRefusal_linkChecks_notAuthority ha)])
  · exact (exec_leave_attended hatt hw _).trans (by rw [doLeave_refused (firstRefusal_linkChecks_noMap ha hm)])
  · exact (exec_leave_attended hatt hw _).trans (by rw [doLeave_badField hl (.inr (cellOf_eq_none hout))])
  · subst hp
    have hnone : craneNamed (.s y) (some n) = none := craneOf_eq_none hout
    exact (exec_leave_attended hatt rfl _).trans (by rw [doLeave_badField hl (.inl hnone)])
  · exact (exec_leave_attended hatt hw _).trans (by
      rw [doLeave_fails hl hc (by simp [leaveChecks, firstRefusal, hd] : _ = some Reason.noCrane)])
  · exact (exec_leave_attended hatt hw _).trans (by
      rw [doLeave_fails hl hc (by simp [leaveChecks, firstRefusal, hd, hx] : _ = some Reason.noCell)])
  · exact (exec_leave_attended hatt hw _).trans (by
      rw [doLeave_fails hl hc (by simp [leaveChecks, firstRefusal, hd, hx, hh] : _ = some Reason.notHeld)])
  · exact (exec_leave_attended hatt hw _).trans (by
      rw [doLeave_fails hl hc (by simp [leaveChecks, firstRefusal, hd, hx, hh, State.holds] : _ = some Reason.booked)])
  · have hpass : firstRefusal (leaveChecks s c x) = none := by
      simp [leaveChecks, firstRefusal, hd, hx, hh, State.holds, hk]
    have hu : CellsOnly (· = x) s (tellLeft (releaseCell s x .leave) p c x) :=
      CellsOnly_tellLeft (CellsOnly_releaseCell s x .leave) p c
    have hidle' : (tellLeft (releaseCell s x .leave) p c x).map.commit = .idle := by rw [CellsOnly_map hu]; exact hidle
    have hf := Follows_trans (Follows_conclude (s := s) hidle') (Follows_answer _ p .leave .nothing)
    obtain ⟨hsite, hports⟩ := kept_answered (CellsOnly_core hu)
      (Follows_grows_conclude hu.grows (Follows_conclude hidle')) p ⟨respKind .leave, .ok, none, .nothing⟩
    obtain ⟨henvs, hplant, hcranes, hbook, hcells⟩ := CellsOnly_keeps hu hf
    refine ⟨_, (exec_leave_attended hatt hw _).trans (by rw [doLeave_accepts hl hc hpass]; rfl),
      responds_transmit (answer_slot _ _ _ _), ?_, ?_, henvs, hsite, hports, hplant, hcranes, hbook, hcells⟩
    · refine freedAndServed_of hh (fun _ => ?_) (CellsOnly_map hu) (CellsOnly_wind hu) hu.grows (fun b hb => ?_) hf
      · rw [tellLeft_cell, releaseCell_cell]
      · rw [booking_of_sansCells hu.rest]; exact hb.1
    · rintro ⟨y, rfl⟩ hlen
      have hport : (releaseCell s x .leave).port (.c c) = s.port (.c c) := notifyClass_port_crane _ _ _ _
      refine ((served_grows s _).trans hf.grows _).1.subset ?_
      exact mem_notify (by rw [hport]; exact hlen)

/-! ### ENTER -/

section
variable {p : Port} {w : Option Nat} {s : State} {c : Crane} {x : CellNo}

theorem requestOf_of_hasEntry {l : List Entry} (h : hasEntry c l = false) : requestOf c l = none := by
  rw [requestOf, List.find?_eq_none]
  intro e he
  have := List.any_eq_false.mp h e he
  simp_all

theorem hasClaim_of_hasEntry {l : List Entry} (h : hasEntry c l = false) : hasClaim c l = false := by
  rw [hasClaim, List.any_eq_false]
  intro e he
  have := List.any_eq_false.mp h e he
  simp_all

theorem enterChecks_pass (h : mayEnter s p c x) : firstRefusal (enterChecks s c x) = none := by
  obtain ⟨-, hd, hx, hm, hw, hdr, hl, hduty, hh, he⟩ := h
  have hm' : (s.member x c).isNone = false := by rw [← Option.not_isSome, hm]; rfl
  simp [enterChecks, firstRefusal, hd, hx, hm', hw, hdr, hl, hduty, hh, requestOf_of_hasEntry he,
    hasClaim_of_hasEntry he]

theorem exec_enter_accepted (h : attends s p) (hn : namesCrane p w c) (hm : mayEnter s p c x) :
    exec (.enter p w (cellNo x)) s = .next (acceptEnter s p c x).transmit := by
  rw [exec_enter_attended h (whoSuits_of_namesCrane hn)]
  simp only [doEnter, firstRefusal_linkChecks_allowed hm.1, craneNamed_of_namesCrane hn, cellOf_cellNo,
    enterChecks_pass hm]

/-- The state with an ENTER granted, before its event is served. -/
theorem CellsOnly_granted (s : State) (x : CellNo) (g : Grant) (why : CellCause) (p : Port) (n : Notice) :
    CellsOnly (· = x) s ((setGrant s x g why).notify p n) :=
  CellsOnly_notify (CellsOnly_notifyClass (CellsOnly_modCell (P := (· = x)) rfl (CellsOnly_refl _ s) _) _ _) _ _

theorem CellsOnly_placeRequest (s : State) (c : Crane) (x : CellNo) : CellsOnly (· = x) s (placeRequest s c x) :=
  CellsOnly_modCell (P := (· = x)) rfl (CellsOnly_refl _ s) _

theorem placeRequest_cell (s : State) (c : Crane) (x : CellNo) : (placeRequest s c x).cell x
    = { s.cell x with list := (s.cell x).list ++ [.entry c (s.map.params.enterWait * 1000)] } := cell_modCell_same _ _ _

/-- A request that joins the tail of a list is not served: the cell is held, another stands before it, or another crane
touches the cell. -/
theorem placeRequest_unserved (h : (s.cell x).grant.isSome ∨ (s.cell x).list ≠ [] ∨ s.othersTouch c x = true) :
    (serveCells s (placeRequest s c x)).cell x = (placeRequest s c x).cell x := by
  have hrest := sansBook_of (CellsOnly_placeRequest s c x).rest
  refine appended_unserved rfl (placeRequest_cell s c x) (fun hl => serviceDue_unchanged hrest (by rw [placeRequest_cell]) ?_)
    fun hl hg => ?_
  · rw [placeRequest_cell]
    exact List.head?_append_of_ne_nil _ hl
  · have ht : s.othersTouch c x = true := by simpa [hg, hl] using h
    have : (placeRequest s c x).othersTouch c x = true := by rwa [othersTouch_of_envs (envs_of_sansBook hrest)]
    simp [canGrant, entryCrane, this]

end

/-- Settles O35: the cell is granted, and no claim stands on it for an admission. -/
theorem enterIsGrantedWhenTheCellIsClear : Obligations.EnterIsGrantedWhenTheCellIsClear := by
  intro p w c x s hatt hn hm hg hl hcov ht hidle
  obtain ⟨-, -, -, -, hw, hdr, -⟩ := id hm
  have hcan : canGrant s x c = true := (canGrant_iff _ _ _).mpr ⟨hg, by simp [State.barred, hw, hdr], ht⟩
  have hu := CellsOnly_granted s x ⟨c, .entry⟩ .enter (.c c) (.granted c x .entry)
  have haccept : acceptEnter s p c x = (conclude s ((setGrant s x ⟨c, .entry⟩ .enter).notify (.c c)
      (.granted c x .entry))).respond p ⟨respKind .enter, .granted, none, .nothing⟩ := if_pos (by simp [hl, hcan])
  rw [exec_enter_accepted hatt hn hm, haccept]
  generalize hu' : (setGrant s x ⟨c, .entry⟩ .enter).notify (.c c) (.granted c x .entry) = u at hu
  have hcell : u.cell x = { s.cell x with grant := some ⟨c, .entry⟩ } := by
    rw [← hu', notify_cell]
    unfold setGrant
    rw [notifyClass_cell, cell_modCell_same]
  have hidle' : u.map.commit = .idle := by rw [CellsOnly_map hu]; exact hidle
  have hf := Follows_trans (Follows_conclude (s := s) hidle')
    (Follows_trans (Follows_respond _ p ⟨respKind .enter, .granted, none, .nothing⟩) (Follows_transmit _))
  obtain ⟨hsite, hports⟩ := kept_answered (CellsOnly_core hu) (Follows_grows_conclude hu.grows (Follows_conclude hidle')) p
    ⟨respKind .enter, .granted, none, .nothing⟩
  obtain ⟨henvs, hplant, hcranes, hbook, hcells⟩ := CellsOnly_keeps hu hf
  refine ⟨_, rfl, responds_transmit (respond_slot _ _ _), ?_, ?_, fun hlen => ?_, henvs, hsite, hports, hplant, hcranes,
    hbook, hcells⟩
  · rcases held_served (s := s) (x := x) (g := ⟨c, .entry⟩) (by rw [hcell]) hf with ⟨⟨r, hr⟩, -⟩ | ⟨b, -, -, hclaim, -⟩
    · rw [hr, hcell]
    · rw [hcell] at hclaim
      rcases hclaim with h | ⟨d, h⟩
      · exact absurd (hcov.symm.trans h) nofun
      · dsimp only at h; rw [hl] at h; cases h
  · have := list_served s u x
    rw [hcell, ← Follows_cell hf] at this
    exact List.eq_nil_of_sublist_nil (hl ▸ this)
  · have hport : (setGrant s x ⟨c, .entry⟩ .enter).port (.c c) = s.port (.c c) := notifyClass_port_crane _ _ _ _
    refine ((served_grows s u).trans hf.grows _).1.subset ?_
    rw [← hu']
    exact mem_notify (by rw [hport]; exact hlen)

/-- Settles O36: the request at the tail gives no occasion of service. -/
theorem enterIsQueuedOtherwise : Obligations.EnterIsQueuedOtherwise := by
  intro p w c x s hatt hn hm h hidle
  have hnot : ¬((s.cell x).list.isEmpty && canGrant s x c) = true := by
    intro hc
    simp only [Bool.and_eq_true, List.isEmpty_iff, canGrant_iff] at hc
    obtain ⟨hl, hg, -, ht⟩ := hc
    simp [hl, hg, ht] at h
  have hu := CellsOnly_placeRequest s c x
  have hcell := placeRequest_cell s c x
  have hresult : Result.queued ((placeRequest s c x).cell x).list.length
      (((placeRequest s c x).cell x).grant.map (·.holder))
        = .queued ((s.cell x).list.length + 1) ((s.cell x).grant.map fun g => g.holder) := by
    rw [hcell]
    simp
  have haccept : acceptEnter s p c x = (conclude s (placeRequest s c x)).respond p
      ⟨respKind .enter, .queued, none, .queued ((s.cell x).list.length + 1) ((s.cell x).grant.map fun g => g.holder)⟩ := by
    rw [← hresult]
    exact if_neg hnot
  have hserved := placeRequest_unserved h
  rw [exec_enter_accepted hatt hn hm, haccept]
  generalize placeRequest s c x = u at hu hcell hserved
  have hidle' : u.map.commit = .idle := by rw [CellsOnly_map hu]; exact hidle
  generalize hr : (⟨respKind .enter, .queued, none, .queued ((s.cell x).list.length + 1)
    ((s.cell x).grant.map fun g => g.holder)⟩ : Response) = r
  have hf := Follows_trans (Follows_conclude (s := s) hidle') (Follows_trans (Follows_respond _ p r) (Follows_transmit _))
  obtain ⟨hsite, hports⟩ := kept_answered (CellsOnly_core hu) (Follows_grows_conclude hu.grows (Follows_conclude hidle')) p r
  obtain ⟨henvs, hplant, hcranes, hbook, hcells⟩ := CellsOnly_keeps hu hf
  refine ⟨_, rfl, responds_transmit ((respond_slot _ _ _).trans (congrArg some hr.symm)), ?_, fun hd => ?_, henvs, hsite,
    hports, hplant, hcranes, hbook, hcells⟩
  · have hmem : Entry.entry c (s.map.params.enterWait * 1000) ∈ ((serveCells s u).cell x).list := by
      rw [hserved, hcell]
      exact List.mem_append_right _ List.mem_cons_self
    rw [Follows_cell hf]
    rcases (admits_served s u).cell x with e | ⟨b, hb, hx⟩
    · rw [e]; exact hmem
    · rw [hb.cells x hx]
      exact List.mem_filter.mpr ⟨hmem, rfl⟩
  · rw [Follows_cell hf, served_cell (by rwa [dueForCell_congr (book_of_sansCells hu.rest)]), hserved, hcell]

/-! ### Timers -/

section
variable {s : State} {c : Crane} {x : CellNo}

/-- The state with a request withdrawn whose wait timer has run out (R67), before the event is served. -/
theorem CellsOnly_waitExpired (s : State) (c : Crane) (x : CellNo) : CellsOnly (· = x) s
    ((s.modCell x fun k => { k with list := withoutRequest c k.list }).notify (.c c) (.waitExpired c x)) :=
  CellsOnly_notify (CellsOnly_modCell (P := (· = x)) rfl (CellsOnly_refl _ s) _) _ _

theorem requestOf_withoutRequest {l m : List Entry} (h : m.Sublist (withoutRequest c l)) : requestOf c m = none := by
  rw [requestOf, List.find?_eq_none]
  intro e he
  have hkept := (List.mem_filter.mp (h.subset he)).2
  intro hc
  rw [hc] at hkept
  cases hkept

theorem sourcesOf_recallOverdue (h : (s.cell x).recallState = .overdue) : (sourcesOf s).recallOverdue = true :=
  List.any_eq_true.2 ⟨x, List.mem_finRange x, by rw [h]; rfl⟩

/-- The state with a recall found overdue and told (R77). -/
theorem CellsOnly_overdue (s : State) (x : CellNo) : CellsOnly (· = x) s
    (tellOverdue (s.modCell x fun k => { k with recallState := .overdue }) x) := by
  have h : CellsOnly (· = x) s (s.modCell x fun k => { k with recallState := .overdue }) :=
    CellsOnly_modCell (P := (· = x)) rfl (CellsOnly_refl _ s) _
  unfold tellOverdue
  split
  · exact CellsOnly_notifyClass h _ _
  · exact h

theorem overdue_cell (s : State) (x y : CellNo) :
    (tellOverdue (s.modCell x fun k => { k with recallState := .overdue }) x).cell y
      = if y = x then { s.cell x with recallState := .overdue } else s.cell y := by
  have h : (s.modCell x fun k => { k with recallState := .overdue }).cell y
      = if y = x then { s.cell x with recallState := .overdue } else s.cell y := by
    split
    · rename_i e; rw [e, cell_modCell_same]
    · rename_i e; rw [cell_modCell_other s e]
  unfold tellOverdue
  split
  · rw [notifyClass_cell, h]
  · exact h

end

/-- Settles O39: the request leaves its list and a new head is served; a recall found overdue gives no occasion of
service. -/
theorem waitAndRecallTimersRunOut : Obligations.WaitAndRecallTimersRunOut := by
  intro x s hr
  refine ⟨fun c hmem hidle => ?wait, fun hrec => ?overdue⟩
  case wait =>
    have hu := CellsOnly_waitExpired s c x
    have hrow : exec (.waitExpired x c) s = .next (conclude s ((s.modCell x fun k => { k with
        list := withoutRequest c k.list }).notify (.c c) (.waitExpired c x))).transmit := by
      refine (next_whenRunning hr _).trans ?_
      unfold waitEnds
      rw [if_pos (by simpa [waitOver] using hmem)]
    rw [hrow]
    have hnote : (s.port (.c c)).notices.length < 16 → Notice.waitExpired c x ∈
        (((s.modCell x fun k => { k with list := withoutRequest c k.list }).notify (.c c) (.waitExpired c x)).port
          (.c c)).notices := fun h => mem_notify h
    have hcell : ((s.modCell x fun k => { k with list := withoutRequest c k.list }).notify (.c c) (.waitExpired c x)).cell x
        = { s.cell x with list := withoutRequest c (s.cell x).list } := by rw [notify_cell, cell_modCell_same]
    generalize (s.modCell x fun k => { k with list := withoutRequest c k.list }).notify (.c c) (.waitExpired c x) = u
      at hu hnote hcell
    have hidle' : u.map.commit = .idle := by rw [CellsOnly_map hu]; exact hidle
    have hf := Follows_trans (Follows_conclude (s := s) hidle') (Follows_transmit _)
    obtain ⟨hsite, hports⟩ := kept_event (CellsOnly_core hu) (Follows_grows_conclude hu.grows (Follows_conclude hidle'))
    obtain ⟨henvs, hplant, hcranes, hbook, hcells⟩ := CellsOnly_keeps hu hf
    refine ⟨_, rfl, ?_, ⟨fun hh => ?_, ?_⟩, fun hlen => ((served_grows s u).trans hf.grows _).1.subset (hnote hlen), henvs,
      hsite, hports, hplant, hcranes, hbook, hcells⟩
    · have := list_served s u x
      rw [hcell, ← Follows_cell hf] at this
      exact requestOf_withoutRequest this
    · have hsame : eventServed s u = u := by
        refine CellsOnly_steady hu (fun y => ?_) fun y => ?_
        · by_cases hy : y = x
          · rw [hy, hcell]
          · rw [hu.other y hy]
        · by_cases hy : y = x
          · rw [hy, hcell]; exact hh
          · rw [hu.other y hy]
      rw [Follows_cell hf, hsame, hcell]
    · refine listLeft_of hcell (book_of_sansCells hu.rest) (CellsOnly_map hu) (CellsOnly_wind hu) hu.grows (fun hdue => ?_)
        (by rw [touchLost_unchanged (sansBook_of hu.rest)]; simp) hf
      intro e he
      exact claimsKnown_mono (claimsKnown_of_due hdue) (fun b hb => (booking_of_sansCells hu.rest _).trans hb.1) e
        (List.mem_of_mem_filter he)
  case overdue =>
    have hu := CellsOnly_overdue s x
    have hcell := overdue_cell s x
    have hrow : exec (.recallOverdue x) s = .next (conclude s
        (tellOverdue (s.modCell x fun k => { k with recallState := .overdue }) x)).transmit := by
      refine (next_whenRunning hr _).trans ?_
      unfold recallEnds
      rw [if_pos hrec]
    rw [hrow]
    generalize tellOverdue (s.modCell x fun k => { k with recallState := .overdue }) x = u at hu hcell
    have hkeep : ∀ y, (u.cell y).grant = (s.cell y).grant ∧ (u.cell y).list = (s.cell y).list := fun y => by
      rw [hcell]
      split
      · rename_i e; rw [e]; exact ⟨rfl, rfl⟩
      · exact ⟨rfl, rfl⟩
    have hsame : eventServed s u = u := CellsOnly_steady hu (fun y => (hkeep y).1) fun y => by rw [(hkeep y).2]
    have hbook : u.book = s.book := book_of_sansCells hu.rest
    have hconclude : conclude s u = compose s u := by
      unfold conclude
      rw [settle_undrained (fun y _ => hkeep y) fun y hy => by rwa [namedUnderWay_congr hbook], hsame]
    have hf' : Follows (eventServed s u) (conclude s u).transmit := by
      rw [hconclude, hsame]
      exact Follows_trans (Follows_compose s u) (Follows_transmit _)
    have hf : Follows u (conclude s u).transmit := by
      have h := hf'
      rwa [hsame] at h
    obtain ⟨hsite, hports⟩ := kept_event (CellsOnly_core hu) (s := s) (t := conclude s u)
      (by rw [hconclude]; exact hu.grows.trans (Follows_compose s u).grows)
    obtain ⟨henvs, hplant, hcranes, -, -⟩ := CellsOnly_keeps hu hf'
    refine ⟨_, rfl, ?_, fun y hy => ?_, hf.book.trans hbook, henvs, ?_, hsite, hports, hplant, hcranes⟩
    · rw [Follows_cell hf, hcell, if_pos rfl]
    · rw [Follows_cell hf, hcell, if_neg hy]
    · rw [transmit_sources, hconclude, compose_sources]
      exact sourcesOf_recallOverdue (x := x) (by rw [Follows_cell (Follows_compose s u), hcell, if_pos rfl])

end Sys2Proof.Machine.Laws

/-! SUPPORT. Operations that change the cells of a list one by one; the booking release (R157) and what its event leaves;
the requests that end a booking: FORCE_RELEASE (R78), ABORT, FINISH and END (R140, R155, R156). -/

namespace Sys2Proof.Machine

/-- The list of a record as its release leaves it: the covered claim is placed in it (R64). -/
def freedOf (s : State) (k : CellRec) : List Entry :=
  match k.covered.bind fun n => (s.booking n).map fun b => Entry.claim n b.crane b.start with
  | some e => placeEntry e k.list
  | none => k.list

/-- What the booking release makes of the record of a listed cell (R157). -/
def releasedRec (s : State) (b : Booking) (skip : Option CellNo) (z : CellNo) (k : CellRec) : CellRec :=
  if skip ≠ some z ∧ k.grant = some ⟨b.crane, .booked⟩ then
    if s.touches b.crane z then { k with grant := some ⟨b.crane, .entry⟩ } else ⟨none, none, freedOf s k, .idle⟩
  else k

namespace Laws

/-! ### An event of a request -/

/-- A request that changes cells, bookings and lifts alone is answered on the service of its event. -/
theorem answered_event {s u : State} (hrest : u.sansBook = s.sansBook) (hg : Grows s u) (hidle : s.map.commit = .idle)
    (p : Port) (k : ReqKind) (r : Result) :
    Follows (eventServed s u) ((conclude s u).answer p k r).transmit
      ∧ keepsSite s ((conclude s u).answer p k r).transmit
      ∧ keepsPorts (some p) s ((conclude s u).answer p k r).transmit := by
  have hidle' : u.map.commit = .idle := by rw [map_of_sansBook hrest]; exact hidle
  have hf := Follows_conclude (s := s) hidle'
  exact ⟨Follows_trans hf (Follows_answer _ p k r),
    kept_answered ((conclude_core s u).trans (core_of_sansBook hrest)) (Follows_grows_conclude hg hf) p
      ⟨respKind k, .ok, none, r⟩⟩

/-! ### Cell by cell -/

/-- An operation on one cell, done over a list, does the same to each listed record, where doing it twice is doing it
once. -/
theorem foldl_cellwise {γ : Type} {f : State → CellNo → State} {F : CellNo → CellRec → CellRec} {g : State → γ} {v : State}
    (hrest : ∀ w y, g (f w y) = g w)
    (hcell : ∀ w y z, g w = g v → (f w y).cell z = if z = y then F y (w.cell y) else w.cell z)
    (hidem : ∀ y k, F y (F y k) = F y k) (l : List CellNo) {w : State} (hw : g w = g v) (z : CellNo) :
    (l.foldl f w).cell z = if z ∈ l then F z (w.cell z) else w.cell z := by
  induction l generalizing w with
  | nil => rfl
  | cons y l ih =>
    rw [List.foldl_cons, ih ((hrest w y).trans hw), hcell w y z hw]
    by_cases hy : z = y
    · subst hy
      by_cases hl : z ∈ l <;> simp [hl, hidem]
    · simp [hy]

theorem freedOf_cell (s : State) (x : CellNo) : freedOf s (s.cell x) = freedList s x := rfl

theorem freedOf_congr {s t : State} {k : CellRec} (h : ∀ n ∈ k.covered, t.booking n = s.booking n) :
    freedOf t k = freedOf s k := by
  have : (k.covered.bind fun n => (t.booking n).map fun b => Entry.claim n b.crane b.start)
      = k.covered.bind fun n => (s.booking n).map fun b => Entry.claim n b.crane b.start := by
    cases hk : k.covered with
    | none => rfl
    | some n => exact congrArg (Option.map fun b : Booking => Entry.claim n b.crane b.start) (h n hk)
  unfold freedOf
  rw [this]

/-! ### The booking release -/

section
variable {s v : State} {b : Booking} {skip : Option CellNo} {o : BookOutcome} {q : Option Port}

theorem releaseCell_cell_other {x y : CellNo} (h : y ≠ x) (w : CellCause) : (releaseCell s x w).cell y = s.cell y :=
  (CellsOnly_releaseCell s x w).other y h

theorem setGrant_cell (s : State) (x : CellNo) (g : Grant) (w : CellCause) (y : CellNo) : (setGrant s x g w).cell y
    = if y = x then { s.cell x with grant := some g } else s.cell y := by
  unfold setGrant
  rw [notifyClass_cell]
  split
  · rename_i e; rw [e, cell_modCell_same]
  · rename_i e; rw [cell_modCell_other s e]

theorem releaseBooked_cell (b : Booking) (skip : Option CellNo) (s : State) (y z : CellNo) :
    (releaseBooked b skip s y).cell z = if z = y then releasedRec s b skip y (s.cell y) else s.cell z := by
  unfold releaseBooked releasedRec
  by_cases h : skip ≠ some y ∧ (s.cell y).grant = some ⟨b.crane, .booked⟩
  · rw [if_pos h, if_pos h]
    by_cases ht : s.touches b.crane y = true
    · rw [if_pos ht, if_pos ht, setGrant_cell]
    · rw [if_neg ht, if_neg ht]
      by_cases hz : z = y
      · rw [hz, releaseCell_cell, if_pos rfl]; rfl
      · rw [releaseCell_cell_other hz, if_neg hz]
  · rw [if_neg h, if_neg h]
    split
    · rename_i e; rw [e]
    · rfl

theorem releaseBooked_sansCells (b : Booking) (skip : Option CellNo) (s : State) (x : CellNo) :
    (releaseBooked b skip s x).sansCells = s.sansCells := by
  unfold releaseBooked
  split
  · split
    · exact setGrant_sansCells _ _ _ _
    · exact releaseCell_sansCells _ _ _
  · rfl

theorem releasedRec_congr {w : State} (h : w.sansCells = s.sansCells) (z : CellNo) (k : CellRec) :
    releasedRec w b skip z k = releasedRec s b skip z k := by
  unfold releasedRec
  rw [touches_of_envs (envs_of_sansBook (sansBook_of h)), freedOf_congr fun n _ => booking_of_sansCells h n]

theorem releasedRec_idem (s : State) (z : CellNo) (k : CellRec) :
    releasedRec s b skip z (releasedRec s b skip z k) = releasedRec s b skip z k := by
  unfold releasedRec
  by_cases h : skip ≠ some z ∧ k.grant = some ⟨b.crane, .booked⟩
  · rw [if_pos h]
    split <;> exact if_neg (by simp)
  · rw [if_neg h, if_neg h]

theorem bookingRelease_cell (s : State) (b : Booking) (skip : Option CellNo) (o : BookOutcome) (q : Option Port)
    (z : CellNo) : (bookingRelease s b skip o q).cell z
      = if z ∈ b.cells then releasedRec (endBooking s b o q) b skip z (s.cell z) else s.cell z := by
  have h := foldl_cellwise (g := State.sansCells) (F := releasedRec (endBooking s b o q) b skip)
    (v := endBooking s b o q) (releaseBooked_sansCells b skip)
    (fun w y z hw => by rw [releaseBooked_cell, releasedRec_congr hw])
    (releasedRec_idem _) b.cells rfl z
  rw [endBooking_cell] at h
  exact h

theorem bookingRelease_ended (s : State) (b : Booking) (skip : Option CellNo) (o : BookOutcome) (q : Option Port) :
    (bookingRelease s b skip o q).sansCells = (endBooking s b o q).sansCells :=
  foldl_keeps State.sansCells _ (releaseBooked_sansCells b skip) _ _

theorem endBooking_told (s : State) (b : Booking) (o : BookOutcome) (q : Option Port) :
    bookingTold s (endBooking s b o q) b (some b.state) (.outcome o) q := told_notifyBooking _ _ _

theorem releaseBooked_grows {u : State} (h : Grows u s) (b : Booking) (skip : Option CellNo) (x : CellNo) :
    Grows u (releaseBooked b skip s x) := by
  unfold releaseBooked
  split
  · split
    · exact setGrant_grows h _ _ _
    · exact releaseCell_grows h _ _
  · exact h

theorem bookingRelease_told (s : State) (b : Booking) (skip : Option CellNo) (o : BookOutcome) (q : Option Port) :
    bookingTold s (bookingRelease s b skip o q) b (some b.state) (.outcome o) q :=
  bookingTold_mono (endBooking_told s b o q) (fun _ => rfl)
    (foldl_grows _ (fun _ _ h => releaseBooked_grows h _ _ _) _ (Grows.refl _))

theorem bookingRelease_booking (s : State) (b : Booking) (skip : Option CellNo) (o : BookOutcome) (q : Option Port)
    (m : Nat) : (bookingRelease s b skip o q).booking m = if m = b.number then none else s.booking m :=
  (booking_of_sansCells (bookingRelease_ended s b skip o q) m).trans (booking_endBooking s b o q m)

theorem bookingRelease_crane (s : State) (b : Booking) (skip : Option CellNo) (o : BookOutcome) (q : Option Port)
    (c : Crane) : (bookingRelease s b skip o q).crane c = (endBooking s b o q).crane c :=
  crane_of_sansCells (bookingRelease_ended s b skip o q) c

end

/-! ### The end of a booking -/

section
variable {s u t : State} {b : Booking}

/-- A booking out of the book stays out, and is no crane's lift that it was no lift of. -/
theorem served_ended {n : Nat} {c : Crane} (hn : u.booking n = none) (hl : (u.crane c).lift ≠ some n)
    (hf : Follows (eventServed s u) t) : t.booking n = none ∧ (t.crane c).lift ≠ some n := by
  constructor
  · rw [Follows_booking hf]
    rcases served_booking_cases s u n with h | ⟨d, hd, -⟩
    · rw [h, hn]
    · rw [hn] at hd; cases hd
  · rw [Follows_lift hf]
    rcases (admits_served s u).crane c with h | ⟨d, hd, rfl⟩
    · rw [h, serveCells_crane]; exact hl
    · rw [Enters_lift hd]
      intro e
      have := hd.known
      rw [Option.some.inj e, serveCells_booking, hn] at this
      cases this

theorem endBooking_forgets (s : State) (b : Booking) (o : BookOutcome) (q : Option Port) (c : Crane) :
    (c = b.crane → ((endBooking s b o q).crane c).lift ≠ some b.number
        ∧ ((endBooking s b o q).crane c).due ≠ some b.number)
      ∧ (c ≠ b.crane → (endBooking s b o q).crane c = s.crane c) := by
  rw [endBooking_crane]
  refine ⟨fun h => ?_, fun h => if_neg h⟩
  rw [if_pos h]
  constructor
  · show (if _ then _ else _) ≠ _
    split
    · nofun
    · assumption
  · show (if _ then _ else _) ≠ _
    split
    · nofun
    · assumption

theorem due_of_live (h : ∀ d ∈ u.book.live, d ∈ s.book.live) :
    (∀ x, dueForCell u x → dueForCell s x) ∧ ∀ c, dueForCrane u c → dueForCrane s c :=
  ⟨fun _ ⟨d, hd, k⟩ => ⟨d, h d hd, k⟩, fun _ ⟨d, hd, k⟩ => ⟨d, h d hd, k⟩⟩

end

/-! ### The event of a booking release -/

section
variable {s v t : State} {b : Booking} {skip : Option CellNo} {o : BookOutcome} {q : Option Port} {z : CellNo}
  (hv : CellsOnly (fun z => skip = some z) s v)
include hv

theorem released_rest : (bookingRelease v b skip o q).sansBook = s.sansBook :=
  (bookingRelease_sansBook v b skip o q).trans (sansBook_of hv.rest)

theorem released_grows : Grows s (bookingRelease v b skip o q) := bookingRelease_grows hv.grows b skip o q

theorem released_booking (m : Nat) :
    (bookingRelease v b skip o q).booking m = if m = b.number then none else s.booking m := by
  rw [bookingRelease_booking, booking_of_sansCells hv.rest]

theorem released_next : (bookingRelease v b skip o q).book.next = s.book.next := by
  rw [book_of_sansCells (bookingRelease_ended v b skip o q), endBooking_next, book_of_sansCells hv.rest]

theorem released_live (d : Booking) (h : d ∈ (bookingRelease v b skip o q).book.live) : d ∈ s.book.live := by
  rw [book_of_sansCells (bookingRelease_ended v b skip o q), endBooking_live, book_of_sansCells hv.rest] at h
  exact (List.mem_filter.mp h).1

theorem released_crane {c : Crane} (h : c ≠ b.crane) : (bookingRelease v b skip o q).crane c = s.crane c := by
  rw [bookingRelease_crane, (endBooking_forgets v b o q c).2 h, crane_of_sansCells hv.rest]

theorem released_cell (hz : z ∈ b.cells) (hs : skip ≠ some z) : (bookingRelease v b skip o q).cell z
    = releasedRec (endBooking v b o q) b skip z (s.cell z) := by
  rw [bookingRelease_cell, if_pos hz, hv.other z hs]

theorem released_cell_other (hs : skip ≠ some z) (hz : z ∉ b.cells) : (bookingRelease v b skip o q).cell z = s.cell z := by
  rw [bookingRelease_cell, if_neg hz, hv.other z hs]

theorem released_touches (c : Crane) (x : CellNo) : (endBooking v b o q).touches c x = s.touches c x :=
  touches_of_envs (envs_of_sansBook ((endBooking_sansBook v b o q).trans (sansBook_of hv.rest))) c x

/-- A BOOKED cell that the crane still touches stays with it as ENTRY (R157). -/
theorem released_kept (hz : z ∈ b.cells) (hs : skip ≠ some z) (hg : (s.cell z).grant = some ⟨b.crane, .booked⟩)
    (ht : s.touches b.crane z = true) :
    (bookingRelease v b skip o q).cell z = { s.cell z with grant := some ⟨b.crane, .entry⟩ } := by
  rw [released_cell hv hz hs, releasedRec, if_pos ⟨hs, hg⟩, if_pos (by rw [released_touches hv]; exact ht)]

/-- One that it no longer touches is freed (R157). -/
theorem released_freed (hn : s.booking b.number = some b) (hb : b.state ≠ .due) (hz : z ∈ b.cells) (hs : skip ≠ some z)
    (hg : (s.cell z).grant = some ⟨b.crane, .booked⟩) (ht : s.touches b.crane z = false) (hd : cellClaimsDue s z) :
    (bookingRelease v b skip o q).cell z = ⟨none, none, freedList s z, .idle⟩ := by
  rw [released_cell hv hz hs, releasedRec, if_pos ⟨hs, hg⟩,
    if_neg (by rw [released_touches hv, ht]; exact Bool.false_ne_true), ← freedOf_cell]
  rw [freedOf_congr fun n hc => ?_]
  rw [booking_endBooking, booking_of_sansCells hv.rest]
  refine if_neg fun e => ?_
  obtain ⟨d, -, hd, rfl⟩ := hd.1 n hc
  have := hd.1
  rw [e, hn] at this
  rw [Option.some.inj this] at hb
  exact hb hd.2.1

theorem released_due_stays (hn : s.booking b.number = some b) (hb : b.state ≠ .due) {d : Booking} (hd : dueNaming s z d) :
    (bookingRelease v b skip o q).booking d.number = some d := by
  rw [released_booking hv, if_neg]
  · exact hd.1
  · intro e
    have := hd.1
    rw [e, hn] at this
    rw [Option.some.inj this] at hb
    exact hb hd.2.1

/-! What the event leaves, with no commit pending. -/

variable (hf : Follows (eventServed s (bookingRelease v b skip o q)) t)
include hf

theorem released_ends : t.booking b.number = none ∧ (t.crane b.crane).lift ≠ some b.number :=
  served_ended (by rw [released_booking hv, if_pos rfl])
    (by rw [bookingRelease_crane]; exact ((endBooking_forgets v b o q _).1 rfl).1) hf

theorem released_keepsCell (hz : z ∈ b.cells) (hs : skip ≠ some z) (hg : (s.cell z).grant = some ⟨b.crane, .booked⟩)
    (ht : s.touches b.crane z = true) :
    (∃ kind, (t.cell z).grant = some ⟨b.crane, kind⟩) ∧ (¬dueForCell s z → (t.cell z).grant = some ⟨b.crane, .entry⟩)
      ∧ keptAsEntry s t z b.crane := by
  have hc := released_kept hv hz hs hg ht (o := o) (q := q)
  have hu : ((bookingRelease v b skip o q).cell z).grant = some ⟨b.crane, .entry⟩ := by rw [hc]
  refine ⟨?_, fun hd => ?_, keptAsEntry_of hg hc (map_of_sansBook (released_rest hv)) (released_grows hv) hf⟩
  · obtain ⟨kind, hk, -⟩ := served_holders (s0 := s) hu
    exact ⟨kind, by rw [Follows_cell hf]; exact hk⟩
  · obtain ⟨⟨r, hr⟩, -, -⟩ := serveCells_held (s0 := s) hu
    rw [Follows_cell hf, served_cell fun h => hd ((due_of_live (released_live hv)).1 z h), hr, hc]

theorem released_freesCell (hn : s.booking b.number = some b) (hb : b.state ≠ .due) (hz : z ∈ b.cells) (hs : skip ≠ some z)
    (hg : (s.cell z).grant = some ⟨b.crane, .booked⟩) (ht : s.touches b.crane z = false) : freedAndServed s t z :=
  freedAndServed_of hg (released_freed hv hn hb hz hs hg ht) (map_of_sansBook (released_rest hv))
    (wind_of_sansBook (released_rest hv)) (released_grows hv) (fun _ => released_due_stays hv hn hb) hf

theorem released_told : bookingTold s t b (some b.state) (.outcome o) q :=
  bookingTold_mono (bookingRelease_told v b skip o q) (fun _ => (mask_grows hv.grows _).symm)
    ((served_grows s _).trans hf.grows)

theorem released_leaves :
    (∀ j d, j ≠ b.number → s.booking j = some d → d.state ≠ .due → t.booking j = some d) ∧ t.book.next = s.book.next
      ∧ t.envs = s.envs ∧ keepsPlant s t ∧ keepsCranes (some b.crane) s t
      ∧ keepsCells (fun z => skip = some z ∨ z ∈ b.cells) s t := by
  obtain ⟨hcell, hcrane⟩ := due_of_live (released_live hv (b := b) (o := o) (q := q))
  obtain ⟨henvs, hplant⟩ := served_plant (released_rest hv) hf
  refine ⟨fun j d hj hd hs => ?_, ?_, henvs, hplant,
    served_keepsCranes (fun c hc => released_crane hv fun e => hc (congrArg some e)) hcrane hf,
    served_keepsCells (released_rest hv) (fun y hy => ?_) hcell hf⟩
  · rw [Follows_booking hf]
    exact served_booking (by rw [released_booking hv, if_neg hj]; exact hd) hs
  · rw [hf.book, served_next, released_next hv]
  · obtain ⟨h1, h2⟩ := not_or.mp hy
    exact released_cell_other hv h1 h2

end

/-! ### FORCE_RELEASE -/

section
variable {s : State} {x : CellNo} {g : Grant} {y : Sup}

/-- The state with the cell freed and the former holder told (R78). -/
def forcedFree (s : State) (x : CellNo) (g : Grant) : State :=
  (releaseCell s x .force).notify (.c g.holder) (.released x .force)

theorem CellsOnly_forcedFree (s : State) (x : CellNo) (g : Grant) : CellsOnly (· = x) s (forcedFree s x g) :=
  CellsOnly_notify (CellsOnly_releaseCell s x .force) _ _

theorem forcedFree_cell (s : State) (x : CellNo) (g : Grant) :
    (forcedFree s x g).cell x = ⟨none, none, freedList s x, .idle⟩ := by
  unfold forcedFree
  rw [notify_cell, releaseCell_cell]

theorem currentLift_of_sansCells {t : State} (h : t.sansCells = s.sansCells) (c : Crane) :
    currentLift t c = currentLift s c := by
  unfold currentLift
  rw [crane_of_sansCells h]
  cases (s.crane c).lift with
  | none => rfl
  | some n => exact booking_of_sansCells h n

theorem forceFree_unbooked (h : g.kind ≠ .booked ∨ currentLift s g.holder = none) : forceFree s x g = forcedFree s x g := by
  have hlift := currentLift_of_sansCells (CellsOnly_forcedFree s x g).rest g.holder
  unfold forceFree
  by_cases hk : g.kind = .booked
  · rw [if_pos hk]
    have hnone := hlift.trans (h.resolve_left (not_not_intro hk))
    show (match currentLift (forcedFree s x g) g.holder with | some b => _ | none => _) = _
    rw [hnone]
    rfl
  · exact if_neg hk

theorem forceFree_booked {b : Booking} (hk : g.kind = .booked) (h : currentLift s g.holder = some b) :
    forceFree s x g = bookingRelease (forcedFree s x g) b (some x) .abortedForce none := by
  have hlift := (currentLift_of_sansCells (CellsOnly_forcedFree s x g).rest g.holder).trans h
  unfold forceFree
  rw [if_pos hk]
  show (match currentLift (forcedFree s x g) g.holder with | some b => _ | none => _) = _
  rw [hlift]
  rfl

theorem doForceRelease_badField {n : Nat} (hy : y = s.holder) (h : n < 1 ∨ 64 < n) :
    doForceRelease y n s = s.refuse (.s y) .forceRelease .badField := by
  unfold doForceRelease
  refine (if_neg (by simp [authorized_of_holder hy])).trans ?_
  rw [cellOf_eq_none h]

theorem doForceRelease_cell (hy : y = s.holder) : doForceRelease y (cellNo x) s
    = if s.present x = false then s.refuse (.s y) .forceRelease .noCell
      else match (s.cell x).grant with
        | none => s.refuse (.s y) .forceRelease .notHeld
        | some g => (conclude s (forceFree s x g)).answer (.s y) .forceRelease (.released g) := by
  unfold doForceRelease
  refine (if_neg (by simp [authorized_of_holder hy])).trans ?_
  rw [cellOf_cellNo]
  dsimp only
  cases s.present x <;> rfl

theorem released_told_mem {t : State} (hlen : (s.port (.c g.holder)).notices.length < 16)
    (h : Grows (forcedFree s x g) t) : Notice.released x .force ∈ (t.port (.c g.holder)).notices := by
  have hport : (releaseCell s x .force).port (.c g.holder) = s.port (.c g.holder) := notifyClass_port_crane _ _ _ _
  exact (h _).1.subset (mem_notify (by rw [hport]; exact hlen))

end

/-- Settles O38: a cell that no lift is at stake for is freed as for LEAVE; the release of the lift's booking covers its
other cells. -/
theorem forceReleaseFreesAHeldCell : Obligations.ForceReleaseFreesAHeldCell := by
  intro y x s h hy
  have refused : ∀ {n : Nat} {why : Reason}, doForceRelease y n s = s.refuse (.s y) .forceRelease why →
      exec (.forceRelease (.s y) n) s = .next (s.refuse (.s y) .forceRelease why).transmit :=
    fun {n _} hd => exec_sup_attended h (.forceRelease n) hd
  refine ⟨fun hp => refused ?_, fun hp hg => refused ?_, fun n hn => refused (doForceRelease_badField hy hn),
    fun g hp hg hidle => ?_⟩
  · rw [doForceRelease_cell hy, if_pos hp]
  · rw [doForceRelease_cell hy, if_neg (by simp [hp]), hg]
  · have hrow : exec (.forceRelease (.s y) (cellNo x)) s
        = .next ((conclude s (forceFree s x g)).answer (.s y) .forceRelease (.released g)).transmit :=
      exec_sup_attended h (.forceRelease (cellNo x)) (by
        show doForceRelease y (cellNo x) s = _
        rw [doForceRelease_cell hy, if_neg (by simp [hp]), hg])
    have hu := CellsOnly_forcedFree s x g
    rw [hrow]
    by_cases hlift : g.kind ≠ .booked ∨ currentLift s g.holder = none
    · rw [forceFree_unbooked hlift]
      obtain ⟨hf, hsite, hports⟩ := answered_event (sansBook_of hu.rest) hu.grows hidle (.s y) .forceRelease (.released g)
      obtain ⟨henvs, hplant, hcranes, hbook, hcells⟩ := CellsOnly_keeps hu hf
      refine ⟨_, rfl, responds_transmit (answer_slot _ _ _ _),
        fun hlen => released_told_mem hlen ((served_grows s _).trans hf.grows), fun _ => ?_,
        fun _ => ⟨hcranes, hbook, hcells⟩, fun n b hk hl hb => ?_, henvs, hsite, hports, hplant⟩
      · exact freedAndServed_of hg (fun _ => forcedFree_cell s x g) (CellsOnly_map hu) (CellsOnly_wind hu) hu.grows
          (fun b hb => (booking_of_sansCells hu.rest _).trans hb.1) hf
      · have hnone := hlift.resolve_left (not_not_intro hk)
        unfold currentLift at hnone
        rw [hl] at hnone
        exact absurd (hb.symm.trans hnone) nofun
    · obtain ⟨hk, hsome⟩ := not_or.mp hlift
      rw [not_not] at hk
      obtain ⟨b, hb⟩ := Option.ne_none_iff_exists'.mp hsome
      obtain ⟨n, hln, hbn⟩ : ∃ n, (s.crane g.holder).lift = some n ∧ s.booking n = some b := Option.bind_eq_some_iff.mp hb
      have hnum := booking_number hbn
      have hself := booking_self hbn
      have hv : CellsOnly (fun z => some x = some z) s (forcedFree s x g) :=
        ⟨hu.rest, fun z hz => hu.other z fun e => hz (congrArg some e.symm), hu.grows⟩
      rw [forceFree_booked hk hb]
      obtain ⟨hf, hsite, hports⟩ := answered_event (released_rest hv) (released_grows hv) hidle (.s y) .forceRelease
        (.released g)
      obtain ⟨hend, hnolift⟩ := released_ends hv hf
      obtain ⟨hothers, -, henvs, hplant, hcranes, hcells⟩ := released_leaves hv hf
      have hgrows : Grows (forcedFree s x g) _ :=
        ((bookingRelease_grows (Grows.refl _) b (some x) .abortedForce none).trans (served_grows s _)).trans hf.grows
      refine ⟨_, rfl, responds_transmit (answer_slot _ _ _ _), fun hlen => released_told_mem hlen hgrows, fun hdue => ?_,
        fun hkind => absurd hk hkind, fun m d _ hlm hdm => ?_, henvs, hsite, hports, hplant⟩
      · have hx : (bookingRelease (forcedFree s x g) b (some x) .abortedForce none).cell x
            = ⟨none, none, freedList s x, .idle⟩ := by
          rw [bookingRelease_cell, ← forcedFree_cell s x g]
          split
          · exact if_neg fun hc => hc.1 rfl
          · rfl
        exact freedAndServed_of hg (fun _ => hx) (map_of_sansBook (released_rest hv)) (wind_of_sansBook (released_rest hv))
          (released_grows hv) (fun _ => released_due_stays hv hself (hdue n b hk hln hbn)) hf
      · obtain rfl : n = m := Option.some.inj (hln.symm.trans hlm)
        obtain rfl : b = d := Option.some.inj (hbn.symm.trans hdm)
        refine ⟨hend, hnum ▸ hnolift, fun z hz hzx hgz ht => ?_, fun hst z hz hzx hgz => ?_, released_told hv hf,
          fun k d hkn => hothers k d (hnum ▸ hkn), hcranes, fun z hz => hcells z fun hz' => hz ?_⟩
        · obtain ⟨hkind, hentry, -⟩ := released_keepsCell hv hf hz (fun e => hzx (Option.some.inj e).symm) hgz ht
          exact ⟨hkind, hentry⟩
        · have hs : (some x : Option CellNo) ≠ some z := fun e => hzx (Option.some.inj e).symm
          split
          · rename_i ht
            exact (released_keepsCell hv hf hz hs hgz ht).2.2
          · rename_i ht
            refine released_freesCell hv hf hself ?_ hz hs hgz (by simpa using ht)
            rcases hst with h | h | h <;> rw [h] <;> nofun
        · exact hz'.imp_left fun e => (Option.some.inj e).symm

end Laws
end Sys2Proof.Machine

/-! SUPPORT. The ends of bookings: ABORT, FINISH and END (R140, R155, R156), CANCEL (R139) and what the withdrawal of
claims leaves of a cell (R62, R64, R77). -/

namespace Sys2Proof.Machine

/-- The entry is the claim of a booking whose number is gone. -/
def isGoneClaim (gone : Nat → Bool) : Entry → Bool
  | .claim n _ _ => gone n
  | _ => false

/-- The claim at the head of the list is gone. -/
def headGone (gone : Nat → Bool) (l : List Entry) : Bool := l.head?.any (isGoneClaim gone)

/-- A record without the claims of the bookings gone, listed or covered; a recall that one stood for has ended (R64,
R77). -/
def claimlessFor (gone : Nat → Bool) (k : CellRec) : CellRec :=
  { k with list := withoutClaims gone k.list, covered := k.covered.filter fun n => !gone n,
           recallState := if headGone gone k.list then .idle else k.recallState }

namespace Laws

/-! ### Requests of the supervisor links that name a booking -/

section
variable {x : Sup} {s : State} {n : Nat} {b : Booking}

theorem firstRefusal_rulingChecks_badField (hx : x = s.holder) (h : n < 1 ∨ 65535 < n) :
    firstRefusal (rulingChecks s (.s x) n true) = some .badField := by
  have : numberInRange n = false := by
    rw [← Bool.not_eq_true]
    simp only [numberInRange, Bool.and_eq_true, decide_eq_true_eq]
    omega
  simp [rulingChecks, firstRefusal, authorized_of_holder hx, this]

theorem numberInRange_of (h1 : 1 ≤ n) (h2 : n ≤ 65535) : numberInRange n = true := by
  simp [numberInRange, h1, h2]

theorem firstRefusal_rulingChecks_noBooking (hx : x = s.holder) (h1 : 1 ≤ n) (h2 : n ≤ 65535)
    (hb : s.booking n = none) : firstRefusal (rulingChecks s (.s x) n true) = some .noBooking := by
  simp [rulingChecks, firstRefusal, authorized_of_holder hx, numberInRange_of h1 h2, hb]

theorem firstRefusal_rulingChecks_pass (hx : x = s.holder) (h1 : 1 ≤ n) (h2 : n ≤ 65535) (hb : s.booking n = some b) :
    firstRefusal (rulingChecks s (.s x) n true) = none := by
  simp [rulingChecks, firstRefusal, authorized_of_holder hx, numberInRange_of h1 h2, hb]

/-- ABORT and FINISH are refused alike where they name no booking. -/
theorem exec_ruling_refused (h : attends s (.s x)) {i : Instr} {k : ReqKind} {why : Reason}
    (hi : (i, k) ∈ [(Instr.abort (.s x) n, ReqKind.abort), (.finish (.s x) n, .finish)])
    (hr : firstRefusal (rulingChecks s (.s x) n true) = some why) :
    exec i s = .next (s.refuse (.s x) k why).transmit := by
  simp only [List.mem_cons, Prod.mk.injEq, List.not_mem_nil, or_false] at hi
  rcases hi with ⟨rfl, rfl⟩ | ⟨rfl, rfl⟩
  · exact exec_sup_attended h (.abort n) (show doAbort (.s x) n s = _ by unfold doAbort; rw [hr])
  · exact exec_sup_attended h (.finish n) (show doFinish (.s x) n s = _ by unfold doFinish; rw [hr])

theorem doAbort_named (hx : x = s.holder) (h1 : 1 ≤ n) (h2 : n ≤ 65535) (hb : s.booking n = some b) :
    doAbort (.s x) n s = if underWay b.state then
        (conclude s (bookingRelease s b none .abortedRequest none)).answer (.s x) .abort .nothing
      else s.refuse (.s x) .abort .noLift (.bookState b.state) := by
  unfold doAbort
  rw [firstRefusal_rulingChecks_pass hx h1 h2 hb, hb]

theorem doFinish_named (hx : x = s.holder) (h1 : 1 ≤ n) (h2 : n ≤ 65535) (hb : s.booking n = some b) :
    doFinish (.s x) n s = if b.state = .inspect then
        (conclude s (bookingRelease s b none .complete (some (.s x)))).answer (.s x) .finish .nothing
      else s.refuse (.s x) .finish .notInspect (.bookState b.state) := by
  unfold doFinish
  rw [firstRefusal_rulingChecks_pass hx h1 h2 hb, hb]

end

/-! ### END -/

section
variable {c : Crane} {s : State} {n : Nat} {b : Booking}

theorem exec_end_attended (h : attends s (.c c)) : exec (.endLift (.c c)) s = .next (doEnd c s).transmit :=
  exec_attended h .endLift

theorem liftOf_eq_none (h : (s.crane c).lift = none
    ∨ ∃ n b, (s.crane c).lift = some n ∧ s.booking n = some b ∧ b.state = .inspect) : liftOf s c = none := by
  unfold liftOf
  rcases h with h | ⟨n, b, h, hb, hst⟩
  · rw [h]; rfl
  · rw [h, Option.bind_some, hb]
    simp [Option.filter, inLift, hst]

theorem liftOf_eq_some (h : (s.crane c).lift = some n) (hb : s.booking n = some b)
    (hst : b.state = .admitted ∨ b.state = .landing) : liftOf s c = some b := by
  unfold liftOf
  rw [h, Option.bind_some, hb]
  rcases hst with e | e <;> simp [Option.filter, inLift, e]

theorem heldForInspection_iff (policy : EndHold) (b : Booking) : heldForInspection policy b = true
    ↔ b.inspect = true ∨ policy = .all ∨ (policy = .heavy ∧ b.cls = .heavy) := by
  simp [heldForInspection, or_assoc]

theorem doEnd_of_liftOf (hm : s.noMap = false) (hl : liftOf s c = some b) : doEnd c s = endLift s (.c c) b := by
  unfold doEnd
  rw [if_neg (by simp [hm]), hl]

theorem moveBooking_rest (s : State) (b : Booking) (st : BookState) :
    (moveBooking s b st).cells = s.cells ∧ (moveBooking s b st).cranes = s.cranes
      ∧ (moveBooking s b st).book.next = s.book.next := by
  have hk : ∀ {γ : Type} (g : State → γ), (∀ u : State, g u.sansNotices = g u) → g (moveBooking s b st)
      = g (s.modBooking b.number fun k => { k with state := st }) := fun g hg =>
    of_sansNotices g (notifyBooking_sansNotices _ _ _) hg
  exact ⟨hk State.cells fun _ => rfl, hk State.cranes fun _ => rfl, hk (fun u : State => u.book.next) fun _ => rfl⟩

theorem moveBooking_told (s : State) (b : Booking) (st : BookState) :
    bookingTold s (moveBooking s b st) b (some b.state) (.state st) := told_notifyBooking _ _ _

/-- A booking under way that moves to another state under way gives no occasion of service or admission. -/
theorem served_moveBooking {st : BookState} (hst : st ≠ .due) (hb : s.booking b.number = some b) :
    eventServed s (moveBooking s b st) = moveBooking s b st := by
  obtain ⟨hcells, hcranes, -⟩ := moveBooking_rest s b st
  have hcell : ∀ x, (moveBooking s b st).cell x = s.cell x := fun x => by unfold State.cell; rw [hcells]
  refine served_steady (moveBooking_sansBook s b st) (fun x => by rw [hcell]) (fun x => by rw [hcell])
    (fun c => by unfold State.crane; rw [hcranes]) fun m d hd hdue => ?_
  rw [booking_moveBooking] at hd
  split at hd
  · rw [hb] at hd
    cases hd
    exact absurd hdue hst
  · exact hd

end

/-- Settles O55: each of the three requests is a booking release served, but for an END under the inspection hold. -/
theorem liftsEndByAbortFinishAndEnd : Obligations.LiftsEndByAbortFinishAndEnd := by
  refine ⟨fun x s h hx i k why n hi hwhy => ?refused, fun c s h => ⟨fun hm => ?noMap, fun hm hl => ?noLift⟩,
    ?named⟩
  case refused =>
    rcases hwhy with ⟨rfl, hn⟩ | ⟨rfl, h1, h2, hb⟩
    · exact exec_ruling_refused h hi (firstRefusal_rulingChecks_badField hx hn)
    · exact exec_ruling_refused h hi (firstRefusal_rulingChecks_noBooking hx h1 h2 hb)
  case noMap =>
    rw [exec_end_attended h]
    exact congrArg (fun u : State => Host.Outcome.next u.transmit) (if_pos hm)
  case noLift =>
    rw [exec_end_attended h]
    unfold doEnd
    rw [if_neg (by simp [hm]), liftOf_eq_none hl]
  case named =>
    intro n b s hb h1 h2 ends
    have hnum := booking_number hb
    have hself := booking_self hb
    have ends_of : ∀ i p k r o by_, b.state ≠ .due → s.map.commit = .idle →
        exec i s = .next ((conclude s (bookingRelease s b none o by_)).answer p k r).transmit → ends i p k r o by_ := by
      intro i p k r o by_ hdue hidle hrow
      have hv : CellsOnly (fun z => (none : Option CellNo) = some z) s s := CellsOnly_refl _ s
      obtain ⟨hf, hsite, hports⟩ := answered_event (released_rest hv) (released_grows hv) hidle p k r
      obtain ⟨hend, hlift⟩ := released_ends hv hf
      obtain ⟨hothers, hnext, henvs, hplant, hcranes, hcells⟩ := released_leaves hv hf
      exact ⟨_, hrow, responds_transmit (answer_slot _ _ _ _), hnum ▸ hend, hnum ▸ hlift,
        fun x hx hg ht => released_keepsCell hv hf hx nofun hg ht, released_told hv hf,
        fun x hx hg ht => released_freesCell hv hf hself hdue hx nofun hg ht, fun j d hj => hothers j d (hnum ▸ hj), hnext,
        henvs, hsite, hports, hplant, hcranes, fun z hz => hcells z fun h => hz (h.resolve_left nofun)⟩
    refine ⟨fun x h hx hidle => ⟨fun hst => ?abort, fun hst => ?finish, fun hst => ?noLift, fun hst => ?notInspect⟩,
      fun c h hm hl hc _ hidle hst => ⟨fun hh => ?ends, fun hh => ?held⟩⟩
    case abort =>
      refine ends_of _ _ _ _ _ _ (by rcases hst with e | e | e <;> rw [e] <;> nofun) hidle
        (exec_sup_attended h (.abort n) ?_)
      exact (doAbort_named hx h1 h2 hb).trans (if_pos (by rcases hst with e | e | e <;> rw [e] <;> rfl))
    case finish =>
      exact ends_of _ _ _ _ _ _ (by rw [hst]; nofun) hidle
        (exec_sup_attended h (.finish n) ((doFinish_named hx h1 h2 hb).trans (if_pos hst)))
    case noLift =>
      refine exec_sup_attended h (.abort n) ((doAbort_named hx h1 h2 hb).trans (if_neg ?_))
      rcases hst with e | e | e <;> rw [e] <;> nofun
    case notInspect => exact exec_sup_attended h (.finish n) ((doFinish_named hx h1 h2 hb).trans (if_neg hst))
    case ends =>
      refine ends_of _ _ _ _ _ _ (by rcases hst with e | e <;> rw [e] <;> nofun) hidle ((exec_end_attended h).trans ?_)
      rw [doEnd_of_liftOf hm (liftOf_eq_some hl hb hst)]
      unfold endLift
      rw [if_neg fun k => hh ((heldForInspection_iff _ b).mp k), hnum]
    case held =>
      have hrow : exec (.endLift (.c c)) s = .next ((conclude s (moveBooking s b .inspect)).answer (.c c) .endLift
          (.ended n (.state .inspect))).transmit := by
        rw [exec_end_attended h, doEnd_of_liftOf hm (liftOf_eq_some hl hb hst)]
        unfold endLift
        rw [if_pos ((heldForInspection_iff _ b).mpr hh), hnum]
      obtain ⟨hf, hsite, hports⟩ := answered_event (moveBooking_sansBook s b .inspect)
        (moveBooking_grows (Grows.refl s) b .inspect) hidle (.c c) .endLift (.ended n (.state .inspect))
      obtain ⟨henvs, hplant⟩ := served_plant (moveBooking_sansBook s b .inspect) hf
      rw [served_moveBooking (by nofun) hself] at hf
      obtain ⟨hcells, hcranes, hnext⟩ := moveBooking_rest s b .inspect
      refine ⟨_, hrow, responds_transmit (answer_slot _ _ _ _), ?_, ?_, hf.cells.trans hcells,
        bookingTold_mono (moveBooking_told s b .inspect) (fun _ => rfl) hf.grows, fun j hj => ?_, ?_, henvs, hsite, hports,
        hplant⟩
      · rw [Follows_booking hf, booking_moveBooking, if_pos hnum.symm, hself]; rfl
      · rw [Follows_lift hf]; unfold State.crane; rw [hcranes]; exact hl
      · rw [Follows_booking hf, booking_moveBooking, if_neg (hnum ▸ hj)]
      · rw [hf.book, hnext]

/-! ### Claims that leave a cell -/

section
variable {gone : Nat → Bool} {l : List Entry}

theorem mem_withoutClaims {e : Entry} : e ∈ withoutClaims gone l ↔ e ∈ l ∧ isGoneClaim gone e = false := by
  unfold withoutClaims
  rw [List.mem_filter]
  refine and_congr_right fun _ => ?_
  cases e <;> simp [isGoneClaim]

theorem headGone_iff : headGone gone l = true ↔ (withoutClaims gone l).head? ≠ l.head? := by
  cases l with
  | nil => simp [headGone, withoutClaims]
  | cons e l =>
    cases he : isGoneClaim gone e with
    | true =>
      refine iff_of_true (by simp [headGone, he]) fun h => ?_
      have := (mem_withoutClaims.mp (List.mem_of_mem_head? (h.trans rfl))).2
      rw [he] at this
      cases this
    | false =>
      refine iff_of_false (by simp [headGone, he]) (not_not_intro ?_)
      unfold withoutClaims
      rw [List.filter_cons_of_pos]
      · rfl
      · cases e <;> simp_all [isGoneClaim]

theorem withoutClaims_single (n : Nat) (l : List Entry) : withoutClaims (· == n) l = withoutClaim n l := by
  unfold withoutClaims withoutClaim
  refine List.filter_congr fun e _ => ?_
  cases e <;> rfl

theorem claimlessFor_single (n : Nat) (k : CellRec) : claimlessFor (· == n) k = claimlessCell n k := by
  unfold claimlessFor claimlessCell
  have hcov : (k.covered.filter fun m => !(m == n)) = if k.covered = some n then none else k.covered := by
    cases k.covered with
    | none => rfl
    | some m => by_cases e : m = n <;> simp [Option.filter, e]
  have hhead : headGone (· == n) k.list = headClaim n k.list := by
    unfold headGone headClaim
    cases k.list.head? with
    | none => rfl
    | some e => cases e <;> rfl
  rw [withoutClaims_single, hcov, hhead]

variable {s u t : State} {x : CellNo}

theorem claimless_head (hc : u.cell x = claimlessFor gone (s.cell x)) :
    headChanged s u x = headGone gone (s.cell x).list := by
  rw [Bool.eq_iff_iff, headChanged_iff, hc, headGone_iff]
  rfl

theorem claimless_grant (hc : u.cell x = claimlessFor gone (s.cell x)) : (u.cell x).grant = (s.cell x).grant := by
  rw [hc]; rfl

/-- Where the claim at the head has left, no booking of the cell is left ready (R150). -/
theorem claimless_noneReady (hc : u.cell x = claimlessFor gone (s.cell x)) (hf : Follows (eventServed s u) t)
    (hg : headGone gone (s.cell x).list = true) : noneLeftReady t x := by
  have hch := (claimless_head hc).trans hg
  refine noneLeftReady_of hf ?_
  unfold cellOccasion
  rcases serveCells_cases s u x with ⟨r, hr⟩ | ⟨e, rest, r, -, -, hcan, hr⟩
  · have : headChanged s (serveCells s u) x = true := by
      rw [headChanged_iff, hr]; exact headChanged_iff.mp hch
    simp [this]
  · have hfree := ((canGrant_iff _ _ _).mp hcan).1
    rw [claimless_grant hc] at hfree
    rw [hr, hfree]
    simp

/-- The withdrawal of claims from a HELD cell (R62, R64, R76, R77). -/
theorem claimless_held (hc : u.cell x = claimlessFor gone (s.cell x)) (hm : u.map = s.map) (hgr : Grows s u)
    (hf : Follows (eventServed s u) t) {g : Grant} (hg : (s.cell x).grant = some g) :
    ((t.cell x).grant = some g ∧ (t.cell x).list = withoutClaims gone (s.cell x).list
        ∧ (t.cell x).covered = ((s.cell x).covered.filter fun n => !gone n)
        ∧ (headGone gone (s.cell x).list = true → recallTested s t x g (withoutClaims gone (s.cell x).list) .idle)
        ∧ (headGone gone (s.cell x).list = false → (t.cell x).recallState = (s.cell x).recallState))
      ∨ ∃ n ∈ ((s.cell x).covered.filter fun n => !gone n).toList
            ++ ((claimAt (withoutClaims gone (s.cell x).list)).map Prod.fst).toList,
          enteredBooked t x n g.holder (withoutClaims gone (s.cell x).list)
            ((s.cell x).covered.filter fun n => !gone n) := by
  have hu : (u.cell x).grant = some g := (claimless_grant hc).trans hg
  obtain ⟨-, htest, hsteady⟩ := serveCells_held (s0 := s) hu
  rcases held_served hu hf with ⟨⟨r, hr⟩, hsame⟩ | ⟨b, -, -, hclaim, hent⟩
  · refine .inl ⟨by rw [hr]; exact hu, by rw [hr, hc]; rfl, by rw [hr, hc]; rfl, fun hh => ?_, fun hh => ?_⟩
    · have := htest (.inl ((claimless_head hc).trans hh))
      rw [hc] at this
      have hidle : (claimlessFor gone (s.cell x)).recallState = .idle := if_pos hh
      rw [hidle] at this
      exact recallTested_mono this hm.symm (fun y => (mask_grows hgr _).symm) (by rw [hsame])
        ((admits_served s u).grows.trans hf.grows)
    · rw [hsame, hsteady ((claimless_head hc).trans hh) hg, hc]
      exact if_neg (by simp [hh])
  · rw [hc] at hclaim hent
    refine .inr ⟨b.number, ?_, hent⟩
    rcases hclaim with h | ⟨d, hd⟩
    · exact List.mem_append_left _ (Option.mem_toList.mpr h)
    · refine List.mem_append_right _ (Option.mem_toList.mpr ?_)
      exact (congrArg (Option.map Prod.fst) hd).trans rfl

/-- The withdrawal of claims from a FREE cell whose head stays leaves it, or a booking is admitted on it. -/
theorem claimless_free (hc : u.cell x = claimlessFor gone (s.cell x)) (hrest : u.sansBook = s.sansBook)
    (hk : claimsKnown u x (withoutClaims gone (s.cell x).list)) (hf : Follows (eventServed s u) t) (hcov : ((s.cell x).covered.filter fun n => !gone n) = none)
    (hh : headGone gone (s.cell x).list = false) :
    t.cell x = { s.cell x with list := withoutClaims gone (s.cell x).list, covered := none }
      ∨ ∃ n d, claimAt (withoutClaims gone (s.cell x).list) = some (n, d)
          ∧ enteredBooked t x n d (withoutClaims gone (s.cell x).list) none := by
  have hcell : u.cell x = { s.cell x with list := withoutClaims gone (s.cell x).list, covered := none } := by
    rw [hc]
    unfold claimlessFor
    rw [hcov, if_neg (by simp [hh])]
  have hserved : (serveCells s u).cell x = u.cell x := serveCells_unchanged hrest (claimless_grant hc) (by
    rw [hcell]
    exact not_not.mp fun hne => absurd (headGone_iff.mpr hne) (by simp [hh]))
  rcases (admits_served s u).cell x with e | ⟨b, hb, hx⟩
  · exact .inl ((Follows_cell hf x).trans (e.trans (hserved.trans hcell)))
  · rcases Enters_claims hb hx (hserved.trans hcell) with h | ⟨d, hd⟩
    · cases h
    · obtain ⟨b', hb', hn, rfl⟩ := claimAt_known hk hd
      have heq : b = b' := Option.some.inj (hb.known.symm.trans ((serveCells_booking s u _).trans (hn ▸ hb'.1)))
      exact .inr ⟨b.number, b'.crane, hd, heq ▸ enteredBooked_follows hf (enteredBooked_of hb hx (hserved.trans hcell))⟩

/-- What becomes of a cell from which claims are withdrawn (R62, R64, R68, R76, R77). -/
theorem claimsLeft_of (hc : u.cell x = claimlessFor gone (s.cell x)) (hrest : u.sansBook = s.sansBook) (hgr : Grows s u)
    (hk : cellClaimsDue s x → claimsKnown u x (withoutClaims gone (s.cell x).list))
    (hf : Follows (eventServed s u) t) : claimsLeft s t x gone := by
  intro hdue
  have hm := map_of_sansBook hrest
  have hiff : (withoutClaims gone (s.cell x).list).head? ≠ (s.cell x).list.head?
      ↔ headGone gone (s.cell x).list = true := headGone_iff.symm
  refine ⟨fun h => claimless_noneReady hc hf (hiff.mp h), fun g hg => ?_, fun hg hcov => ⟨fun hh => ?_, fun hh => ?_⟩⟩
  · refine (claimless_held hc hm hgr hf hg).imp_left fun ⟨h1, h2, h3, h4, h5⟩ => ⟨h1, h2, h3, fun h => h4 (hiff.mp h),
      fun h => h5 (Bool.eq_false_iff.mpr fun k => h (hiff.mpr k))⟩
  · refine newHeadServed_of ?_ hf
    have hch := (claimless_head hc).trans (hiff.mp hh)
    exact {
      cell := by
        rw [hc]
        unfold claimlessFor
        rw [if_pos (hiff.mp hh)]
        exact congrArg₂ (fun a b => CellRec.mk a b _ _) hg hcov
      map := hm
      wind := wind_of_sansBook hrest
      grows := hgr
      serves := by simp [serviceDue, hch]
      occasion := by simp [cellOccasion, hch]
      former := fun _ _ _ _ => .inl hg
      claims := hk }
  · refine (claimless_free hc hrest (hk hdue) hf hcov
      (Bool.eq_false_iff.mpr fun k => hh (hiff.mpr k))).imp_right fun ⟨n, d, hat, hent⟩ => ?_
    rw [hat]
    exact hent

/-- Where claims that are gone stood on no record of a cell, the withdrawal leaves it. -/
theorem claimlessFor_self {k : CellRec} (h1 : ∀ n ∈ k.covered, gone n = false)
    (h2 : ∀ e ∈ k.list, isGoneClaim gone e = false) : claimlessFor gone k = k := by
  have hl : withoutClaims gone k.list = k.list := by
    unfold withoutClaims
    refine List.filter_eq_self.mpr fun e he => ?_
    have := h2 e he
    cases e <;> simp_all [isGoneClaim]
  have hcov : (k.covered.filter fun n => !gone n) = k.covered := by
    cases hk : k.covered with
    | none => rfl
    | some n => simp [Option.filter, h1 n hk]
  have hhead : headGone gone k.list = false := by
    rw [← Bool.not_eq_true, headGone_iff, hl]
    exact not_not_intro rfl
  unfold claimlessFor
  rw [hl, hcov, hhead]
  rfl

/-- Service and admissions bring no claim to a cell that has none. -/
theorem lacksClaim_served {n : Nat} (h : lacksClaim n (u.cell x)) : lacksClaim n ((eventServed s u).cell x) := by
  have hserved : ((serveCells s u).cell x).covered = (u.cell x).covered := by
    rcases serveCells_cases s u x with ⟨r, hr⟩ | ⟨_, _, r, -, -, -, hr⟩ <;> rw [hr]
  refine ⟨?_, fun e he => h.2 e ((list_served s u x).subset he)⟩
  rcases (admits_served s u).cell x with e | ⟨b, hb, hx⟩
  · rw [e, hserved]; exact h.1
  · rw [hb.cells x hx]
    show (if _ then none else _) ≠ _
    rw [hserved]
    split
    · nofun
    · exact h.1

end

end Laws
end Sys2Proof.Machine

/-! SUPPORT. CANCEL (R139). -/

namespace Sys2Proof.Machine

/-- The state with a booking ended by CANCEL, its claims withdrawn where it was DUE, before the event is served. -/
def cancelled (s : State) (p : Port) (b : Booking) : State :=
  endBooking (if b.state = .due then withdrawClaims s b else s) b .cancelledRequest (some p)

namespace Laws

section
variable {p : Port} {s t : State} {n : Nat} {b : Booking}

theorem exec_cancel_attended (h : attends s p) : exec (.cancel p n) s = .next (doCancel p n s).transmit :=
  exec_attended h (.cancel n)

theorem doCancel_noMap (h : s.noMapLink p = true) : doCancel p n s = s.refuse p .cancel .noMap := if_pos h

theorem doCancel_badField (h : s.noMapLink p = false) (hn : n < 1 ∨ 65535 < n) :
    doCancel p n s = s.refuse p .cancel .badField := by
  have : numberInRange n = false := by
    rw [← Bool.not_eq_true]
    simp only [numberInRange, Bool.and_eq_true, decide_eq_true_eq]
    omega
  unfold doCancel
  rw [if_neg (by simp [h]), if_pos (by simp [this])]

theorem doCancel_noBooking (h : s.noMapLink p = false) (h1 : 1 ≤ n) (h2 : n ≤ 65535) (hb : s.bookingSeen p n = none) :
    doCancel p n s = s.refuse p .cancel .noBooking := by
  unfold doCancel
  rw [if_neg (by simp [h]), if_neg (by simp [numberInRange_of h1 h2]), hb]

theorem doCancel_seen (h : s.noMapLink p = false) (h1 : 1 ≤ n) (h2 : n ≤ 65535) (hb : s.bookingSeen p n = some b) :
    doCancel p n s = if underWay b.state then s.refuse p .cancel .inProgress (.bookState b.state)
      else (conclude s (cancelled s p b)).answer p .cancel .nothing := by
  unfold doCancel
  rw [if_neg (by simp [h]), if_neg (by simp [numberInRange_of h1 h2]), hb]
  rfl

/-! ### The booking out of the book -/

theorem cancelled_rest (s : State) (p : Port) (b : Booking) : (cancelled s p b).sansBook = s.sansBook := by
  unfold cancelled
  rw [endBooking_sansBook]
  split
  · exact withdrawClaims_sansBook s b
  · rfl

theorem cancelled_grows (s : State) (p : Port) (b : Booking) : Grows s (cancelled s p b) := by
  unfold cancelled
  refine endBooking_grows ?_ _ _ _
  split
  · exact withdrawClaims_grows (Grows.refl s) b
  · exact Grows.refl s

theorem withdrawn_sansCells (s : State) (b : Booking) :
    (if b.state = .due then withdrawClaims s b else s).sansCells = s.sansCells := by
  split
  · exact withdrawClaims_sansCells s b
  · rfl

theorem cancelled_booking (s : State) (p : Port) (b : Booking) (m : Nat) :
    (cancelled s p b).booking m = if m = b.number then none else s.booking m := by
  unfold cancelled
  rw [booking_endBooking, booking_of_sansCells (withdrawn_sansCells s b)]

theorem cancelled_live (d : Booking) (h : d ∈ (cancelled s p b).book.live) : d ∈ s.book.live := by
  unfold cancelled at h
  rw [endBooking_live, book_of_sansCells (withdrawn_sansCells s b)] at h
  exact (List.mem_filter.mp h).1

theorem cancelled_crane {c : Crane} (h : c ≠ b.crane) : (cancelled s p b).crane c = s.crane c := by
  unfold cancelled
  rw [(endBooking_forgets _ b _ _ c).2 h, crane_of_sansCells (withdrawn_sansCells s b)]

theorem cancelled_cell (s : State) (p : Port) (b : Booking) (x : CellNo) : (cancelled s p b).cell x
    = if b.state = .due then claimlessFor (· == b.number) (s.cell x) else s.cell x := by
  unfold cancelled
  rw [endBooking_cell]
  split
  · rw [withdrawClaims_cell, claimlessFor_single]
  · rfl

theorem cancelled_told (s : State) (p : Port) (b : Booking) :
    bookingTold s (cancelled s p b) b (some b.state) (.outcome .cancelledRequest) (some p) := by
  refine bookingTold_mono (endBooking_told _ b _ _) (fun y => ?_) (Grows.refl _)
  split
  · exact (mask_grows (withdrawClaims_grows (Grows.refl s) b) _).symm
  · rfl

/-- The claims of a cell but those of the booking gone are those of DUE bookings that stay. -/
theorem claimsKnown_withoutClaims {u : State} {gone : Nat → Bool} {x : CellNo} (h : cellClaimsDue s x)
    (hu : ∀ d, dueNaming s x d → gone d.number = false → u.booking d.number = some d) :
    claimsKnown u x (withoutClaims gone (s.cell x).list) := by
  intro e he
  obtain ⟨hmem, hgone⟩ := mem_withoutClaims.mp he
  refine (claimsKnown_of_due h e hmem).imp_right fun ⟨d, hd, hed⟩ => ⟨d, ⟨hu d hd ?_, hd.2⟩, hed⟩
  rw [hed] at hgone
  exact hgone

/-- No claim of a booking stands on a cell that it does not list. -/
theorem claimless_of_unlisted (hb : s.booking b.number = some b) (h : cellClaimsDue s x) (hx : x ∉ b.cells) :
    claimlessFor (· == b.number) (s.cell x) = s.cell x := by
  have hne : ∀ d, dueNaming s x d → (d.number == b.number) = false := fun d hd => by
    rw [beq_eq_false_iff_ne]
    intro e
    have := hd.1
    rw [e, hb] at this
    exact hx (Option.some.inj this ▸ hd.2.2)
  refine claimlessFor_self (fun m hm => ?_) fun e he => ?_
  · obtain ⟨d, -, hd, rfl⟩ := h.1 m hm
    exact hne d hd
  · rcases h.2 e he with k | ⟨d, -, hd, rfl⟩
    · cases e with
      | claim => cases k
      | entry => rfl
      | auto => rfl
    · exact hne d hd

/-- The crane table names no booking that is not DUE or under way. -/
theorem cancelled_crane_same (hb : s.booking b.number = some b) (hd : b.state ≠ .due) (hu : underWay b.state = false)
    (h : liftsUnderWay s) (c : Crane) : (cancelled s p b).crane c = s.crane c := by
  by_cases hc : c = b.crane
  · have hlift : (s.crane c).lift ≠ some b.number := fun e => by
      obtain ⟨d, hd', -, hst⟩ := (h c).1 _ e
      obtain rfl : b = d := Option.some.inj (hb.symm.trans hd')
      rw [hu] at hst; cases hst
    have hdue : (s.crane c).due ≠ some b.number := fun e => by
      obtain ⟨d, hd', -, hst⟩ := (h c).2 _ e
      obtain rfl : b = d := Option.some.inj (hb.symm.trans hd')
      exact hd hst
    unfold cancelled
    rw [if_neg hd, endBooking_crane, if_pos hc, if_neg hlift, if_neg hdue]
  · exact cancelled_crane hc

theorem served_due_ne {u : State} {m : Nat} {c : Crane} (h : (u.crane c).due ≠ some m)
    (hf : Follows (eventServed s u) t) : (t.crane c).due ≠ some m := by
  rw [Follows_due hf]
  rcases (admits_served s u).crane c with e | ⟨d, hd, rfl⟩
  · rw [e, serveCells_crane]; exact h
  · rw [hd.crane]; nofun

end

/-- Settles O54: a refusal at each stage of `doCancel`; past them the booking ends, and what its claims leave is
served. -/
theorem cancelEndsABookingNotUnderWay : Obligations.CancelEndsABookingNotUnderWay := by
  intro p n s h
  refine ⟨fun hm => ?_, fun hm hn => ?_, fun hm h1 h2 => ⟨fun hnone => ?_, fun b hb hseen => ⟨fun hst => ?_,
    fun hst hidle => ?_⟩⟩⟩
  · exact (exec_cancel_attended h).trans (by rw [doCancel_noMap hm])
  · exact (exec_cancel_attended h).trans (by rw [doCancel_badField hm hn])
  · exact (exec_cancel_attended h).trans (by rw [doCancel_noBooking hm h1 h2 (bookingSeen_eq_none hnone)])
  · refine (exec_cancel_attended h).trans ?_
    rw [doCancel_seen hm h1 h2 (bookingSeen_eq_some hb hseen), if_pos (by rcases hst with e | e | e <;> rw [e] <;> rfl)]
  · have hnum := booking_number hb
    have hself := booking_self hb
    have hunder : underWay b.state = false := by rcases hst with e | e | e <;> rw [e] <;> rfl
    have hrow : exec (.cancel p n) s = .next ((conclude s (cancelled s p b)).answer p .cancel .nothing).transmit := by
      refine (exec_cancel_attended h).trans ?_
      rw [doCancel_seen hm h1 h2 (bookingSeen_eq_some hb hseen), if_neg (by simp [hunder])]
    obtain ⟨hf, hsite, hports⟩ := answered_event (cancelled_rest s p b) (cancelled_grows s p b) hidle p .cancel .nothing
    obtain ⟨hcell, hcrane⟩ := due_of_live (s := s) (u := cancelled s p b) cancelled_live
    obtain ⟨henvs, hplant⟩ := served_plant (cancelled_rest s p b) hf
    have hforgets : ((cancelled s p b).crane b.crane).lift ≠ some b.number
        ∧ ((cancelled s p b).crane b.crane).due ≠ some b.number := (endBooking_forgets _ b _ _ b.crane).1 rfl
    obtain ⟨hend, hlift⟩ := served_ended (n := b.number) (by rw [cancelled_booking, if_pos rfl]) hforgets.1 hf
    have hdueCell : b.state = .due → ∀ y, (cancelled s p b).cell y = claimlessFor (· == n) (s.cell y) := fun hd y => by
      rw [cancelled_cell, if_pos hd, hnum]
    refine ⟨_, hrow, responds_transmit (answer_slot _ _ _ _), hnum ▸ hend, fun k d hk hd hs => ?_,
      hnum ▸ served_due_ne hforgets.2 hf, hnum ▸ hlift, fun hd hl => ?_, fun hd y => ?_, fun y g hg => ?_, fun hd y => ?_,
      fun hd hclaims => ?_, bookingTold_mono (cancelled_told s p b) (fun _ => rfl) ((served_grows s _).trans hf.grows), henvs,
      hsite, hports, hplant, served_keepsCranes (fun c hc => cancelled_crane fun e => hc (congrArg some e)) hcrane hf⟩
    · rw [Follows_booking hf]
      exact served_booking (by rw [cancelled_booking, if_neg (hnum ▸ hk)]; exact hd) hs
    · have hsame : ∀ y, (cancelled s p b).cell y = s.cell y := fun y => by rw [cancelled_cell, if_neg hd]
      have hcells : (cancelled s p b).cells = s.cells := Vector.ext fun i hi => hsame ⟨i, hi⟩
      rw [hf.cells, served_steady (cancelled_rest s p b) (fun y => by rw [hsame]) (fun y => by rw [hsame])
        (cancelled_crane_same hself hd hunder hl) fun m d hmd _ => ?_, hcells]
      rw [cancelled_booking] at hmd
      split at hmd
      · cases hmd
      · exact hmd
    · have hlacks : lacksClaim n ((cancelled s p b).cell y) := by
        rw [hdueCell hd, claimlessFor_single]
        exact lacksClaim_claimlessCell n _
      rw [Follows_cell hf]
      exact lacksClaim_served hlacks
    · have hu : ((cancelled s p b).cell y).grant = some g := by
        rw [cancelled_cell]
        split <;> exact hg
      obtain ⟨kind, hk, hkind⟩ := served_holders (s0 := s) hu
      exact ⟨kind, by rw [Follows_cell hf]; exact hk, hkind⟩
    · refine claimsLeft_of (hdueCell hd y) (cancelled_rest s p b) (cancelled_grows s p b) (fun hcd => ?_) hf
      refine claimsKnown_withoutClaims hcd fun d hdn hgone => ?_
      rw [cancelled_booking, if_neg (by simpa [hnum] using hgone)]
      exact hdn.1
    · refine served_keepsCells (cancelled_rest s p b) (fun y hy => ?_) hcell hf
      rw [hdueCell hd, ← hnum]
      exact claimless_of_unlisted hself (hclaims y) hy

end Laws
end Sys2Proof.Machine

/-! SUPPORT. The end of a pending commit (R18). -/

namespace Sys2Proof.Machine

/-- The state with a pending commit abandoned and told (R18), before the event is served. -/
def commitEnded (s : State) (n : Notice) : State := (abandonCommit s).notifyClass .site n

namespace Laws

section
variable {s t : State} {n : Notice}

theorem commitEnded_talks (s : State) (n : Notice) : (commitEnded s n).sansNotices = (abandonCommit s).sansNotices :=
  notifyClass_sansNotices _ _ _

theorem commitEnded_cell (s : State) (n : Notice) (x : CellNo) : (commitEnded s n).cell x = s.cell x :=
  notifyClass_cell _ _ _ _

theorem commitEnded_map (s : State) (n : Notice) :
    (commitEnded s n).map = { s.map with commit := .idle, draining := Vector.replicate 64 false } :=
  of_sansNotices State.map (commitEnded_talks s n) fun _ => rfl

theorem commitEnded_envs (s : State) (n : Notice) : (commitEnded s n).envs = s.envs :=
  (of_sansNotices State.envs (commitEnded_talks s n) fun _ => rfl).trans rfl

theorem commitEnded_wind (s : State) (n : Notice) : (commitEnded s n).wind = s.wind :=
  (of_sansNotices State.wind (commitEnded_talks s n) fun _ => rfl).trans rfl

theorem commitEnded_store (s : State) (n : Notice) : (commitEnded s n).store = s.store :=
  (of_sansNotices State.store (commitEnded_talks s n) fun _ => rfl).trans rfl

theorem commitEnded_book (s : State) (n : Notice) : (commitEnded s n).book = s.book :=
  (of_sansNotices State.book (commitEnded_talks s n) fun _ => rfl).trans rfl

theorem commitEnded_crane (s : State) (n : Notice) (c : Crane) : (commitEnded s n).crane c = s.crane c :=
  notifyClass_crane _ _ _ _

theorem commitEnded_grows (s : State) (n : Notice) : Grows s (commitEnded s n) := by
  unfold commitEnded
  refine notifyClass_grows ?_ _ _
  exact (Grows.refl s).ports rfl

theorem commitEnded_undrained (s : State) (n : Notice) (x : CellNo) : (commitEnded s n).isDraining x = false := by
  unfold State.isDraining
  rw [commitEnded_map]
  simp

/-- The head of a cell is served where its mark clears. -/
theorem commitEnded_serviceDue (s : State) (n : Notice) (x : CellNo) :
    serviceDue s (commitEnded s n) x = s.isDraining x := by
  have hh : headChanged s (commitEnded s n) x = false := by
    rw [← Bool.not_eq_true, headChanged_iff, commitEnded_cell]; exact not_not_intro rfl
  have ht : touchLost s (commitEnded s n) x = false := by
    unfold touchLost
    simp [touches_of_envs (commitEnded_envs s n)]
  unfold serviceDue
  rw [hh, ht, commitEnded_cell, windBars_of_wind (commitEnded_wind s n), commitEnded_undrained]
  cases (s.cell x).grant <;> simp

theorem commitEnded_canGrant {x : CellNo} (hg : (s.cell x).grant = none) (c : Crane) :
    canGrant (commitEnded s n) x c = true ↔ s.windBars = false ∧ s.othersTouch c x = false := by
  rw [canGrant_iff, commitEnded_cell, State.barred, commitEnded_undrained, windBars_of_wind (commitEnded_wind s n),
    othersTouch_of_envs (commitEnded_envs s n), Bool.or_false]
  exact and_iff_right hg

/-- A cell is left by the service of an abandoned commit unless it is FREE with a request at its head and its mark
clears. -/
theorem commitEnded_unserved {x : CellNo} (h : ¬(s.isDraining x = true ∧ (s.cell x).grant = none ∧ (s.cell x).list ≠ [])) :
    (serveCells s (commitEnded s n)).cell x = s.cell x := by
  rw [← commitEnded_cell s n x]
  cases hg : (s.cell x).grant with
  | some g =>
    obtain ⟨-, -, hsteady⟩ := serveCells_held (s0 := s) (s := commitEnded s n) (x := x) (g := g)
      (by rw [commitEnded_cell]; exact hg)
    refine hsteady ?_ hg
    rw [← Bool.not_eq_true, headChanged_iff, commitEnded_cell]; exact not_not_intro rfl
  | none =>
    cases hd : s.isDraining x with
    | false => exact serveCells_steady ((commitEnded_serviceDue s n x).trans hd) (by rw [commitEnded_cell])
    | true =>
      have hl : (s.cell x).list = [] := not_not.mp fun hl => h ⟨hd, hg, hl⟩
      refine serveCells_refused (by rw [commitEnded_cell]; exact hg) fun e rest he _ => ?_
      rw [commitEnded_cell, hl] at he
      cases he

variable (hf : Follows (eventServed s (commitEnded s n)) t)
include hf

theorem commitEnded_marksCleared : marksCleared s t := by
  have hdue : ∀ x, ¬dueForCell s x → t.cell x = (serveCells s (commitEnded s n)).cell x := fun x hx => by
    rw [Follows_cell hf, served_cell (by rwa [dueForCell_congr (commitEnded_book s n)])]
  refine ⟨fun x g hg => ?_, fun x hx hd => (hdue x hd).trans (commitEnded_unserved hx), fun x e rest hm hd hg hl => ?_⟩
  · obtain ⟨kind, hk, hkind⟩ := served_holders (s0 := s) (u := commitEnded s n) (x := x) (g := g)
      (by rw [commitEnded_cell]; exact hg)
    exact ⟨kind, by rw [Follows_cell hf]; exact hk, hkind⟩
  · have hgrow : Grows (serveCells s (commitEnded s n)) t := (admits_served s _).grows.trans hf.grows
    show if isRequest e = true ∧ s.windBars = false ∧ s.othersTouch (entryCrane e) x = false then
      (t.cell x).grant = some ⟨entryCrane e, requestKind e⟩ ∧ (t.cell x).list = rest
        ∧ told t (.c (entryCrane e)) (.granted (entryCrane e) x (requestKind e)) else _
    split
    · rename_i hc
      obtain ⟨he, hcan⟩ := hc
      obtain ⟨ht, ⟨r, hr⟩, -⟩ := serveCells_granted (s0 := s) ((commitEnded_serviceDue s n x).trans hm)
        (by rw [commitEnded_cell]; exact hl) he ((commitEnded_canGrant hg _).mpr hcan) (.inl (by rw [hg]; nofun))
      rw [hdue x hd, hr]
      exact ⟨rfl, rfl, told_grows hgrow ht⟩
    · rename_i hc
      rw [hdue x hd, ← commitEnded_cell s n x]
      refine serveCells_refused (by rw [commitEnded_cell]; exact hg) fun e' rest' hl' he => ?_
      rw [commitEnded_cell, hl] at hl'
      cases hl'
      exact Bool.eq_false_iff.mpr fun k => hc ⟨he, (commitEnded_canGrant hg _).mp k⟩

theorem commitEnded_keeps :
    t.map = { s.map with commit := .idle, draining := Vector.replicate 64 false } ∧ t.store = s.store ∧ t.wind = s.wind
      ∧ t.envs = s.envs ∧ keepsCranes none s t ∧ keepsBook s t := by
  have hrest := served_sansBook s (commitEnded s n)
  have hbook := commitEnded_book s n
  refine ⟨hf.map.trans ((map_of_sansBook hrest).trans (commitEnded_map s n)),
    hf.store.trans ((store_of_sansBook hrest).trans (commitEnded_store s n)),
    hf.wind.trans ((wind_of_sansBook hrest).trans (commitEnded_wind s n)),
    hf.envs.trans ((envs_of_sansBook hrest).trans (commitEnded_envs s n)),
    served_keepsCranes (fun c _ => commitEnded_crane s n c) (fun c => (dueForCrane_congr hbook c).mp) hf,
    by rw [hf.book, served_next, hbook], fun m b hb hd => ?_⟩
  rw [Follows_booking hf]
  exact served_booking ((booking_congr hbook m).trans hb) hd

end

theorem endCommit_eq (s : State) (n : Notice) : endCommit s n = conclude s (commitEnded s n) := rfl

theorem commitEnded_core (s : State) (n : Notice) : (conclude s (commitEnded s n)).core = (abandonCommit s).core :=
  (conclude_core s _).trans (core_of_sansNotices (commitEnded_talks s n))

theorem commitEnded_idle (s : State) (n : Notice) : (commitEnded s n).map.commit = .idle := by rw [commitEnded_map]

theorem commitEnded_told (s : State) (n : Notice) : Grows (abandonCommit s) (conclude s (commitEnded s n)) := by
  have h : Grows (abandonCommit s) (commitEnded s n) := notifyClass_grows (Grows.refl _) _ _
  exact (h.trans (served_grows s _)).trans (Follows_conclude (commitEnded_idle s n)).grows

/-- An abandoned commit is no change of the site or the ports. -/
theorem kept_abandonCommit {s t : State} {p : Option Port} (h : keepsSite (abandonCommit s) t ∧ keepsPorts p (abandonCommit s) t) :
    keepsSite s t ∧ keepsPorts p s t := h

/-- Settles O25: an abandoned commit changes marks alone, and the heads whose mark clears are served. -/
theorem pendingCommitIsAbandoned : Obligations.PendingCommitIsAbandoned := by
  intro s
  refine ⟨fun x left h hx hp => ?_, fun x h hx hi => ?_, fun hr hp => ?_⟩
  · have hcancel : doCommitCancel x s
        = (conclude s (commitEnded s .commitCancelled)).answer (.s x) .commitCancel .nothing := by
      rw [← endCommit_eq]
      simp [doCommitCancel, firstRefusal, authorized_of_holder hx, isPending, hp]
    have hf := Follows_trans (Follows_conclude (s := s) (commitEnded_idle s .commitCancelled))
      (Follows_answer _ (.s x) .commitCancel .nothing)
    obtain ⟨hmap, hstore, hwind, henvs, hcranes, hbook⟩ := commitEnded_keeps hf
    obtain ⟨hsite, hports⟩ := kept_abandonCommit (kept_answered (commitEnded_core s .commitCancelled)
      (commitEnded_told s .commitCancelled) (.s x) ⟨respKind .commitCancel, .ok, none, .nothing⟩)
    exact ⟨_, exec_sup_attended h .commitCancel hcancel, responds_transmit (answer_slot _ _ _ _), hmap, hstore, hwind,
      henvs, hsite, hports, hcranes, hbook, commitEnded_marksCleared hf⟩
  · refine exec_sup_attended h .commitCancel ?_
    show doCommitCancel x s = _
    simp [doCommitCancel, firstRefusal, authorized_of_holder hx, isPending, hi]
  · have hrow : exec .commitExpired s = .next (conclude s (commitEnded s .commitExpired)).transmit := by
      refine (next_whenRunning hr _).trans ?_
      unfold commitTimerEnds
      rw [if_pos hp, endCommit_eq]
    have hf := Follows_trans (Follows_conclude (s := s) (commitEnded_idle s .commitExpired)) (Follows_transmit _)
    obtain ⟨hmap, hstore, hwind, henvs, hcranes, hbook⟩ := commitEnded_keeps hf
    obtain ⟨hsite, hports⟩ := kept_abandonCommit (kept_event (commitEnded_core s .commitExpired)
      (commitEnded_told s .commitExpired))
    exact ⟨_, hrow, hmap, hstore, hwind, henvs, hsite, hports, hcranes, hbook, commitEnded_marksCleared hf⟩

end Laws
end Sys2Proof.Machine

/-! SUPPORT. Changes of one crane's touch set (R54): what they leave of the cells (R70 to R72), and REPORT (R25 to R28). -/

namespace Sys2Proof.Machine

/-- `u` is `s` with one crane's record and envelope record changed, cells changed and notices told. -/
structure TouchMoves (c : Crane) (s u : State) : Prop where
  book : u.book = s.book
  map : u.map = s.map
  wind : u.wind = s.wind
  store : u.store = s.store
  crane : ∀ d, d ≠ c → u.crane d = s.crane d
  env : ∀ d, d ≠ c → u.env d = s.env d
  core : u.core = s.core
  cfg : ∀ l, (u.sig l).cfg = (s.sig l).cfg
  grows : Grows s u

/-- What the loss of touch makes of a record (R71, R72). -/
def endedRec (s : State) (c : Crane) (k : CellRec) : CellRec :=
  if k.grant = some ⟨c, .auto⟩ then ⟨none, none, withoutAuto c (freedOf s k), .idle⟩
  else { k with list := withoutAuto c k.list }

/-- The crane tries to auto-take a cell with this record (R70). -/
def autoTakes (s : State) (c : Crane) (x : CellNo) (k : CellRec) : Bool :=
  (s.cellDecl x).any (fun d => !d.guarded) && (s.crane c).link == .live && (s.crane c).duty == .inService
    && s.touches c x && !(k.grant.any fun g => g.holder == c) && !hasEntry c k.list

/-- Nothing stands against an auto-take of the cell (R70). -/
def autoGrants (s : State) (c : Crane) (x : CellNo) (k : CellRec) : Bool :=
  (k.grant.isNone && !s.barred x && !s.othersTouch c x) && k.list.isEmpty

/-- What auto-take makes of a record (R70). -/
def takenRec (s : State) (c : Crane) (x : CellNo) (k : CellRec) : CellRec :=
  if autoTakes s c x k then
    if autoGrants s c x k then { k with grant := some ⟨c, .auto⟩ } else { k with list := k.list ++ [.auto c] }
  else k

namespace Laws

/-! ### One crane's change -/

theorem cell_of_cells {s t : State} (h : t.cells = s.cells) (x : CellNo) : t.cell x = s.cell x := by
  unfold State.cell; rw [h]

section
variable {c : Crane} {s u v t : State} {x : CellNo}

theorem TouchMoves_of_sansCells (h : TouchMoves c s v) (hr : u.sansCells = v.sansCells) (hg : Grows v u) :
    TouchMoves c s u where
  book := (book_of_sansCells hr).trans h.book
  map := (map_of_sansBook (sansBook_of hr)).trans h.map
  wind := (wind_of_sansBook (sansBook_of hr)).trans h.wind
  store := (store_of_sansBook (sansBook_of hr)).trans h.store
  crane := fun d hd => (crane_of_sansCells hr d).trans (h.crane d hd)
  env := fun d hd => (env_of_envs (envs_of_sansBook (sansBook_of hr)) d).trans (h.env d hd)
  core := (core_of_sansCells hr).trans h.core
  cfg := fun l => (of_sansBook (fun w : State => (w.sig l).cfg) (sansBook_of hr) fun _ => rfl).trans (h.cfg l)
  grows := h.grows.trans hg

theorem TouchMoves_booking (h : TouchMoves c s u) (n : Nat) : u.booking n = s.booking n := booking_congr h.book n

theorem touches_iff (s : State) (c : Crane) (x : CellNo) : s.touches c x = true ↔ x ∈ touchCells (s.env c) := by
  simp [State.touches]

/-- The cells that a touch set has lost are those that the crane's own has. -/
theorem TouchMoves_touchLost (h : TouchMoves c s u) (x : CellNo) : leftTouch s u c x ↔ touchLost s u x = true := by
  unfold touchLost leftTouch
  rw [List.any_eq_true]
  constructor
  · rintro ⟨h1, h2⟩
    refine ⟨c, mem_allCranes c, ?_⟩
    rw [(touches_iff s c x).mpr h1, Bool.eq_false_iff.mpr fun k => h2 ((touches_iff u c x).mp k)]
    rfl
  · rintro ⟨d, -, hd⟩
    simp only [Bool.and_eq_true, Bool.not_eq_true'] at hd
    obtain rfl : d = c := by
      by_contra hne
      unfold State.touches at hd
      rw [h.env d hne, hd.1] at hd
      exact absurd hd.2 nofun
    exact ⟨(touches_iff s d x).mp hd.1, fun k => by rw [(touches_iff u d x).mpr k] at hd; exact absurd hd.2 nofun⟩

/-- A cell whose grant and head are as before, and that has not left the crane's touch set, is not served. -/
theorem TouchMoves_serviceDue (h : TouchMoves c s u) (hx : ¬leftTouch s u c x)
    (hg : (u.cell x).grant = (s.cell x).grant) (hh : (u.cell x).list.head? = (s.cell x).list.head?) :
    serviceDue s u x = false := by
  have hch : headChanged s u x = false := by rw [← Bool.not_eq_true, headChanged_iff]; exact not_not_intro hh
  have hlost : touchLost s u x = false := Bool.eq_false_iff.mpr fun k => hx ((TouchMoves_touchLost h x).mpr k)
  unfold serviceDue
  rw [hg, hch, hlost, windBars_of_wind h.wind, isDraining_of_map h.map]
  cases (s.cell x).grant <;> simp

/-- What the event of the change leaves. -/
theorem TouchMoves_keeps (h : TouchMoves c s u) (hf : Follows (eventServed s u) t) :
    t.envs = u.envs ∧ (∀ e, e ≠ c → t.env e = s.env e) ∧ keepsPlant s t ∧ keepsCranes (some c) s t ∧ keepsBook s t := by
  have hrest := served_sansBook s u
  have henvs := hf.envs.trans (envs_of_sansBook hrest)
  refine ⟨henvs, fun e he => (env_of_envs henvs e).trans (h.env e he),
    ⟨hf.map.trans ((map_of_sansBook hrest).trans h.map), hf.store.trans ((store_of_sansBook hrest).trans h.store),
      hf.wind.trans ((wind_of_sansBook hrest).trans h.wind), fun l => (hf.cfg l).trans
        ((of_sansBook (fun v : State => (v.sig l).cfg) hrest fun _ => rfl).trans (h.cfg l))⟩,
    served_keepsCranes (fun d hd => h.crane d fun e => hd (congrArg some e)) (fun d => (dueForCrane_congr h.book d).mp) hf,
    ?_, fun n b hb hd => ?_⟩
  · rw [hf.book, served_next, h.book]
  · rw [Follows_booking hf]
    exact served_booking ((TouchMoves_booking h n).trans hb) hd

/-- The changed crane's record after the event, but for what admissions and feedback make of it. -/
theorem served_record (hf : Follows (eventServed s u) t) (c : Crane) :
    (t.crane c).report = (u.crane c).report ∧ (t.crane c).clamp = (u.crane c).clamp
      ∧ (t.crane c).since = (u.crane c).since ∧ (t.crane c).link = (u.crane c).link
      ∧ (t.crane c).duty = (u.crane c).duty ∧ (t.crane c).parkSw = (u.crane c).parkSw
      ∧ (t.crane c).vaneFb = (u.crane c).vaneFb := by
  have h1 := hf.crane c
  have h2 := served_sansLift s u c
  simp only [CraneRec.sansFault, CraneRec.mk.injEq] at h1
  simp only [CraneRec.sansLift, CraneRec.mk.injEq] at h2
  obtain ⟨a1, a2, a3, a4, a5, a6, a7, -⟩ := h1
  obtain ⟨b1, b2, b3, b4, b5, b6, b7, -⟩ := h2
  simp_all

end

/-! ### Touch ended -/

section
variable {c : Crane} {s w : State} {x : CellNo}

theorem withoutAuto_idem (c : Crane) (l : List Entry) : withoutAuto c (withoutAuto c l) = withoutAuto c l := by
  simp [withoutAuto, List.filter_filter]

theorem touchEnded_cell (c : Crane) (s : State) (y z : CellNo) : (touchEnded c s y).cell z
    = if z = y then endedRec s c (s.cell y) else s.cell z := by
  unfold touchEnded endedRec
  by_cases hz : z = y
  · subst hz
    rw [if_pos rfl]
    split
    · rw [cell_modCell_same, releaseCell_cell]; rfl
    · rw [cell_modCell_same]
  · rw [cell_modCell_other _ hz, if_neg hz]
    split
    · rw [releaseCell_cell_other hz]
    · rfl

theorem endedRec_congr (h : w.sansCells = s.sansCells) (k : CellRec) : endedRec w c k = endedRec s c k := by
  unfold endedRec
  rw [freedOf_congr fun n _ => booking_of_sansCells h n]

theorem endedRec_idem (s : State) (c : Crane) (k : CellRec) : endedRec s c (endedRec s c k) = endedRec s c k := by
  unfold endedRec
  split
  · rw [if_neg nofun, withoutAuto_idem]
  · simp only [withoutAuto_idem]

theorem foldl_touchEnded_cell (c : Crane) (s : State) (l : List CellNo) (z : CellNo) :
    (l.foldl (touchEnded c) s).cell z = if z ∈ l then endedRec s c (s.cell z) else s.cell z :=
  foldl_cellwise (g := State.sansCells) (F := fun _ => endedRec s c) (v := s) (fun w y => touchEnded_sansCells c w y)
    (fun w y z hw => by rw [touchEnded_cell, endedRec_congr hw]) (fun _ => endedRec_idem s c) l rfl z

/-! ### Auto-take -/

theorem autoTake_eq (c : Crane) (s : State) (x : CellNo) : autoTake c s x
    = if autoTakes s c x (s.cell x) = true then
        if autoGrants s c x (s.cell x) = true then (setGrant s x ⟨c, .auto⟩ .auto).notify (.c c) (.granted c x .auto)
        else s.modCell x fun k => { k with list := k.list ++ [.auto c] }
      else s := rfl

theorem autoTake_steady (h : autoTakes s c x (s.cell x) = false) : autoTake c s x = s := by
  rw [autoTake_eq, if_neg (by simp [h])]

theorem autoTake_granted (h : autoTakes s c x (s.cell x) = true) (hg : autoGrants s c x (s.cell x) = true) :
    autoTake c s x = (setGrant s x ⟨c, .auto⟩ .auto).notify (.c c) (.granted c x .auto) := by
  rw [autoTake_eq, if_pos h, if_pos hg]

theorem autoTake_queued (h : autoTakes s c x (s.cell x) = true) (hg : autoGrants s c x (s.cell x) = false) :
    autoTake c s x = s.modCell x fun k => { k with list := k.list ++ [.auto c] } := by
  rw [autoTake_eq, if_pos h, if_neg (by simp [hg])]

theorem autoTake_cell (c : Crane) (s : State) (y z : CellNo) : (autoTake c s y).cell z
    = if z = y then takenRec s c y (s.cell y) else s.cell z := by
  unfold takenRec
  cases h : autoTakes s c y (s.cell y) with
  | true =>
    rw [if_pos rfl]
    cases hg : autoGrants s c y (s.cell y) with
    | true => rw [if_pos rfl, autoTake_granted h hg, notify_cell, setGrant_cell]
    | false =>
      rw [if_neg Bool.false_ne_true, autoTake_queued h hg]
      by_cases hz : z = y
      · rw [hz, if_pos rfl, cell_modCell_same]
      · rw [if_neg hz, cell_modCell_other _ hz]
  | false =>
    rw [if_neg Bool.false_ne_true, autoTake_steady h]
    split
    · rename_i e; rw [e]
    · rfl

theorem cellDecl_of_map (h : w.map = s.map) (x : CellNo) : w.cellDecl x = s.cellDecl x := by
  unfold State.cellDecl; rw [h]

theorem takenRec_congr (h : w.sansCells = s.sansCells) (k : CellRec) : takenRec w c x k = takenRec s c x k := by
  have hb := sansBook_of h
  unfold takenRec autoTakes autoGrants
  rw [cellDecl_of_map (map_of_sansBook hb), crane_of_sansCells h, touches_of_envs (envs_of_sansBook hb),
    barred_of (map_of_sansBook hb) (wind_of_sansBook hb), othersTouch_of_envs (envs_of_sansBook hb)]

/-- A cell that has been auto-taken is not tried again. -/
theorem autoTakes_taken (s : State) (c : Crane) (x : CellNo) {k : CellRec} (h : autoTakes s c x k = true) :
    autoTakes s c x (takenRec s c x k) = false := by
  unfold takenRec
  rw [if_pos h]
  split
  · simp [autoTakes]
  · simp [autoTakes, hasEntry, entryCrane]

theorem takenRec_idem (s : State) (c : Crane) (x : CellNo) (k : CellRec) :
    takenRec s c x (takenRec s c x k) = takenRec s c x k := by
  cases h : autoTakes s c x k with
  | true => exact if_neg (by simp [autoTakes_taken s c x h])
  | false =>
    have hself : takenRec s c x k = k := if_neg (by simp [h])
    rw [hself, hself]

theorem foldl_autoTake_cell (c : Crane) (s : State) (l : List CellNo) (z : CellNo) :
    (l.foldl (autoTake c) s).cell z = if z ∈ l then takenRec s c z (s.cell z) else s.cell z :=
  foldl_cellwise (g := State.sansCells) (F := takenRec s c) (v := s) (fun w y => autoTake_sansCells c w y)
    (fun w y z hw => by rw [autoTake_cell, takenRec_congr hw]) (takenRec_idem s c) l rfl z

/-- What an operation on one cell tells of a record, its pass over a list tells. -/
theorem foldl_told {γ : Type} {f : State → CellNo → State} {g : State → γ} {v : State} {x : CellNo} {k : CellRec}
    {p : Port} {n : Notice} (hrest : ∀ w y, g (f w y) = g w) (hother : ∀ w y z, z ≠ y → (f w y).cell z = w.cell z)
    (hgrows : ∀ u w y, Grows u w → Grows u (f w y)) (htold : ∀ w, g w = g v → w.cell x = k → told (f w x) p n)
    (l : List CellNo) {w : State} (hx : x ∈ l) (hw : g w = g v) (hk : w.cell x = k) : told (l.foldl f w) p n := by
  induction l generalizing w with
  | nil => cases hx
  | cons y l ih =>
    by_cases hy : x = y
    · subst hy
      exact told_grows (foldl_grows f (fun w y h => hgrows _ w y h) l (Grows.refl _)) (htold w hw hk)
    · exact ih ((List.mem_cons.mp hx).resolve_left hy) ((hrest w y).trans hw) ((hother w y x hy).trans hk)

end

/-! ### The cell table's part of a change of touch set -/

section
variable {c : Crane} {s v u t : State} {old : List CellNo} {whole : Bool} {x : CellNo}

theorem touchService_cell (v : State) (c : Crane) (old : List CellNo) (whole : Bool) (x : CellNo) :
    (touchService v c old whole).cell x
      = if x ∈ old ∧ x ∉ touchCells (v.env c) then endedRec v c (v.cell x)
        else if x ∈ touchCells (v.env c) ∧ (whole = true ∨ x ∉ old) then takenRec v c x (v.cell x)
        else v.cell x := by
  unfold touchService
  extract_lets new w
  have hw : w.sansCells = v.sansCells := foldl_keeps State.sansCells _ (touchEnded_sansCells c) _ _
  have hcell : ∀ z, w.cell z = if z ∈ old ∧ z ∉ touchCells (v.env c) then endedRec v c (v.cell z) else v.cell z :=
    fun z => by
      show (List.foldl (touchEnded c) v (old.filter fun x => !new.contains x)).cell z = _
      rw [foldl_touchEnded_cell]
      simp [List.mem_filter, new]
  rw [foldl_autoTake_cell, takenRec_congr hw, hcell x]
  by_cases h1 : x ∈ old ∧ x ∉ touchCells (v.env c)
  · have : x ∉ new.filter fun x => whole || !old.contains x := fun h => h1.2 (List.mem_filter.mp h).1
    rw [if_pos h1, if_neg this, if_pos h1]
  · have : x ∈ (new.filter fun x => whole || !old.contains x)
        ↔ x ∈ touchCells (v.env c) ∧ (whole = true ∨ x ∉ old) := by simp [List.mem_filter, new]
    rw [if_neg h1, if_neg h1]
    simp only [this]

/-- A cell that is granted by auto-take is told to its crane (R70). -/
theorem touchService_told (hx : x ∈ touchCells (v.env c)) (hw : whole = true ∨ x ∉ old)
    (h : autoTakes v c x (v.cell x) = true) (hg : autoGrants v c x (v.cell x) = true) :
    told (touchService v c old whole) (.c c) (.granted c x .auto) := by
  unfold touchService
  extract_lets new w
  have hrest : w.sansCells = v.sansCells := foldl_keeps State.sansCells _ (touchEnded_sansCells c) _ _
  have hcell : w.cell x = v.cell x := by
    show (List.foldl (touchEnded c) v (old.filter fun x => !new.contains x)).cell x = _
    rw [foldl_touchEnded_cell, if_neg]
    intro k
    have := (List.mem_filter.mp k).2
    simp [new, hx] at this
  refine foldl_told (g := State.sansCells) (v := v) (k := v.cell x) (autoTake_sansCells c)
    (fun w y z hz => by rw [autoTake_cell, if_neg hz]) (fun u w y h => autoTake_grows c h y) (fun w' hw' hk => ?_) _
    (List.mem_filter.mpr ⟨hx, by simpa using hw⟩) hrest hcell
  rw [autoTake_granted]
  · exact told_notify _ _ _
  · rw [hk, ← h]
    unfold autoTakes
    have hb := sansBook_of hw'
    rw [cellDecl_of_map (map_of_sansBook hb), crane_of_sansCells hw', touches_of_envs (envs_of_sansBook hb)]
  · rw [hk, ← hg]
    unfold autoGrants
    have hb := sansBook_of hw'
    rw [barred_of (map_of_sansBook hb) (wind_of_sansBook hb), othersTouch_of_envs (envs_of_sansBook hb)]

/-! What the service of the event leaves. -/

variable (h : TouchMoves c s v) (hcells : v.cells = s.cells)
  (hf : Follows (eventServed s (touchService v c (touchCells (s.env c)) whole)) t)
include h

theorem TouchMoves_service : TouchMoves c s (touchService v c (touchCells (s.env c)) whole) :=
  TouchMoves_of_sansCells h (touchService_sansCells v c _ whole) (touchService_grows (Grows.refl v) c _ whole)

include hf

theorem touched_env : t.envs = v.envs :=
  (TouchMoves_keeps (TouchMoves_service h) hf).1.trans
    (envs_of_sansBook (sansBook_of (touchService_sansCells v c _ whole)))

theorem touched_left (x : CellNo) :
    leftTouch s t c x ↔ x ∈ touchCells (s.env c) ∧ x ∉ touchCells (v.env c) := by
  unfold leftTouch
  rw [env_of_envs (touched_env h hf)]

theorem touched_left_lost (x : CellNo) :
    leftTouch s t c x ↔ leftTouch s (touchService v c (touchCells (s.env c)) whole) c x := by
  rw [touched_left h hf]
  unfold leftTouch
  rw [env_of_envs (envs_of_sansBook (sansBook_of (touchService_sansCells v c _ whole)))]

omit h in
theorem touched_crane : (t.crane c).link = (v.crane c).link ∧ (t.crane c).duty = (v.crane c).duty := by
  obtain ⟨-, -, -, hlink, hduty, -⟩ := served_record hf c
  rw [hlink, hduty, crane_of_sansCells (touchService_sansCells v c _ whole)]
  exact ⟨rfl, rfl⟩

theorem touched_tries {P : Prop} (hw : whole = true ↔ P) (x : CellNo) : triesAutoTake s t c P x
    ↔ autoTakes v c x (s.cell x) = true ∧ (whole = true ∨ x ∉ touchCells (s.env c)) := by
  obtain ⟨hlink, hduty⟩ := touched_crane hf
  unfold triesAutoTake autoTakes
  rw [hlink, hduty, env_of_envs (touched_env h hf), cellDecl_of_map h.map, hw]
  simp only [Bool.and_eq_true, beq_iff_eq, touches_iff, Bool.not_eq_true', Option.any_eq_true, State.holds]
  tauto

theorem touched_served (hd : ¬dueForCell s x) :
    t.cell x = (serveCells s (touchService v c (touchCells (s.env c)) whole)).cell x := by
  rw [Follows_cell hf, served_cell (by rwa [dueForCell_congr (TouchMoves_service h).book])]

include hcells

theorem touched_cell_left (hx : leftTouch s t c x) :
    (touchService v c (touchCells (s.env c)) whole).cell x = endedRec v c (s.cell x) := by
  rw [touchService_cell, cell_of_cells hcells, if_pos ((touched_left h hf x).mp hx)]

theorem touched_cell_joined (hx : ¬leftTouch s t c x) (hin : x ∈ touchCells (v.env c))
    (hocc : whole = true ∨ x ∉ touchCells (s.env c)) :
    (touchService v c (touchCells (s.env c)) whole).cell x = takenRec v c x (s.cell x) := by
  rw [touchService_cell, cell_of_cells hcells, if_neg fun k => hx ((touched_left h hf x).mpr k), if_pos ⟨hin, hocc⟩]

theorem touched_cell_other (hx : ¬leftTouch s t c x)
    (hout : ¬(x ∈ touchCells (v.env c) ∧ (whole = true ∨ x ∉ touchCells (s.env c)))) :
    (touchService v c (touchCells (s.env c)) whole).cell x = s.cell x := by
  rw [touchService_cell, cell_of_cells hcells, if_neg fun k => hx ((touched_left h hf x).mpr k), if_neg hout]

/-- An AUTO grant of a cell that has left the touch set is released (R72). -/
theorem touched_freed (hx : leftTouch s t c x) (hg : (s.cell x).grant = some ⟨c, .auto⟩)
    (he : hasEntry c (s.cell x).list = false) : freedAndServed s t x := by
  have hm := TouchMoves_service h (whole := whole)
  refine freedAndServed_of hg (fun _ => ?_) hm.map hm.wind hm.grows
    (fun b hb => (TouchMoves_booking hm _).trans hb.1) hf
  rw [touched_cell_left h hcells hf hx, endedRec, if_pos hg, freedOf_congr (s := s) fun n _ => booking_congr h.book n,
    freedOf_cell]
  have hauto : withoutAuto c (freedList s x) = freedList s x := by
    refine List.filter_eq_self.mpr fun e hmem => ?_
    have hold : ∀ f ∈ (s.cell x).list, (!(isAutoEntry f && entryCrane f == c)) = true := fun f hf' => by
      have := List.any_eq_false.mp he f hf'
      simp_all
    unfold freedList at hmem
    split at hmem
    · rename_i f hf'
      simp only [Option.bind_eq_some_iff, Option.map_eq_some_iff] at hf'
      obtain ⟨n, -, b, -, rfl⟩ := hf'
      rcases mem_placeEntry hmem with rfl | hmem
      · rfl
      · exact hold e hmem
    · exact hold e hmem
  rw [hauto]

/-- An AUTO request leaves the list of a cell that has left the touch set, and the head is served (R54, R68, R71). -/
theorem touched_listLeft (hx : leftTouch s t c x) (hg : (s.cell x).grant ≠ some ⟨c, .auto⟩) :
    listLeft s t x (withoutAuto c (s.cell x).list) True := by
  have hm := TouchMoves_service h (whole := whole)
  refine listLeft_of ?_ hm.book hm.map hm.wind hm.grows (fun hdue => ?_) ?_ hf
  · rw [touched_cell_left h hcells hf hx, endedRec, if_neg hg]
  · intro e he
    exact claimsKnown_mono (claimsKnown_of_due hdue) (fun b hb => (TouchMoves_booking hm _).trans hb.1) e
      (List.mem_of_mem_filter he)
  · rw [← TouchMoves_touchLost hm]
    exact iff_of_true trivial ((touched_left_lost h hf x).mp hx)

/-- A cell that is auto-taken on its occasion (R70). -/
theorem touched_taken {P : Prop} (hw : whole = true ↔ P) (hd : ¬dueForCell s x) (hx : triesAutoTake s t c P x) :
    autoTaken s t c x := by
  have hm := TouchMoves_service h (whole := whole)
  obtain ⟨htakes, hocc⟩ := (touched_tries h hf hw x).mp hx
  obtain ⟨-, -, -, hnew, -⟩ := hx
  rw [env_of_envs (touched_env h hf)] at hnew
  have hstay : ¬leftTouch s t c x := fun k => ((touched_left h hf x).mp k).2 hnew
  have hstay' : ¬leftTouch s (touchService v c (touchCells (s.env c)) whole) c x :=
    fun k => hstay ((touched_left_lost h hf x).mpr k)
  have hk : v.cell x = s.cell x := cell_of_cells hcells x
  have hcell := touched_cell_joined h hcells hf hstay hnew hocc
  rw [takenRec, if_pos htakes] at hcell
  have hgrants : autoGrants v c x (s.cell x) = true ↔ (s.cell x).grant = none ∧ s.barred x = false
      ∧ (s.cell x).list = [] ∧ t.othersTouch c x = false := by
    unfold autoGrants
    rw [barred_of h.map h.wind, othersTouch_of_envs (touched_env h hf)]
    simp only [Bool.and_eq_true, Option.isNone_iff_eq_none, Bool.not_eq_true', List.isEmpty_iff]
    tauto
  unfold autoTaken
  cases hg : autoGrants v c x (s.cell x) with
  | true =>
    rw [if_pos (hgrants.mp hg)]
    rw [if_pos hg] at hcell
    have hgrant : ((touchService v c (touchCells (s.env c)) whole).cell x).grant = some ⟨c, .auto⟩ := by rw [hcell]
    obtain ⟨⟨r, hr⟩, htest, -⟩ := serveCells_held (s0 := s) hgrant
    constructor
    · have hrec := htest (.inr (by rw [(hgrants.mp hg).1]; nofun))
      rw [hcell, (hgrants.mp hg).2.2.1] at hrec
      have hsame : ((serveCells s (touchService v c (touchCells (s.env c)) whole)).cell x).recallState
          = (s.cell x).recallState := hrec
      rw [hr] at hsame
      rw [touched_served h hf hd, hr, hcell, show r = _ from hsame]
    · exact told_grows ((served_grows s _).trans hf.grows) (touchService_told hnew hocc (hk ▸ htakes) (hk ▸ hg))
  | false =>
    rw [if_neg fun k => absurd (hgrants.mpr k) (by simp [hg])]
    rw [if_neg (by simp [hg])] at hcell
    rw [touched_served h hf hd, appended_unserved rfl hcell (fun hl => ?_) (fun hl hfree => ?_), hcell]
    · refine TouchMoves_serviceDue hm hstay' (by rw [hcell]) ?_
      rw [hcell]
      exact List.head?_append_of_ne_nil _ hl
    · refine Bool.eq_false_iff.mpr fun hcan => ?_
      obtain ⟨-, hbar, hothers⟩ := (canGrant_iff _ _ _).mp hcan
      rw [barred_of hm.map hm.wind] at hbar
      rw [othersTouch_of_envs (TouchMoves_keeps hm hf).1.symm] at hothers
      exact absurd (hgrants.mpr ⟨hfree, hbar, hl, hothers⟩) (by simp [hg])

/-- A cell without occasion is left. -/
theorem touched_same {P : Prop} (hw : whole = true ↔ P) (hd : ¬dueForCell s x) (hx : ¬triesAutoTake s t c P x)
    (hl : ¬leftTouch s t c x) : t.cell x = s.cell x := by
  have hm := TouchMoves_service h (whole := whole)
  have hcell : (touchService v c (touchCells (s.env c)) whole).cell x = s.cell x := by
    by_cases hin : x ∈ touchCells (v.env c) ∧ (whole = true ∨ x ∉ touchCells (s.env c))
    · rw [touched_cell_joined h hcells hf hl hin.1 hin.2]
      exact if_neg fun htakes => hx ((touched_tries h hf hw x).mpr ⟨htakes, hin.2⟩)
    · exact touched_cell_other h hcells hf hl hin
  rw [touched_served h hf hd, serveCells_steady ?_ (by rw [hcell]), hcell]
  exact TouchMoves_serviceDue hm (fun k => hl ((touched_left_lost h hf x).mpr k)) (by rw [hcell]) (by rw [hcell])

/-- What a change of the crane's touch set leaves of the cells (R54, R68, R70 to R72). -/
theorem touchServed_of {P : Prop} (hw : whole = true ↔ P) : touchServed s t c P := fun _ =>
  ⟨touched_freed h hcells hf, touched_listLeft h hcells hf, touched_taken h hcells hf hw, touched_same h hcells hf hw⟩

/-- Cells outside the old and the new touch set are left (R54). -/
theorem touched_keepsCells : keepsCells (fun x => x ∈ touchCells (s.env c) ∨ x ∈ touchCells (t.env c)) s t := by
  intro x hx hd
  obtain ⟨hold, hnew⟩ := not_or.mp hx
  refine touched_same (P := whole = true) h hcells hf Iff.rfl hd (fun k => hnew k.2.2.2.1) fun k => hold k.1

end

end Laws
end Sys2Proof.Machine

/-! SUPPORT. REPORT (R25 to R28). -/

namespace Sys2Proof.Machine

/-- The state of a REPORT with the touch set formed, before its cells are changed (R28). -/
def reportFormed (s : State) (c : Crane) (d : Decl) (r : RawReport) : State :=
  formTouch (fullComputation (storeReport s c d r) c) c

namespace Laws

/-! ### Operations on one crane's records -/

section
variable {c : Crane} {s u : State}

theorem TouchMoves_refl (c : Crane) (s : State) : TouchMoves c s s :=
  ⟨rfl, rfl, rfl, rfl, fun _ _ => rfl, fun _ _ => rfl, rfl, fun _ => rfl, Grows.refl s⟩

theorem TouchMoves_modCrane (h : TouchMoves c s u) (f : CraneRec → CraneRec) : TouchMoves c s (u.modCrane c f) :=
  ⟨h.book, h.map, h.wind, h.store, fun d hd => by rw [crane_modCrane, if_neg hd]; exact h.crane d hd, h.env, h.core, h.cfg,
    h.grows.ports rfl⟩

theorem TouchMoves_modEnv (h : TouchMoves c s u) (f : EnvRec → EnvRec) : TouchMoves c s (u.modEnv c f) :=
  ⟨h.book, h.map, h.wind, h.store, h.crane, fun d hd => by rw [env_modEnv, if_neg hd]; exact h.env d hd, h.core, h.cfg,
    h.grows.ports rfl⟩

theorem TouchMoves_notifyClass (h : TouchMoves c s u) (k : NoticeClass) (n : Notice) :
    TouchMoves c s (u.notifyClass k n) :=
  TouchMoves_of_sansCells h (notifyClass_sansCells u k n) (notifyClass_grows (Grows.refl u) k n)

theorem TouchMoves_setLink (h : TouchMoves c s u) (l : LinkState) : TouchMoves c s (setLink u c l) :=
  TouchMoves_notifyClass (TouchMoves_modCrane h _) _ _

theorem TouchMoves_formTouch (h : TouchMoves c s u) : TouchMoves c s (formTouch u c) := TouchMoves_modEnv h _

theorem TouchMoves_fullComputation (h : TouchMoves c s u) : TouchMoves c s (fullComputation u c) := by
  unfold fullComputation
  split
  · exact TouchMoves_modEnv h _
  · exact h

theorem setLink_cells (s : State) (c : Crane) (l : LinkState) : (setLink s c l).cells = s.cells :=
  (of_sansNotices State.cells (notifyClass_sansNotices _ _ _) fun _ => rfl).trans rfl

theorem setLink_crane (s : State) (c : Crane) (l : LinkState) :
    (setLink s c l).crane c = { s.crane c with link := l } := by
  unfold setLink
  rw [notifyClass_crane, crane_modCrane, if_pos rfl]

theorem setLink_env (s : State) (c d : Crane) (l : LinkState) : (setLink s c l).env d = s.env d :=
  (of_sansNotices (fun u : State => u.env d) (notifyClass_sansNotices _ _ _) fun _ => rfl).trans rfl

theorem fullComputation_cells (s : State) (c : Crane) : (fullComputation s c).cells = s.cells := by
  unfold fullComputation
  split <;> rfl

theorem fullComputation_crane (s : State) (c d : Crane) : (fullComputation s c).crane d = s.crane d := by
  unfold fullComputation
  split <;> rfl

theorem fullComputation_map (s : State) (c : Crane) : (fullComputation s c).map = s.map := by
  unfold fullComputation
  split <;> rfl

/-- A full computation of a declared crane with a report (R44, R51). -/
theorem fullComputation_env {d : Decl} {r : Report} (hd : s.decl c = some d) (hr : (s.crane c).report = some r) :
    (fullComputation s c).env c = { s.env c with
      env := some (envelopeOf d r s.gustNow)
      sat := saturated (envelopeOf d r s.gustNow).lead (envelopeOf d r s.gustNow).margin
      reportSet := some (reportSetOf s.map.active c (envelopeOf d r s.gustNow) r) } := by
  unfold fullComputation
  rw [hd, hr]
  dsimp only
  rw [env_modEnv, if_pos rfl]

/-- The cells of a touch set formed are those of R51's table. -/
theorem formTouch_cells (s : State) (c : Crane) : touchCells ((formTouch s c).env c) = touchSetOf s c := by
  rw [formTouch_env, if_pos rfl, touchCells_formed]

theorem formTouch_reportSet (s : State) (c : Crane) : ((formTouch s c).env c).reportSet = (s.env c).reportSet
    ∧ ((formTouch s c).env c).env = (s.env c).env := by
  rw [formTouch_env, if_pos rfl]
  exact ⟨rfl, rfl⟩

theorem touchLine_declared {l : LinkState} (hd : s.declared c = true) (hl : (s.crane c).link = l) :
    touchSetOf s c = if (s.crane c).duty = .outOfService then oosSet s.map.active c
      else if l = .live ∨ l = .stale then (s.env c).reportSet.getD [] else memberCells s.map.active c := by
  subst hl
  unfold touchSetOf touchLine
  by_cases ho : (s.crane c).duty = .outOfService
  · simp [hd, ho]
  · cases hl : (s.crane c).link <;> simp [hd, ho]

end

/-! ### The report stored -/

section
variable {c : Crane} {s t : State} {d : Decl} {r : RawReport}

theorem TouchMoves_storeReport (s : State) (c : Crane) (d : Decl) (r : RawReport) :
    TouchMoves c s (storeReport s c d r) := by
  unfold storeReport
  dsimp only
  split
  · exact TouchMoves_modCrane (TouchMoves_refl c s) _
  · exact TouchMoves_setLink (TouchMoves_modCrane (TouchMoves_refl c s) _) _

theorem storeReport_cells (s : State) (c : Crane) (d : Decl) (r : RawReport) : (storeReport s c d r).cells = s.cells := by
  unfold storeReport
  dsimp only
  split
  · rfl
  · rw [setLink_cells]; rfl

theorem storeReport_crane (s : State) (c : Crane) (d : Decl) (r : RawReport) : (storeReport s c d r).crane c
    = { s.crane c with report := some (clampedReport d r), clamp := clampFlagsOf d r, since := some 0, link := .live } := by
  unfold storeReport
  dsimp only
  split
  · rename_i h
    rw [crane_modCrane, if_pos rfl, ← h]
  · rw [setLink_crane, crane_modCrane, if_pos rfl]

theorem reportFormed_moves (s : State) (c : Crane) (d : Decl) (r : RawReport) : TouchMoves c s (reportFormed s c d r) :=
  TouchMoves_formTouch (TouchMoves_fullComputation (TouchMoves_storeReport s c d r))

theorem reportFormed_cells (s : State) (c : Crane) (d : Decl) (r : RawReport) : (reportFormed s c d r).cells = s.cells :=
  (fullComputation_cells _ c).trans (storeReport_cells s c d r)

theorem reportFormed_crane (s : State) (c : Crane) (d : Decl) (r : RawReport) : (reportFormed s c d r).crane c
    = { s.crane c with report := some (clampedReport d r), clamp := clampFlagsOf d r, since := some 0, link := .live } :=
  (fullComputation_crane _ c c).trans (storeReport_crane s c d r)

theorem decl_of_map {t : State} (h : t.map = s.map) (c : Crane) : t.decl c = s.decl c := by
  unfold State.decl; rw [h]

theorem gustNow_of_core {t : State} (h : t.core = s.core) : t.gustNow = s.gustNow := by
  obtain ⟨-, -, -, -, hmeas, -⟩ := keepsSite_of_core h
  unfold State.gustNow
  rw [hmeas]

/-- The envelope, the report set and the touch set of an accepted REPORT (R28, R44, R51). -/
theorem reportFormed_env (hd : s.decl c = some d) :
    ((reportFormed s c d r).env c).env = some (envelopeOf d (clampedReport d r) s.gustNow)
      ∧ ((reportFormed s c d r).env c).reportSet
        = some (reportSetOf s.map.active c (envelopeOf d (clampedReport d r) s.gustNow) (clampedReport d r))
      ∧ some (touchCells ((reportFormed s c d r).env c))
        = if (s.crane c).duty = .outOfService then some (oosSet s.map.active c)
          else ((reportFormed s c d r).env c).reportSet := by
  have hm := TouchMoves_storeReport s c d r
  have hcrane := storeReport_crane s c d r
  have henv := fullComputation_env (s := storeReport s c d r) (c := c) ((decl_of_map hm.map c).trans hd)
    (r := clampedReport d r) (by rw [hcrane])
  rw [gustNow_of_core hm.core, hm.map] at henv
  obtain ⟨hset, hcomputed⟩ := formTouch_reportSet (fullComputation (storeReport s c d r) c) c
  have hmap : (fullComputation (storeReport s c d r) c).map = s.map := (fullComputation_map _ c).trans hm.map
  have hcr := (fullComputation_crane (storeReport s c d r) c c).trans hcrane
  have hdecl : (fullComputation (storeReport s c d r) c).declared c = true := by
    unfold State.declared
    rw [decl_of_map hmap, hd]
    rfl
  unfold reportFormed
  rw [hset, hcomputed, formTouch_cells, touchLine_declared hdecl (l := .live) (by rw [hcr]), hmap, hcr, henv]
  refine ⟨rfl, rfl, ?_⟩
  split <;> rfl

end

/-- Settles O26: the report is stored, the touch set formed, and its change handed on to the cells (`touchServed_of`). -/
theorem reportIsStoredAndFormsTheTouchSet : Obligations.ReportIsStoredAndFormsTheTouchSet := by
  intro c r s h
  have hrow : exec (.report (.c c) r) s = .next (doReport c r s).transmit := exec_attended h (.report r)
  refine ⟨fun hd => ?_, fun d hd hidle => ?_⟩
  · have hnone : s.decl c = none := by simpa [State.declared] using hd
    rw [hrow, doReport, hnone]
  · have hdo : doReport c r s = conclude s (touchService (reportFormed s c d r) c (touchCells (s.env c))
        ((s.crane c).link != .live)) := by
      unfold doReport
      rw [hd]
      rfl
    have hm := reportFormed_moves s c d r
    have hcells := reportFormed_cells s c d r
    have hserv := TouchMoves_service hm (whole := (s.crane c).link != .live)
    have hidle' : (touchService (reportFormed s c d r) c (touchCells (s.env c))
        ((s.crane c).link != .live)).map.commit = .idle := by rw [hserv.map]; exact hidle
    have hf := Follows_trans (Follows_conclude (s := s) hidle') (Follows_transmit _)
    obtain ⟨hsite, hports⟩ := kept_event ((conclude_core s _).trans hserv.core)
      (Follows_grows_conclude hserv.grows (Follows_conclude hidle'))
    obtain ⟨-, hothers, hplant, hcranes, hbook⟩ := TouchMoves_keeps hserv hf
    have henv := env_of_envs (touched_env hm hf) c
    obtain ⟨hformed, hset, htouch⟩ := reportFormed_env (r := r) hd
    obtain ⟨hreport, hclamp, hsince, hlink, hduty, hpark, hvane⟩ := served_record hf c
    have hcrane := (crane_of_sansCells (touchService_sansCells (reportFormed s c d r) c (touchCells (s.env c))
      ((s.crane c).link != .live)) c).trans (reportFormed_crane s c d r)
    rw [hcrane] at hreport hclamp hsince hlink hduty hpark hvane
    rw [← henv] at hformed hset htouch
    rw [hrow, hdo]
    exact ⟨_, rfl, hreport, hclamp, hsince, hlink, hduty, hpark, hvane, hformed, hset, htouch,
      touchServed_of hm hcells hf bne_iff_ne, hothers, hsite, hports, hplant, hcranes, hbook,
      touched_keepsCells hm hcells hf⟩

end Laws
end Sys2Proof.Machine

/-! SUPPORT. A crane that leaves LIVE or IN_SERVICE: its requests are withdrawn (R74, R75), its AUTO grants go with their
touch (R72), the parking rule (R75); links that fall silent (R29, R30). -/

namespace Sys2Proof.Machine

/-- No booking of the crane can be admitted, and it takes no cell: its link is not LIVE or its duty not IN_SERVICE
(R70, R149). -/
def outOfPlay (s : State) (c : Crane) : Prop := (s.crane c).link ≠ .live ∨ (s.crane c).duty ≠ .inService

/-- The event of a crane that has gone out of play, before it is served: its requests are withdrawn, and the cells
`freed` of those it held are released. -/
structure Withdraws (c : Crane) (freed : CellNo → Prop) (s u : State) : Prop where
  moves : TouchMoves c s u
  out : outOfPlay u c
  held : ∀ x, freed x → ∃ k, (s.cell x).grant = some ⟨c, k⟩
  free : ∀ x, freed x → (u.cell x).grant = none
    ∧ ∃ l, (u.cell x).list = withoutRequest c l ∧ ∀ e ∈ (s.cell x).list, isRequest e = false → e ∈ l
  released : ∀ x, freed x → hasEntry c (s.cell x).list = false → u.cell x = ⟨none, none, freedList s x, .idle⟩
  kept : ∀ x, ¬freed x → u.cell x = { s.cell x with list := withoutRequest c (s.cell x).list }

namespace Laws

/-! ### Requests of a crane in a list -/

section
variable {c : Crane} {l m : List Entry}

theorem requestOf_congr (h : m.filter isRequest = l.filter isRequest) : requestOf c m = requestOf c l := by
  have hk : ∀ l : List Entry, requestOf c l = (l.filter isRequest).find? fun e => entryCrane e == c := fun l => by
    unfold requestOf
    rw [List.find?_filter]
    congr 1
    funext e
    rw [Bool.decide_and, Bool.decide_eq_true, Bool.decide_eq_true]
  rw [hk, hk, h]

theorem filter_placeEntry {e : Entry} (he : isRequest e = false) (l : List Entry) :
    (placeEntry e l).filter isRequest = l.filter isRequest := by
  have hins : ∀ l : List Entry, (insertEntry e l).filter isRequest = l.filter isRequest := fun l => by
    induction l with
    | nil => simp [insertEntry, he]
    | cons f l ih =>
      unfold insertEntry
      split
      · simp [List.filter_cons, he]
      · simp [List.filter_cons, ih]
  cases l with
  | nil => simp [placeEntry, he]
  | cons f l => simp [placeEntry, List.filter_cons, hins]

theorem filter_freedList (s : State) (x : CellNo) : (freedList s x).filter isRequest = (s.cell x).list.filter isRequest := by
  unfold freedList
  split
  · rename_i f hf
    simp only [Option.bind_eq_some_iff, Option.map_eq_some_iff] at hf
    obtain ⟨n, -, b, -, rfl⟩ := hf
    exact filter_placeEntry rfl _
  · rfl

theorem withoutRequest_withoutAuto (c : Crane) (l : List Entry) : withoutRequest c (withoutAuto c l) = withoutRequest c l := by
  unfold withoutRequest withoutAuto
  rw [List.filter_filter]
  refine List.filter_congr fun e _ => ?_
  cases e <;> simp [isRequest, isAutoEntry, entryKind]

theorem withoutRequest_self (h : requestOf c l = none) : withoutRequest c l = l := by
  refine List.filter_eq_self.mpr fun e he => ?_
  have := List.find?_eq_none.mp h e he
  rw [Bool.not_eq_true] at this
  rw [this]
  rfl

theorem withoutRequest_idem (c : Crane) (l : List Entry) : withoutRequest c (withoutRequest c l) = withoutRequest c l := by
  simp [withoutRequest, List.filter_filter]

theorem requestOf_some {e : Entry} (h : requestOf c l = some e) : isRequest e = true ∧ entryCrane e = c := by
  have := List.find?_some h
  simpa using this

/-- The crane's first request stays its first where AUTO requests leave, if it is none. -/
theorem requestOf_withoutAuto {e : Entry} (h : requestOf c l = some e) (he : isAutoEntry e = false) :
    requestOf c (withoutAuto c l) = some e := by
  unfold requestOf withoutAuto at *
  induction l with
  | nil => cases h
  | cons f l ih =>
    rw [List.find?_cons] at h
    rw [List.filter_cons]
    cases hf : (isRequest f && entryCrane f == c) with
    | true =>
      rw [hf] at h
      obtain rfl := Option.some.inj h
      rw [if_pos (by simp [he]), List.find?_cons, hf]
    | false =>
      rw [hf] at h
      split
      · rw [List.find?_cons, hf]; exact ih h
      · exact ih h

end

theorem mem_insertEntry_of_mem {e f : Entry} {l : List Entry} (h : e ∈ l) : e ∈ insertEntry f l := by
  induction l with
  | nil => cases h
  | cons g l ih =>
    unfold insertEntry
    split
    · exact List.mem_cons_of_mem _ h
    · exact (List.mem_cons.mp h).elim (fun k => k ▸ List.mem_cons_self) fun k => List.mem_cons_of_mem _ (ih k)

theorem mem_placeEntry_of_mem {e f : Entry} {l : List Entry} (h : e ∈ l) : e ∈ placeEntry f l := by
  cases l with
  | nil => cases h
  | cons g l =>
    exact (List.mem_cons.mp h).elim (fun k => k ▸ List.mem_cons_self)
      fun k => List.mem_cons_of_mem _ (mem_insertEntry_of_mem k)

theorem mem_freedOf {e : Entry} {s : State} {k : CellRec} (h : e ∈ k.list) : e ∈ freedOf s k := by
  unfold freedOf
  split
  · exact mem_placeEntry_of_mem h
  · exact h

/-- Where the crane has no entry, a release leaves none of its requests. -/
theorem withoutRequest_freedList {c : Crane} {s : State} {x : CellNo} (he : hasEntry c (s.cell x).list = false) :
    withoutRequest c (freedList s x) = freedList s x :=
  withoutRequest_self ((requestOf_congr (filter_freedList s x)).trans (requestOf_of_hasEntry he))

/-! ### Requests withdrawn -/

section
variable {c : Crane} {why : WithdrawReason} {s : State} {x : CellNo}

/-- A record with the crane's request withdrawn (R74). -/
def withdrawnRec (c : Crane) (k : CellRec) : CellRec := { k with list := withoutRequest c k.list }

theorem withdrawRequest_cell (c : Crane) (why : WithdrawReason) (s : State) (y z : CellNo) :
    (withdrawRequest c why s y).cell z = if z = y then withdrawnRec c (s.cell y) else s.cell z := by
  unfold withdrawRequest
  split
  · rename_i h
    split
    · rename_i e
      rw [e, withdrawnRec, withoutRequest_self h]
    · rfl
  · rw [notify_cell]
    by_cases hz : z = y
    · rw [hz, if_pos rfl, cell_modCell_same]; rfl
    · rw [if_neg hz, cell_modCell_other _ hz]

theorem withdrawRequests_cell (s : State) (c : Crane) (why : WithdrawReason) (x : CellNo) :
    (withdrawRequests s c why).cell x = withdrawnRec c (s.cell x) := by
  have h := foldl_cellwise (f := withdrawRequest c why) (g := State.sansCells) (F := fun _ => withdrawnRec c) (v := s)
    (fun w y => withdrawRequest_sansCells c why w y) (fun w y z _ => withdrawRequest_cell c why w y z)
    (fun _ k => by unfold withdrawnRec; rw [withoutRequest_idem]) allCells rfl x
  rwa [if_pos (mem_allCells x)] at h

/-- Each request withdrawn is told to its crane (R74, R75). -/
theorem withdrawRequests_told {e : Entry} (h : requestOf c (s.cell x).list = some e) :
    told (withdrawRequests s c why) (.c c) (.withdrawn c x (entryKind e) why) := by
  refine foldl_told (f := withdrawRequest c why) (g := State.sansCells) (v := s) (k := s.cell x)
    (withdrawRequest_sansCells c why) (fun w y z hz => by rw [withdrawRequest_cell, if_neg hz])
    (fun u w y h => withdrawRequest_grows c why h y) (fun w _ hk => ?_) allCells (mem_allCells x) rfl rfl
  unfold withdrawRequest
  rw [hk, h]
  exact told_notify _ _ _

end

/-! ### A crane out of play -/

section
variable {c : Crane} {freed : CellNo → Prop} {s u t : State} {x : CellNo}

theorem Enters_outOfPlay {v w : State} {b : Booking} (h : Enters v w b) (hout : outOfPlay v c) : b.crane ≠ c := by
  rintro rfl
  obtain ⟨⟨hlink, hduty, -⟩, -⟩ := h.ready
  exact hout.elim (fun k => k hlink) fun k => k hduty

theorem outOfPlay_serveCells (h : outOfPlay u c) : outOfPlay (serveCells s u) c := by
  unfold outOfPlay
  rwa [serveCells_crane]

/-- Who holds a cell after an event held it before its service, was granted it at the head of the list, or has a booking
admitted. -/
theorem holder_served {g : Grant} (hg : (t.cell x).grant = some g) (hf : Follows (eventServed s u) t) :
    (∃ k, (u.cell x).grant = some ⟨g.holder, k⟩)
      ∨ (∃ e rest, (u.cell x).list = e :: rest ∧ isRequest e = true ∧ entryCrane e = g.holder)
      ∨ ∃ b, Enters (serveCells s u) (eventServed s u) b ∧ b.crane = g.holder := by
  rw [Follows_cell hf] at hg
  rcases (admits_served s u).cell x with e | ⟨b, hb, hx⟩
  · rw [e] at hg
    rcases serveCells_cases s u x with ⟨r, hr⟩ | ⟨e, rest, r, hl, he, -, hr⟩
    · rw [hr] at hg
      exact .inl ⟨g.kind, hg⟩
    · rw [hr] at hg
      exact .inr (.inl ⟨e, rest, hl, he, congrArg Grant.holder (Option.some.inj hg)⟩)
  · have := Enters_grant hb hx
    rw [hg] at this
    exact .inr (.inr ⟨b, hb, congrArg Grant.holder (Option.some.inj this).symm⟩)

variable (h : Withdraws c freed s u) (hf : Follows (eventServed s u) t)
include h

theorem withdraws_list (x : CellNo) : ∃ l, (u.cell x).list = withoutRequest c l := by
  by_cases hx : freed x
  · obtain ⟨-, l, hl, -⟩ := h.free x hx
    exact ⟨l, hl⟩
  · exact ⟨_, by rw [h.kept x hx]⟩

include hf

theorem withdraws_noRequest (x : CellNo) : requestOf c (t.cell x).list = none := by
  obtain ⟨l, hl⟩ := withdraws_list h x
  have := list_served s u x
  rw [hl, ← Follows_cell hf] at this
  exact requestOf_withoutRequest this

/-- The crane holds afterwards the cells it held that were not freed. -/
theorem withdraws_holds (x : CellNo) : t.holds c x = true ↔ s.holds c x = true ∧ ¬freed x := by
  constructor
  · intro ht
    obtain ⟨g, hg, hc⟩ := (Option.any_eq_true _ _).mp ht
    obtain rfl : g.holder = c := by simpa using hc
    rcases holder_served hg hf with ⟨k, hk⟩ | ⟨e, rest, hl, he, hc'⟩ | ⟨b, hb, hc'⟩
    · by_cases hx : freed x
      · exact absurd ((h.free x hx).1.symm.trans hk) nofun
      · rw [h.kept x hx] at hk
        exact ⟨by simp [State.holds, show (s.cell x).grant = _ from hk], hx⟩
    · obtain ⟨l, hl'⟩ := withdraws_list h x
      have hmem : e ∈ withoutRequest g.holder l := by rw [← hl', hl]; exact List.mem_cons_self
      have := (List.mem_filter.mp hmem).2
      simp [he, hc'] at this
    · exact absurd hc' (Enters_outOfPlay hb (outOfPlay_serveCells h.out))
  · rintro ⟨hs, hx⟩
    obtain ⟨g, hg, hc⟩ := (Option.any_eq_true _ _).mp hs
    obtain ⟨kind, hk, -⟩ := served_holders (s0 := s) (u := u) (x := x) (g := g) (by rw [h.kept x hx]; exact hg)
    unfold State.holds
    rw [Follows_cell hf, hk]
    exact hc

/-- A cell that the crane keeps, it keeps with its kind and covered claim. -/
theorem withdraws_kept {k : GrantKind} (hx : ¬freed x) (hg : (s.cell x).grant = some ⟨c, k⟩) :
    (t.cell x).grant = some ⟨c, k⟩ ∧ (t.cell x).covered = (s.cell x).covered := by
  have hu : (u.cell x).grant = some ⟨c, k⟩ := by rw [h.kept x hx]; exact hg
  obtain ⟨⟨r, hr⟩, -, -⟩ := serveCells_held (s0 := s) hu
  rcases (admits_served s u).cell x with e | ⟨b, hb, hbx⟩
  · rw [Follows_cell hf, e, hr]
    exact ⟨hu, by rw [h.kept x hx]⟩
  · have := Enters_holder hb hbx (g := ⟨c, k⟩) (by rw [hr]; exact hu)
    exact absurd this.symm (Enters_outOfPlay hb (outOfPlay_serveCells h.out))

/-- The claims of the crane's own bookings stay. -/
theorem withdraws_claim {n v : Nat} {b : Booking} (hb : s.booking n = some b) (hc : b.crane = c)
    (hmem : Entry.claim n c v ∈ (s.cell x).list) : Entry.claim n c v ∈ (t.cell x).list := by
  have hu : Entry.claim n c v ∈ (u.cell x).list := by
    by_cases hx : freed x
    · obtain ⟨-, l, hl, hin⟩ := h.free x hx
      rw [hl]
      exact List.mem_filter.mpr ⟨hin _ hmem rfl, rfl⟩
    · rw [h.kept x hx]
      exact List.mem_filter.mpr ⟨hmem, rfl⟩
  have hserved : Entry.claim n c v ∈ ((serveCells s u).cell x).list := by
    rcases serveCells_cases s u x with ⟨r, hr⟩ | ⟨e, rest, r, hl, he, -, hr⟩
    · rw [hr]; exact hu
    · rw [hr]
      rw [hl] at hu
      refine (List.mem_cons.mp hu).resolve_left fun k => ?_
      rw [← k] at he
      cases he
  rw [Follows_cell hf]
  rcases (admits_served s u).cell x with e | ⟨d, hd, hdx⟩
  · rw [e]; exact hserved
  · rw [hd.cells x hdx]
    refine List.mem_filter.mpr ⟨hserved, ?_⟩
    have hne : n ≠ d.number := by
      rintro rfl
      have := (hd.known.symm.trans (serveCells_booking s u _)).trans (TouchMoves_booking h.moves _)
      rw [hb] at this
      exact Enters_outOfPlay hd (outOfPlay_serveCells h.out) (Option.some.inj this ▸ hc)
    simp [isClaimOf, hne]

theorem withdraws_left : leftTouch s t c x ↔ touchLost s u x = true := by
  rw [← TouchMoves_touchLost h.moves]
  unfold leftTouch
  rw [env_of_envs (TouchMoves_keeps h.moves hf).1]

/-- A cell of which the crane has lost hold is freed and served, where it had no entry there. -/
theorem withdraws_freed (hx : freed x) (he : hasEntry c (s.cell x).list = false) : freedAndServed s t x := by
  obtain ⟨k, hk⟩ := h.held x hx
  refine freedAndServed_of hk (fun _ => ?_) h.moves.map h.moves.wind h.moves.grows
    (fun _ hb => (TouchMoves_booking h.moves _).trans hb.1) hf
  exact h.released x hx he

/-- The crane's request leaves the list of any other cell, and a new head is served. -/
theorem withdraws_listLeft (hx : ¬freed x) : listLeft s t x (withoutRequest c (s.cell x).list) (leftTouch s t c x) :=
  listLeft_of (h.kept x hx) h.moves.book h.moves.map h.moves.wind h.moves.grows
    (fun hdue e he => claimsKnown_mono (claimsKnown_of_due hdue)
      (fun _ hb => (TouchMoves_booking h.moves _).trans hb.1) e (List.mem_of_mem_filter he))
    (withdraws_left h hf) hf

end

end Laws
end Sys2Proof.Machine

/-! SUPPORT. Links that fall silent (R29, R30). -/

namespace Sys2Proof.Machine

/-- The state of a crane whose link has fallen, its touch set formed, before its cells are changed (R30, R52). -/
def linkDropped (s : State) (c : Crane) (l : LinkState) : State := formTouch (setLink s c l) c

/-- The state of a crane whose link has fallen, before the event is served (R30, R52, R74). -/
def linkFallen (s : State) (c : Crane) (l : LinkState) : State :=
  withdrawRequests (touchService (linkDropped s c l) c (touchCells (s.env c)) false) c .link

namespace Laws

/-! ### Cells that a crane out of play leaves -/

section
variable {c : Crane} {s v : State} {whole : Bool} {x : CellNo}

theorem takenRec_outOfPlay (h : outOfPlay v c) (x : CellNo) (k : CellRec) : takenRec v c x k = k := by
  refine if_neg fun ht => ?_
  unfold autoTakes at ht
  simp only [Bool.and_eq_true, beq_iff_eq] at ht
  obtain ⟨⟨⟨⟨⟨-, hl⟩, hd⟩, -⟩, -⟩, -⟩ := ht
  exact h.elim (fun k => k hl) fun k => k hd

theorem outOfPlay_cell (h : outOfPlay v c) (hcells : v.cells = s.cells) (x : CellNo) :
    (touchService v c (touchCells (s.env c)) whole).cell x
      = if x ∈ touchCells (s.env c) ∧ x ∉ touchCells (v.env c) then endedRec v c (s.cell x) else s.cell x := by
  rw [touchService_cell, cell_of_cells hcells, takenRec_outOfPlay h, ite_self]

theorem withdrawnRec_ended (v : State) (c : Crane) (k : CellRec) : withdrawnRec c (endedRec v c k)
    = if k.grant = some ⟨c, .auto⟩ then ⟨none, none, withoutRequest c (freedOf v k), .idle⟩ else withdrawnRec c k := by
  unfold endedRec withdrawnRec
  split
  · simp only [withoutRequest_withoutAuto]
  · simp only [withoutRequest_withoutAuto]

/-- The crane's request is still the first of its requests in the list, unless it is an AUTO request of a cell that the
touch set has lost. -/
theorem requestOf_ended {e : Entry} (h : requestOf c (s.cell x).list = some e) (he : isAutoEntry e = false)
    (hb : v.book = s.book) : requestOf c (endedRec v c (s.cell x)).list = some e := by
  unfold endedRec
  split
  · refine requestOf_withoutAuto ?_ he
    rw [freedOf_congr fun n _ => booking_congr hb n, freedOf_cell]
    exact (requestOf_congr (filter_freedList s x)).trans h
  · exact requestOf_withoutAuto h he

end

/-! ### The fall of a link -/

section
variable {c : Crane} {s t : State} {l : LinkState} {x : CellNo}

theorem linkDropped_moves (s : State) (c : Crane) (l : LinkState) : TouchMoves c s (linkDropped s c l) :=
  TouchMoves_formTouch (TouchMoves_setLink (TouchMoves_refl c s) l)

theorem linkDropped_cells (s : State) (c : Crane) (l : LinkState) : (linkDropped s c l).cells = s.cells :=
  setLink_cells s c l

theorem linkDropped_crane (s : State) (c : Crane) (l : LinkState) :
    (linkDropped s c l).crane c = { s.crane c with link := l } := setLink_crane s c l

theorem linkDropped_out (s : State) (c d : Crane) (l : LinkState) : (linkDropped s c l).out d = s.out d :=
  (of_sansNotices (fun u : State => u.out d) (notifyClass_sansNotices _ _ _) fun _ => rfl).trans rfl

theorem linkDropped_outOfPlay (hl : l ≠ .live) : outOfPlay (linkDropped s c l) c :=
  .inl (by rw [linkDropped_crane]; exact hl)

theorem linkFallen_sansCells (s : State) (c : Crane) (l : LinkState) :
    (linkFallen s c l).sansCells = (linkDropped s c l).sansCells :=
  (withdrawRequests_sansCells _ _ _).trans (touchService_sansCells _ _ _ _)

theorem linkFallen_grows (s : State) (c : Crane) (l : LinkState) : Grows (linkDropped s c l) (linkFallen s c l) :=
  withdrawRequests_grows (touchService_grows (Grows.refl _) c _ false) c .link

theorem linkFallen_moves (s : State) (c : Crane) (l : LinkState) : TouchMoves c s (linkFallen s c l) :=
  TouchMoves_of_sansCells (linkDropped_moves s c l) (linkFallen_sansCells s c l) (linkFallen_grows s c l)

theorem linkFallen_touch (s : State) (c : Crane) (l : LinkState) :
    (linkFallen s c l).env c = (linkDropped s c l).env c :=
  env_of_envs (envs_of_sansBook (sansBook_of (linkFallen_sansCells s c l))) c

theorem linkFallen_cell (hl : l ≠ .live) (x : CellNo) : (linkFallen s c l).cell x
    = withdrawnRec c (if x ∈ touchCells (s.env c) ∧ x ∉ touchCells ((linkDropped s c l).env c) then
        endedRec (linkDropped s c l) c (s.cell x) else s.cell x) := by
  unfold linkFallen
  rw [withdrawRequests_cell, outOfPlay_cell (linkDropped_outOfPlay hl) (linkDropped_cells s c l)]

theorem linkFallen_withdraws (hl : l ≠ .live) : Withdraws c
    (fun x => (s.cell x).grant = some ⟨c, .auto⟩ ∧ leftTouch s (linkDropped s c l) c x) s (linkFallen s c l) where
  moves := linkFallen_moves s c l
  out := .inl (by rw [crane_of_sansCells (linkFallen_sansCells s c l), linkDropped_crane]; exact hl)
  held := fun x hx => ⟨_, hx.1⟩
  free := fun x ⟨hg, hx⟩ => by
    rw [linkFallen_cell hl, if_pos (show x ∈ _ ∧ x ∉ _ from hx), withdrawnRec_ended, if_pos hg]
    exact ⟨rfl, _, rfl, fun e he _ => mem_freedOf he⟩
  released := fun x ⟨hg, hx⟩ he => by
    rw [linkFallen_cell hl, if_pos (show x ∈ _ ∧ x ∉ _ from hx), withdrawnRec_ended, if_pos hg,
      freedOf_congr (s := s) fun n _ => TouchMoves_booking (linkDropped_moves s c l) n, freedOf_cell,
      withoutRequest_freedList he]
  kept := fun x hx => by
    rw [linkFallen_cell hl]
    split
    · rename_i hleft
      rw [withdrawnRec_ended, if_neg fun hg => hx ⟨hg, hleft⟩]
      rfl
    · rfl

/-- Each request withdrawn at a fall is told to its crane (R74). -/
theorem linkFallen_told {e : Entry} (hl : l ≠ .live) (h : requestOf c (s.cell x).list = some e)
    (hx : ¬(isAutoEntry e = true ∧ leftTouch s (linkDropped s c l) c x)) :
    told (linkFallen s c l) (.c c) (.withdrawn c x (entryKind e) .link) := by
  refine withdrawRequests_told ?_
  rw [outOfPlay_cell (linkDropped_outOfPlay hl) (linkDropped_cells s c l)]
  split
  · rename_i hleft
    exact requestOf_ended h (Bool.eq_false_iff.mpr fun k => hx ⟨k, hleft⟩) (linkDropped_moves s c l).book
  · exact h

theorem linkDropped_tells {y : Sup} (h : (s.port (.s y)).mask.crane = true) :
    told (linkDropped s c l) (.s y) (.link c (s.crane c).link l) := by
  unfold linkDropped setLink
  exact told_notifyClass _ .crane _ y h

theorem linkDropped_reportSet (s : State) (c : Crane) (l : LinkState) :
    ((linkDropped s c l).env c).reportSet = (s.env c).reportSet := by
  unfold linkDropped
  rw [(formTouch_reportSet _ c).1, setLink_env]

/-- The touch set of a crane whose link has fallen (R51). -/
theorem linkDropped_touch (hl : l = .stale ∨ l = .lost) : touchCells ((linkDropped s c l).env c)
    = if s.declared c = false then []
      else if (s.crane c).duty = .outOfService then oosSet s.map.active c
      else if l = .stale then (s.env c).reportSet.getD []
      else memberCells s.map.active c := by
  have hm : (setLink s c l).map = s.map := (TouchMoves_setLink (TouchMoves_refl c s) l).map
  have hdecl : (setLink s c l).declared c = s.declared c := by unfold State.declared; rw [decl_of_map hm]
  unfold linkDropped
  rw [formTouch_cells]
  cases hd : s.declared c with
  | false =>
    rw [if_pos rfl]
    unfold touchSetOf touchLine
    rw [hdecl, hd]
    rfl
  | true =>
    rw [touchLine_declared (l := l) (hdecl.trans hd) (by rw [setLink_crane]), setLink_crane, setLink_env, hm]
    rcases hl with rfl | rfl <;> rfl

theorem linkFallen_out (s : State) (c d : Crane) (l : LinkState) : (eventServed s (linkFallen s c l)).out d = s.out d := by
  rw [of_sansBook (fun u : State => u.out d) (served_sansBook s (linkFallen s c l)) fun _ => rfl]
  exact (of_sansBook (fun u : State => u.out d) (sansBook_of (linkFallen_sansCells s c l)) fun _ => rfl).trans
    (linkDropped_out s c d l)

theorem dropLink_eq (s : State) (c : Crane) (l : LinkState) : dropLink s c l = conclude s (linkFallen s c l) := rfl

theorem conclude_idle (s : State) {u : State} (h : u.map.commit = .idle) : conclude s u = compose s (eventServed s u) := by
  unfold conclude
  rw [settle_idle h]

end

/-- Settles O30: the requests of the crane leave, and so do its AUTO grants with their touch (`Withdraws`). -/
theorem silentLinksFallToStaleAndLost : Obligations.SilentLinksFallToStaleAndLost := by
  intro c s hr hidle falls
  have falls_of : ∀ i l, l = .stale ∨ l = .lost → exec i s = .next (dropLink s c l).transmit → falls i l := by
    intro i l hl hrow
    have hlive : l ≠ .live := by rcases hl with rfl | rfl <;> nofun
    have hw := linkFallen_withdraws (s := s) (c := c) hlive
    have hidle' : (linkFallen s c l).map.commit = .idle := by rw [hw.moves.map]; exact hidle
    have hf := Follows_trans (Follows_conclude (s := s) hidle') (Follows_transmit _)
    obtain ⟨hsite, hports⟩ := kept_event ((conclude_core s _).trans hw.moves.core)
      (Follows_grows_conclude hw.moves.grows (Follows_conclude hidle'))
    obtain ⟨henvs, hothers, hplant, hcranes, hbook⟩ := TouchMoves_keeps hw.moves hf
    obtain ⟨hreport, -, hsince, hlink, hduty, -⟩ := served_record hf c
    have hcrane := (crane_of_sansCells (linkFallen_sansCells s c l) c).trans (linkDropped_crane s c l)
    rw [hcrane] at hreport hsince hlink hduty
    have henv := (env_of_envs henvs c).trans (linkFallen_touch s c l)
    have hleft : ∀ x, leftTouch s (conclude s (linkFallen s c l)).transmit c x ↔ leftTouch s (linkDropped s c l) c x :=
      fun x => by unfold leftTouch; rw [henv]
    have hgrows := (served_grows s _).trans hf.grows
    refine ⟨_, hrow, hlink, ?lines, withdraws_noRequest hw hf, fun x k hg hx => ?kept,
      fun x n u b hmem hb hc => withdraws_claim hw hf hb hc hmem, fun x hx => ?listLeft, ?touch, hreport, hsince, hduty,
      ?reportSet, hothers, fun y hy => ?linkTold, fun x e he hx => ?withdrawn, ?inhibits, hsite, hports, hplant, hcranes,
      hbook⟩
    case lines =>
      rw [transmit_out, dropLink_eq, conclude_idle s hidle', (compose_lines s _ c).2]
      refine unionOf_of_link ?_
      obtain ⟨-, -, -, hserved, -⟩ := served_record (Follows_refl (eventServed s (linkFallen s c l))) c
      rw [hserved, hcrane]
      exact hlive
    case kept =>
      refine withdraws_kept hw hf (fun ⟨hg', hx'⟩ => hx ⟨?_, (hleft x).mpr hx'⟩) hg
      exact congrArg Grant.kind (Option.some.inj (hg.symm.trans hg'))
    case listLeft => exact withdraws_listLeft hw hf fun ⟨hg, hx'⟩ => hx ⟨hg, (hleft x).mpr hx'⟩
    case touch => exact (congrArg touchCells henv).trans (linkDropped_touch hl)
    case reportSet => exact (congrArg EnvRec.reportSet henv).trans (linkDropped_reportSet s c l)
    case linkTold => exact told_grows ((linkFallen_grows s c l).trans hgrows) (linkDropped_tells hy)
    case withdrawn => exact told_grows hgrows (linkFallen_told hlive he fun ⟨k, hx'⟩ => hx ⟨k, (hleft x).mpr hx'⟩)
    case inhibits =>
      rw [dropLink_eq, conclude_idle s hidle']
      exact inhibitsTold_grows (inhibitsTold_compose s fun d => by rw [linkFallen_out]) (transmit_grows _)
        fun d => transmit_out _ _
  refine ⟨fun ms hl hs hlim => ?_, fun ms hl hs hlim => ?_⟩
  · refine falls_of _ _ (by split <;> simp) ((next_whenRunning hr _).trans ?_)
    unfold silenceEnds
    rw [if_pos ⟨hl, by simp [silentFor, hs, hlim]⟩]
    rfl
  · refine falls_of _ _ (.inr rfl) ((next_whenRunning hr _).trans ?_)
    unfold lostEnds
    rw [if_pos ⟨hl, by simp [silentFor, hs, hlim]⟩]

end Laws
end Sys2Proof.Machine

/-! SUPPORT. Changes of duty (R32 to R36, R53) and the parking rule (R75). -/

namespace Sys2Proof.Machine

/-- The parking rule releases the cell: an ENTRY or AUTO grant of the crane outside its touch set (R75). -/
def parks (s : State) (c : Crane) (x : CellNo) (k : CellRec) : Bool :=
  (k.grant.any fun g => g.holder == c && g.kind != .booked) && !s.touches c x

/-- What the parking rule makes of a record. -/
def parkedRec (s : State) (c : Crane) (x : CellNo) (k : CellRec) : CellRec :=
  if parks s c x k then ⟨none, none, freedOf s k, .idle⟩ else k

/-- The state with a crane's duty changed and its touch set formed, before its cells are changed (R36, R53). -/
def dutyFormed (s : State) (c : Crane) (d : Duty) : State :=
  touchForDuty (s.modCrane c fun k => { k with duty := d }) c

/-- The state of a crane gone out of service or parked, before the event is served (R36, R54, R75). -/
def dutyLeft (s : State) (c : Crane) (d : Duty) : State :=
  parkingRule (touchService (dutyFormed s c d) c (touchCells (s.env c)) false) c

namespace Laws

/-! ### The parking rule -/

section
variable {c : Crane} {s w : State} {x : CellNo}

theorem parkCell_cell (c : Crane) (s : State) (y z : CellNo) : (parkCell c s y).cell z
    = if z = y then parkedRec s c y (s.cell y) else s.cell z := by
  have hsame : s.cell z = if z = y then s.cell y else s.cell z := by
    split
    · rename_i e; rw [e]
    · rfl
  unfold parkCell parkedRec
  split
  · rename_i g hg
    by_cases h : g.holder = c ∧ g.kind ≠ .booked ∧ s.touches c y = false
    · have hp : parks s c y (s.cell y) = true := by simp [parks, hg, h]
      rw [if_pos h, if_pos hp]
      by_cases hz : z = y
      · rw [hz, if_pos rfl, releaseCell_cell, freedOf_cell]
      · rw [if_neg hz, releaseCell_cell_other hz]
    · have hp : ¬parks s c y (s.cell y) = true := by simpa [parks, hg, and_assoc] using h
      rw [if_neg h, if_neg hp]
      exact hsame
  · rename_i hg
    have hp : ¬parks s c y (s.cell y) = true := by simp [parks, hg]
    rw [if_neg hp]
    exact hsame

theorem parkedRec_congr (h : w.sansCells = s.sansCells) (k : CellRec) : parkedRec w c x k = parkedRec s c x k := by
  unfold parkedRec parks
  rw [touches_of_envs (envs_of_sansBook (sansBook_of h)), freedOf_congr fun n _ => booking_of_sansCells h n]

theorem parkedRec_idem (s : State) (c : Crane) (x : CellNo) (k : CellRec) :
    parkedRec s c x (parkedRec s c x k) = parkedRec s c x k := by
  cases h : parks s c x k with
  | true =>
    have hrec : parkedRec s c x k = ⟨none, none, freedOf s k, .idle⟩ := if_pos h
    rw [hrec]
    exact if_neg (by simp [parks])
  | false =>
    have hself : parkedRec s c x k = k := if_neg (by simp [h])
    rw [hself, hself]

theorem parkingRule_cell (s : State) (c : Crane) (x : CellNo) :
    (parkingRule s c).cell x = withdrawnRec c (parkedRec s c x (s.cell x)) := by
  have h := foldl_cellwise (f := parkCell c) (g := State.sansCells) (F := parkedRec s c) (v := s)
    (fun w y => parkCell_sansCells c w y) (fun w y z hw => by rw [parkCell_cell, parkedRec_congr hw])
    (parkedRec_idem s c) allCells rfl x
  rw [if_pos (mem_allCells x)] at h
  unfold parkingRule
  rw [withdrawRequests_cell, h]

end

/-! ### The touch set for a duty -/

section
variable {c : Crane} {s t : State} {d : Duty} {x : CellNo}

theorem dutyComputed_moves (s : State) (c : Crane) (d : Duty) : TouchMoves c s
    (if ((s.modCrane c fun k => { k with duty := d }).crane c).link = .live then
      fullComputation (s.modCrane c fun k => { k with duty := d }) c else s.modCrane c fun k => { k with duty := d }) := by
  have h := TouchMoves_modCrane (TouchMoves_refl c s) fun k => { k with duty := d }
  split
  · exact TouchMoves_fullComputation h
  · exact h

theorem dutyFormed_moves (s : State) (c : Crane) (d : Duty) : TouchMoves c s (dutyFormed s c d) :=
  TouchMoves_formTouch (dutyComputed_moves s c d)

theorem dutyFormed_cells (s : State) (c : Crane) (d : Duty) : (dutyFormed s c d).cells = s.cells := by
  unfold dutyFormed touchForDuty
  split
  · exact fullComputation_cells _ _
  · rfl

theorem dutyFormed_crane (s : State) (c : Crane) (d : Duty) : (dutyFormed s c d).crane c = { s.crane c with duty := d } := by
  have h : (s.modCrane c fun k => { k with duty := d }).crane c = { s.crane c with duty := d } := by
    rw [crane_modCrane, if_pos rfl]
  unfold dutyFormed touchForDuty
  split
  · exact (fullComputation_crane _ c c).trans h
  · exact h

theorem dutyFormed_reportSet (hd : s.declared c = true) : ((dutyFormed s c d).env c).reportSet
    = (match (s.crane c).link, s.decl c, (s.crane c).report with
        | .live, some g, some r => some (reportSetOf s.map.active c (envelopeOf g r s.gustNow) r)
        | _, _, _ => (s.env c).reportSet) := by
  have hcrane : (s.modCrane c fun k => { k with duty := d }).crane c = { s.crane c with duty := d } := by
    rw [crane_modCrane, if_pos rfl]
  obtain ⟨g, hg⟩ := Option.isSome_iff_exists.mp hd
  unfold dutyFormed touchForDuty
  rw [(formTouch_reportSet _ c).1, hcrane, hg]
  dsimp only
  cases hl : (s.crane c).link with
  | live =>
    rw [if_pos rfl]
    cases hr : (s.crane c).report with
    | none =>
      unfold fullComputation
      rw [hcrane]
      dsimp only
      rw [hr]
      cases (s.modCrane c fun k => { k with duty := d }).decl c <;> rfl
    | some r => rw [fullComputation_env (s := s.modCrane c fun k => { k with duty := d }) hg (by rw [hcrane]; exact hr)]; rfl
  | none => rfl
  | stale => rfl
  | lost => rfl

theorem dutyFormed_touch (hd : s.declared c = true) : touchCells ((dutyFormed s c d).env c)
    = if d = .outOfService then oosSet s.map.active c
      else if (s.crane c).link = .live ∨ (s.crane c).link = .stale then ((dutyFormed s c d).env c).reportSet.getD []
      else memberCells s.map.active c := by
  have hm := dutyComputed_moves s c d
  have hcr : (if ((s.modCrane c fun k => { k with duty := d }).crane c).link = .live then
      fullComputation (s.modCrane c fun k => { k with duty := d }) c else s.modCrane c fun k => { k with duty := d }).crane c
      = { s.crane c with duty := d } := dutyFormed_crane s c d
  unfold dutyFormed touchForDuty
  rw [(formTouch_reportSet _ c).1, formTouch_cells]
  generalize (if ((s.modCrane c fun k => { k with duty := d }).crane c).link = .live then
      fullComputation (s.modCrane c fun k => { k with duty := d }) c else s.modCrane c fun k => { k with duty := d }) = u
    at hm hcr
  have hdecl : u.declared c = true := by
    unfold State.declared
    rw [decl_of_map hm.map]
    exact hd
  rw [touchLine_declared hdecl (l := (s.crane c).link) (by rw [hcr]), hcr, hm.map]

/-! ### A crane that leaves its duty -/

theorem dutyLeft_sansCells (s : State) (c : Crane) (d : Duty) :
    (dutyLeft s c d).sansCells = (dutyFormed s c d).sansCells :=
  (parkingRule_sansCells _ _).trans (touchService_sansCells _ _ _ _)

theorem dutyLeft_moves (s : State) (c : Crane) (d : Duty) : TouchMoves c s (dutyLeft s c d) :=
  TouchMoves_of_sansCells (dutyFormed_moves s c d) (dutyLeft_sansCells s c d)
    (parkingRule_grows (touchService_grows (Grows.refl _) c _ false) c)

theorem dutyLeft_cell (hd : d ≠ .inService) (x : CellNo) : (dutyLeft s c d).cell x
    = withdrawnRec c (parkedRec (dutyFormed s c d) c x
        (if x ∈ touchCells (s.env c) ∧ x ∉ touchCells ((dutyFormed s c d).env c) then
          endedRec (dutyFormed s c d) c (s.cell x) else s.cell x)) := by
  have hout : outOfPlay (dutyFormed s c d) c := .inr (by rw [dutyFormed_crane]; exact hd)
  unfold dutyLeft
  rw [parkingRule_cell, parkedRec_congr (touchService_sansCells _ _ _ _), outOfPlay_cell hout (dutyFormed_cells s c d)]

/-- The cells that a crane gone out of service or parked loses (R72, R75). -/
def losesCell (s : State) (c : Crane) (d : Duty) (x : CellNo) : Prop :=
  ∃ k, (s.cell x).grant = some ⟨c, k⟩ ∧ k ≠ .booked
    ∧ ((k = .auto ∧ leftTouch s (dutyFormed s c d) c x) ∨ x ∉ touchCells ((dutyFormed s c d).env c))

theorem parks_iff (s : State) (c : Crane) (x : CellNo) (k : CellRec) : parks s c x k = true
    ↔ (∃ kind, k.grant = some ⟨c, kind⟩ ∧ kind ≠ .booked) ∧ x ∉ touchCells (s.env c) := by
  unfold parks
  rw [Bool.and_eq_true, Bool.not_eq_true', ← Bool.not_eq_true, touches_iff]
  refine and_congr_left fun _ => ?_
  cases hg : k.grant with
  | none => simp
  | some g =>
    obtain ⟨h, kind⟩ := g
    simp

/-- A record that the crane loses: it is FREE, with the crane's requests out of its list. -/
theorem lost_record (h : losesCell s c d x) : ∃ l,
    withdrawnRec c (parkedRec (dutyFormed s c d) c x
        (if x ∈ touchCells (s.env c) ∧ x ∉ touchCells ((dutyFormed s c d).env c) then
          endedRec (dutyFormed s c d) c (s.cell x) else s.cell x)) = ⟨none, none, withoutRequest c l, .idle⟩
      ∧ (∀ e ∈ (s.cell x).list, isRequest e = false → e ∈ l)
      ∧ (hasEntry c (s.cell x).list = false → l = freedList s x) := by
  obtain ⟨kind, hg, hkind, hwhy⟩ := h
  have hfreed : freedOf (dutyFormed s c d) (s.cell x) = freedList s x :=
    freedOf_congr fun n _ => TouchMoves_booking (dutyFormed_moves s c d) n
  have hparks : ∀ k : CellRec, k.grant = some ⟨c, kind⟩ → x ∉ touchCells ((dutyFormed s c d).env c) →
      parkedRec (dutyFormed s c d) c x k = ⟨none, none, freedOf (dutyFormed s c d) k, .idle⟩ := fun k hk hx =>
    if_pos ((parks_iff _ c x k).mpr ⟨⟨kind, hk, hkind⟩, hx⟩)
  by_cases hleft : x ∈ touchCells (s.env c) ∧ x ∉ touchCells ((dutyFormed s c d).env c)
  · rw [if_pos hleft]
    by_cases hauto : (s.cell x).grant = some ⟨c, .auto⟩
    · have hended : endedRec (dutyFormed s c d) c (s.cell x)
          = ⟨none, none, withoutAuto c (freedList s x), .idle⟩ := by rw [endedRec, if_pos hauto, hfreed]
      refine ⟨freedList s x, ?_, fun e he _ => mem_freedOf he, fun _ => rfl⟩
      rw [hended]
      have hfree : parkedRec (dutyFormed s c d) c x ⟨none, none, withoutAuto c (freedList s x), .idle⟩
          = ⟨none, none, withoutAuto c (freedList s x), .idle⟩ := if_neg (by simp [parks])
      rw [hfree, withdrawnRec]
      dsimp only
      rw [withoutRequest_withoutAuto]
    · have hended : endedRec (dutyFormed s c d) c (s.cell x)
          = { s.cell x with list := withoutAuto c (s.cell x).list } := if_neg hauto
      rw [hended, hparks { s.cell x with list := withoutAuto c (s.cell x).list } hg hleft.2]
      refine ⟨_, rfl, fun e he hreq => mem_freedOf (List.mem_filter.mpr ⟨he, ?_⟩), fun hnone => ?_⟩
      · cases e with
        | claim => rfl
        | entry => cases hreq
        | auto => cases hreq
      · have hlist : withoutAuto c (s.cell x).list = (s.cell x).list := List.filter_eq_self.mpr fun e he => by
          have := List.any_eq_false.mp hnone e he
          simp_all
        rw [hlist]
        exact hfreed
  · rw [if_neg hleft]
    have hx : x ∉ touchCells ((dutyFormed s c d).env c) := hwhy.elim (fun k => absurd k.2 hleft) id
    rw [hparks _ hg hx]
    exact ⟨_, rfl, fun e he _ => mem_freedOf he, fun _ => hfreed⟩

/-- Any other record keeps its grant. -/
theorem kept_record (h : ¬losesCell s c d x) :
    withdrawnRec c (parkedRec (dutyFormed s c d) c x
        (if x ∈ touchCells (s.env c) ∧ x ∉ touchCells ((dutyFormed s c d).env c) then
          endedRec (dutyFormed s c d) c (s.cell x) else s.cell x))
      = { s.cell x with list := withoutRequest c (s.cell x).list } := by
  have hstays : ∀ k : CellRec, k.grant = (s.cell x).grant → parkedRec (dutyFormed s c d) c x k = k := fun k hk =>
    if_neg fun hp => by
      obtain ⟨⟨kind, hg, hkind⟩, hx⟩ := (parks_iff _ c x k).mp hp
      exact h ⟨kind, hk.symm.trans hg, hkind, .inr hx⟩
  split
  · rename_i hleft
    have hauto : (s.cell x).grant ≠ some ⟨c, .auto⟩ := fun hg => h ⟨_, hg, nofun, .inl ⟨rfl, hleft⟩⟩
    have hended : endedRec (dutyFormed s c d) c (s.cell x)
        = { s.cell x with list := withoutAuto c (s.cell x).list } := if_neg hauto
    rw [hended, hstays { s.cell x with list := withoutAuto c (s.cell x).list } rfl, withdrawnRec]
    dsimp only
    rw [withoutRequest_withoutAuto]
  · rw [hstays _ rfl]
    rfl

theorem dutyLeft_withdraws (hd : d ≠ .inService) : Withdraws c (losesCell s c d) s (dutyLeft s c d) where
  moves := dutyLeft_moves s c d
  out := .inr (by rw [crane_of_sansCells (dutyLeft_sansCells s c d), dutyFormed_crane]; exact hd)
  held := fun x ⟨k, hk, _⟩ => ⟨k, hk⟩
  free := fun x hx => by
    obtain ⟨l, hl, hclaims, -⟩ := lost_record hx
    rw [dutyLeft_cell hd, hl]
    exact ⟨rfl, l, rfl, hclaims⟩
  released := fun x hx he => by
    obtain ⟨l, hl, -, hfreed⟩ := lost_record hx
    rw [dutyLeft_cell hd, hl, hfreed he, withoutRequest_freedList he]
  kept := fun x hx => by rw [dutyLeft_cell hd, kept_record hx]

end

end Laws
end Sys2Proof.Machine

/-! SUPPORT. SERVICE, PARK and OOS past their conditions (R33 to R36): the duty changed, the event served, the parking
test made (R122), which moves the wind record alone. -/

namespace Sys2Proof.Machine

/-- The state of a crane with its duty changed, before the event is served (R36). -/
def dutyMoved (s : State) (c : Crane) (d : Duty) : State :=
  let v := touchService (dutyFormed s c d) c (touchCells (s.env c)) (d == .inService)
  if d = .parked ∨ d = .outOfService then parkingRule v c else v

namespace Laws

/-! ### The parking test -/

section
variable {p : Prop} [Decidable p] {s v t : State} {x : CellNo} {l : List Entry} {lost : Prop}

/-- But for the wind record, the parking test changes notices alone (R122). -/
theorem Follows_tested (h : Follows (if p then parkingTest v else v) t) : Follows v (t.setWind v.wind) := by
  split at h
  · have hw := parkingTest_sansWind v
    exact ⟨h.cells.trans (congrArg State.cells hw :), h.book.trans (parkingTest_book v), h.envs.trans (congrArg State.envs hw :),
      h.map.trans (congrArg State.map hw :), rfl, h.store.trans (congrArg State.store hw :),
      fun d => (h.crane d).trans (congrArg (fun u : State => (u.crane d).sansFault) hw :),
      fun l => (h.cfg l).trans (congrArg (fun u : State => (u.sig l).cfg) hw :),
      ((parkingTest_grows (Grows.refl v)).trans h.grows).ports rfl⟩
  · exact ⟨h.cells, h.book, h.envs, h.map, rfl, h.store, h.crane, h.cfg, h.grows.ports rfl⟩

/-- The parking test leaves the wind record, or moves to VANE (R122). -/
theorem tested_wind (h : Follows (if p then parkingTest v else v) t) : t.wind = v.wind ∨ t.wind.state = .vane := by
  rw [h.wind]
  split
  · unfold parkingTest
    split
    · exact .inr (by rw [moveWind_wind]; rfl)
    · exact .inl rfl
  · exact .inl rfl

/-- In VANE no booking can be admitted (R149). -/
theorem noneLeftReady_tested (h : t.wind = v.wind ∨ t.wind.state = .vane) (hn : noneLeftReady (t.setWind v.wind) x) :
    noneLeftReady t x := by
  rcases h with h | h
  · rw [← h] at hn
    exact hn
  · rintro n b - - - ⟨⟨-, -, -, hwind⟩, -⟩
    simp [h] at hwind

theorem newHeadServed_tested (h : t.wind = v.wind ∨ t.wind.state = .vane) (hn : newHeadServed s (t.setWind v.wind) x l) :
    newHeadServed s t x l := by
  cases l with
  | nil => exact hn
  | cons e l =>
    intro hdue
    obtain ⟨hready, hhead⟩ := hn hdue
    refine ⟨noneLeftReady_tested h hready, ?_⟩
    cases e <;> exact hhead

theorem freedAndServed_tested (h : t.wind = v.wind ∨ t.wind.state = .vane) (hn : freedAndServed s (t.setWind v.wind) x) :
    freedAndServed s t x := fun hdue => ⟨(hn hdue).1, newHeadServed_tested h (hn hdue).2⟩

theorem listLeft_tested (h : t.wind = v.wind ∨ t.wind.state = .vane) (hn : listLeft s (t.setWind v.wind) x l lost) :
    listLeft s t x l lost :=
  ⟨hn.1, fun hg hc hr => ⟨(hn.2 hg hc hr).1, fun hh => newHeadServed_tested h ((hn.2 hg hc hr).2 hh)⟩⟩

end

/-! ### The event of a change of duty -/

section
variable {c : Crane} {s t : State} {d : Duty} {x : CellNo}

theorem dutyServed_eq (s : State) (c : Crane) (d : Duty) : dutyServed s c d
    = if (s.crane c).duty = .inService then parkingTest (settle s (dutyMoved s c d)) else settle s (dutyMoved s c d) := rfl

theorem dutyMoved_inService (s : State) (c : Crane) : dutyMoved s c .inService
    = touchService (dutyFormed s c .inService) c (touchCells (s.env c)) true := rfl

theorem dutyMoved_leaves (hd : d = .parked ∨ d = .outOfService) : dutyMoved s c d = dutyLeft s c d := by
  rcases hd with rfl | rfl <;> rfl

theorem dutyMoved_sansCells (s : State) (c : Crane) (d : Duty) :
    (dutyMoved s c d).sansCells = (dutyFormed s c d).sansCells := by
  unfold dutyMoved
  extract_lets v
  have hv : v.sansCells = (dutyFormed s c d).sansCells := touchService_sansCells _ _ _ _
  split
  · exact (parkingRule_sansCells _ _).trans hv
  · exact hv

theorem dutyMoved_grows (s : State) (c : Crane) (d : Duty) : Grows (dutyFormed s c d) (dutyMoved s c d) := by
  unfold dutyMoved
  extract_lets v
  have hv : Grows (dutyFormed s c d) v := touchService_grows (Grows.refl _) c _ _
  split
  · exact parkingRule_grows hv c
  · exact hv

theorem dutyMoved_moves (s : State) (c : Crane) (d : Duty) : TouchMoves c s (dutyMoved s c d) :=
  TouchMoves_of_sansCells (dutyFormed_moves s c d) (dutyMoved_sansCells s c d) (dutyMoved_grows s c d)

/-- The cells that a crane gone out of service or parked keeps (R72, R75). -/
theorem not_losesCell_iff (h : s.holds c x = true) : ¬losesCell s c d x
    ↔ ((s.cell x).grant = some ⟨c, .booked⟩ ∨ x ∈ touchCells ((dutyFormed s c d).env c))
      ∧ ¬((s.cell x).grant = some ⟨c, .auto⟩ ∧ x ∈ touchCells (s.env c) ∧ x ∉ touchCells ((dutyFormed s c d).env c)) := by
  obtain ⟨⟨e, k⟩, hg, hc⟩ := (Option.any_eq_true _ _).mp h
  obtain rfl : e = c := by simpa using hc
  unfold losesCell leftTouch
  rw [hg]
  cases k <;> by_cases hx : x ∈ touchCells ((dutyFormed s e d).env e) <;> simp [hx]

end

/-- Settles O28: at SERVICE the touch set is taken as for a REPORT (`touchServed_of`), at PARK and OOS the crane's
requests and cells leave (`Withdraws`). -/
theorem dutyRequestsChangeTheDuty : Obligations.DutyRequestsChangeTheDuty := by
  intro p w c s h hn hl hd hidle moves
  have hw := whoSuits_of_namesCrane hn
  have hc := craneNamed_of_namesCrane hn
  have moves_of : ∀ i k d, exec i s = .next ((changeDuty s p c d).answer p k (.duty d)).transmit →
      ((d = .inService ∧ (s.crane c).duty ≠ .inService) ∨ d = .parked ∨ d = .outOfService) → moves i k d := by
    intro i k d hrow hcase
    generalize ht : ((changeDuty s p c d).answer p k (.duty d)).transmit = t at hrow
    have hm := dutyMoved_moves s c d
    have hafter : Follows (dutyServed s c d) t := by
      rw [← ht, changeDuty_eq]
      exact Follows_trans (Follows_trans (Follows_compose s _) (Follows_of_talks (talks_notifyBoth _ _ _ _) (notifyBoth_grows (Grows.refl _) _ _ _))) (Follows_answer _ p k _)
    rw [dutyServed_eq, settle_idle (by rw [hm.map]; exact hidle)] at hafter
    have hf : Follows (eventServed s (dutyMoved s c d)) (t.setWind (eventServed s (dutyMoved s c d)).wind) :=
      Follows_tested hafter
    have hwind := tested_wind hafter
    have hkept : keepsSite s t ∧ keepsPorts (some p) s t := by
      rw [← ht]
      exact kept_answered (changeDuty_core s p c d) (changeDuty_grows (Grows.refl s) p c d) p _
    have hslot : responds t p k .ok none (.duty d) := by
      rw [← ht]
      exact responds_transmit (answer_slot _ _ _ _)
    have htold : told t (.c c) (.duty c (s.crane c).duty d p) := by
      rw [← ht, changeDuty_eq]
      exact told_grows (Follows_answer _ p k _).grows (told_notifyBoth _ _ _ _).1
    clear ht
    obtain ⟨henvs, hothers, -, hcranes, hbook⟩ := TouchMoves_keeps hm hf
    have henv : t.env c = (dutyFormed s c d).env c := (env_of_envs henvs c).trans
      (env_of_envs (envs_of_sansBook (sansBook_of (dutyMoved_sansCells s c d))) c)
    obtain ⟨hreport, hclamp, hsince, hlink, hduty, hpark, hvane⟩ := served_record hf c
    have hcrane := (crane_of_sansCells (dutyMoved_sansCells s c d) c).trans (dutyFormed_crane s c d)
    rw [hcrane] at hreport hclamp hsince hlink hduty hpark hvane
    have hleave : d ≠ .inService → Withdraws c (losesCell s c d) s (dutyMoved s c d) := fun hne => by
      rw [dutyMoved_leaves (hcase.resolve_left fun k => hne k.1)]
      exact dutyLeft_withdraws hne
    refine ⟨t, hrow, hslot, hduty, ?reportSet, ?touch, fun hne x => ⟨?noRequest, ?holds⟩, fun hin => ?service,
      fun hne x => ⟨fun hs hlost he => ?freed, fun hkeeps => ?listLeft⟩, htold, hreport, hclamp, hlink, hsince, hpark, hvane,
      hothers, ?map, ?store, hkept.1, hkept.2, hcranes, hbook⟩
    case reportSet => exact (congrArg EnvRec.reportSet henv).trans (dutyFormed_reportSet hd)
    case touch =>
      rw [henv]
      exact dutyFormed_touch hd
    case noRequest => exact withdraws_noRequest (hleave hne) hf x
    case holds =>
      refine (withdraws_holds (hleave hne) hf x).trans (and_congr_right fun hs => ?_)
      rw [henv]
      exact not_losesCell_iff hs
    case service =>
      obtain ⟨rfl, hformer⟩ := hcase.resolve_right (by rw [hin]; simp)
      rw [if_neg hformer, dutyMoved_inService] at hafter
      exact touchServed_of (dutyFormed_moves s c _) (dutyFormed_cells s c _) hafter (by simp)
    case freed =>
      refine freedAndServed_tested hwind (withdraws_freed (hleave hne) hf (by_contra fun hx => ?_) he)
      exact absurd ((withdraws_holds (hleave hne) hf x).mpr ⟨hs, hx⟩) (by rw [Bool.not_eq_true]; exact hlost)
    case listLeft =>
      refine listLeft_tested hwind (withdraws_listLeft (hleave hne) hf fun hx => ?_)
      obtain ⟨k, hk⟩ := (hleave hne).held x hx
      exact ((withdraws_holds (hleave hne) hf x).mp (hkeeps (by simp [State.holds, hk]))).2 hx
    case map => exact hf.map.trans ((map_of_sansBook (served_sansBook s _)).trans hm.map)
    case store => exact hf.store.trans ((store_of_sansBook (served_sansBook s _)).trans hm.store)
  refine ⟨fun he hv hb => ?_, fun he ho hs hlift => ?_, fun he hs hlift => ?_⟩
  · refine moves_of _ _ _ ((exec_service_attended h hw).trans ?_) (.inl ⟨rfl, he⟩)
    rw [doService, decideDuty_accepts hl hc hd he (by simp [serviceChecks, firstRefusal, hv, fbAsserted, hb])]
  · refine moves_of _ _ _ ((exec_park_attended h hw).trans ?_) (.inr (.inl rfl))
    rw [doPark, decideDuty_accepts hl hc hd he ((firstRefusal_parkChecks ho).trans (firstRefusal_oosChecks_passes hs hlift))]
  · refine moves_of _ _ _ ((exec_oos_attended h hw).trans ?_) (.inr (.inr rfl))
    rw [doOos, decideDuty_accepts hl hc hd he (firstRefusal_oosChecks_passes hs hlift)]

end Laws
end Sys2Proof.Machine

/-! SUPPORT. A booking becomes DUE (R148): its claims placed or covered (R63), the cells served, and its admission where
it is ready (R149 to R151). -/

namespace Sys2Proof.Machine

/-- The claim of a booking placed in a record, or covered there (R63). -/
def placedRec (b : Booking) (k : CellRec) : CellRec :=
  if k.grant.any (·.holder == b.crane) then { k with covered := some b.number }
  else { k with list := placeEntry (.claim b.number b.crane b.start) (withoutRequest b.crane k.list) }

/-- What the placing of a booking's claim, once or more, has made of the record `k0` (R63). -/
structure ClaimPlaced (b : Booking) (k0 k : CellRec) : Prop where
  grant : k.grant = k0.grant
  recallState : k.recallState = k0.recallState
  held : k0.grant.any (·.holder == b.crane) = true → k.covered = some b.number ∧ k.list = k0.list
  placed : k0.grant.any (·.holder == b.crane) = false → k.covered = k0.covered
    ∧ .claim b.number b.crane b.start ∈ k.list
    ∧ (∀ e ∈ k.list, e = .claim b.number b.crane b.start ∨ e ∈ withoutRequest b.crane k0.list)
    ∧ k.list.head? = (withoutRequest b.crane k0.list).head?.or (some (.claim b.number b.crane b.start))

/-- The booking marked DUE in the book and the crane table (R148). -/
def dueMarked (s : State) (b : Booking) : State :=
  (s.modBooking b.number fun k => { k with state := .due, note := none }).modCrane b.crane
    fun k => { k with due := some b.number }

/-- The booking marked DUE and its claims placed. -/
def duePlaced (s : State) (b : Booking) : State := b.cells.foldl (placeClaim b) (dueMarked s b)

/-- The state of a booking that has become DUE before admissions are tested. -/
def dueAnnounced (s : State) (b : Booking) (former : Option BookState) : State :=
  (serveCells s (duePlaced s b)).notifyBooking b (.booking b.number b.crane former (.state .due) none none)

/-- The record of the booking made DUE. -/
def asDue (b : Booking) : Booking := { b with state := .due, note := none }

namespace Laws

/-! ### A claim placed -/

section
variable {b : Booking} {s w : State} {k k0 : CellRec} {x y : CellNo}

theorem placeClaim_cell (b : Booking) (s : State) (y z : CellNo) :
    (placeClaim b s y).cell z = if z = y then placedRec b (s.cell y) else s.cell z := by
  unfold placeClaim placedRec
  split
  · rename_i h
    rw [if_pos (show (s.cell y).grant.any (·.holder == b.crane) = true from h)]
    by_cases hz : z = y
    · rw [hz, if_pos rfl, cell_modCell_same]
    · rw [if_neg hz, cell_modCell_other _ hz]
  · rename_i h
    rw [if_neg (show ¬(s.cell y).grant.any (·.holder == b.crane) = true from h)]
    by_cases hz : z = y
    · rw [hz, if_pos rfl, cell_modCell_same, withdrawRequest_cell, if_pos rfl]
      rfl
    · rw [if_neg hz]
      refine (cell_modCell_other _ hz _).trans ?_
      rw [withdrawRequest_cell, if_neg hz]

theorem head_placeEntry (e : Entry) (l : List Entry) : (placeEntry e l).head? = l.head?.or (some e) := by
  cases l <;> rfl

theorem mem_placeEntry_self (e : Entry) (l : List Entry) : e ∈ placeEntry e l := by
  have hins : ∀ l : List Entry, e ∈ insertEntry e l := fun l => by
    induction l with
    | nil => exact List.mem_cons_self
    | cons f l ih =>
      unfold insertEntry
      split
      · exact List.mem_cons_self
      · exact List.mem_cons_of_mem f ih
  cases l with
  | nil => exact List.mem_cons_self
  | cons f l => exact List.mem_cons_of_mem f (hins l)

theorem ClaimPlaced_once (b : Booking) (k : CellRec) : ClaimPlaced b k (placedRec b k) := by
  unfold placedRec
  split
  · rename_i h
    exact ⟨rfl, rfl, fun _ => ⟨rfl, rfl⟩, fun h' => absurd h (by simp [h'])⟩
  · rename_i h
    exact ⟨rfl, rfl, fun h' => absurd h' h, fun _ => ⟨rfl, mem_placeEntry_self _ _, fun e he => mem_placeEntry he,
      head_placeEntry _ _⟩⟩

/-- A claim is no request of a crane. -/
theorem mem_withoutRequest_claim {c d : Crane} {n v : Nat} {l : List Entry} (h : Entry.claim n d v ∈ l) :
    Entry.claim n d v ∈ withoutRequest c l := List.mem_filter.mpr ⟨h, rfl⟩

theorem ClaimPlaced_again (h : ClaimPlaced b k0 k) : ClaimPlaced b k0 (placedRec b k) := by
  unfold placedRec
  rw [h.grant]
  split
  · rename_i hg
    exact ⟨rfl, h.recallState, fun _ => ⟨rfl, (h.held hg).2⟩, fun h' => absurd hg (by simp [h'])⟩
  · rename_i hg
    obtain ⟨hcov, hin, hall, hhead⟩ := h.placed (by simpa using hg)
    refine ⟨rfl, h.recallState, fun h' => absurd h' hg, fun _ => ⟨hcov, mem_placeEntry_self _ _, fun e he => ?_, ?_⟩⟩
    · rcases mem_placeEntry he with he | he
      · exact .inl he
      · exact hall e (List.mem_of_mem_filter he)
    · have hself : withoutRequest b.crane k.list = k.list := List.filter_eq_self.mpr fun e he => by
        rcases hall e he with rfl | he
        · rfl
        · exact (List.mem_filter.mp he).2
      rw [head_placeEntry, hself, hhead]
      cases (withoutRequest b.crane k0.list).head? <;> rfl

theorem foldl_placeClaim_placed (b : Booking) {x : CellNo} (l : List CellNo) {w : State} (h : ClaimPlaced b k0 (w.cell x)) :
    ClaimPlaced b k0 ((l.foldl (placeClaim b) w).cell x) := by
  induction l generalizing w with
  | nil => exact h
  | cons y l ih =>
    refine ih ?_
    rw [placeClaim_cell]
    split
    · rename_i e
      exact e ▸ ClaimPlaced_again h
    · exact h

theorem foldl_placeClaim_mem (b : Booking) {x : CellNo} (l : List CellNo) (w : State) (hx : x ∈ l) :
    ClaimPlaced b (w.cell x) ((l.foldl (placeClaim b) w).cell x) := by
  induction l generalizing w with
  | nil => cases hx
  | cons y l ih =>
    rw [List.foldl_cons]
    by_cases hxy : x = y
    · refine foldl_placeClaim_placed b l ?_
      rw [placeClaim_cell, if_pos hxy, hxy]
      exact ClaimPlaced_once b _
    · have := ih (placeClaim b w y) ((List.mem_cons.mp hx).resolve_left hxy)
      rwa [placeClaim_cell, if_neg hxy] at this

theorem foldl_placeClaim_other (b : Booking) {x : CellNo} (l : List CellNo) (w : State) (hx : x ∉ l) :
    (l.foldl (placeClaim b) w).cell x = w.cell x := by
  induction l generalizing w with
  | nil => rfl
  | cons y l ih =>
    obtain ⟨hxy, hxl⟩ := not_or.mp fun h => hx (List.mem_cons.mpr h)
    rw [List.foldl_cons, ih _ hxl, placeClaim_cell, if_neg hxy]

end

/-! ### The booking made DUE, before its admission -/

section
variable {s : State} {b : Booking} {former : Option BookState} {x : CellNo}

theorem becomeDue_eq {n : Nat} (h : s.booking n = some b) (former : Option BookState) :
    becomeDue s n former = drainRetest s (admissions s (dueAnnounced s b former)) := by
  unfold becomeDue
  rw [h]
  obtain rfl := booking_number h
  rfl

theorem dueMarked_sansBook (s : State) (b : Booking) : (dueMarked s b).sansBook = s.sansBook :=
  modCrane_sansBook _ _ _ fun _ => rfl

theorem duePlaced_sansCells (s : State) (b : Booking) : (duePlaced s b).sansCells = (dueMarked s b).sansCells :=
  foldl_keeps State.sansCells _ (fun t y => placeClaim_sansCells b t y) _ _

theorem duePlaced_sansBook (s : State) (b : Booking) : (duePlaced s b).sansBook = s.sansBook :=
  (sansBook_of (duePlaced_sansCells s b)).trans (dueMarked_sansBook s b)

theorem duePlaced_grows (s : State) (b : Booking) : Grows s (duePlaced s b) :=
  foldl_grows _ (fun _ y h => placeClaim_grows b h y) _ ((Grows.refl s).ports rfl)

theorem dueAnnounced_sansCells (s : State) (b : Booking) (former : Option BookState) :
    (dueAnnounced s b former).sansCells = (dueMarked s b).sansCells :=
  (sansCells_of (notifyBooking_sansNotices _ _ _)).trans ((serveCells_sansCells _ _).trans (duePlaced_sansCells s b))

theorem dueAnnounced_sansBook (s : State) (b : Booking) (former : Option BookState) :
    (dueAnnounced s b former).sansBook = s.sansBook :=
  (sansBook_of (dueAnnounced_sansCells s b former)).trans (dueMarked_sansBook s b)

theorem dueAnnounced_grows (s : State) (b : Booking) (former : Option BookState) : Grows s (dueAnnounced s b former) :=
  notifyBooking_grows (serveCells_grows s (duePlaced_grows s b)) _ _

theorem dueAnnounced_booking (h : s.booking b.number = some b) (n : Nat) :
    (dueAnnounced s b former).booking n = if n = b.number then some (asDue b) else s.booking n := by
  rw [booking_of_sansCells (dueAnnounced_sansCells s b former)]
  have hmod := booking_modBooking s b.number n (fun k => { k with state := .due, note := none }) fun _ => rfl
  rw [h] at hmod
  exact hmod

theorem dueAnnounced_next (s : State) (b : Booking) (former : Option BookState) :
    (dueAnnounced s b former).book.next = s.book.next :=
  (congrArg Book.next (book_of_sansCells (dueAnnounced_sansCells s b former))).trans rfl

theorem dueAnnounced_crane (s : State) (b : Booking) (former : Option BookState) (c : Crane) :
    (dueAnnounced s b former).crane c
      = if c = b.crane then { s.crane b.crane with due := some b.number } else s.crane c := by
  rw [crane_of_sansCells (dueAnnounced_sansCells s b former)]
  exact crane_modCrane _ _ _ _

theorem dueAnnounced_cell (s : State) (b : Booking) (former : Option BookState) (x : CellNo) :
    (dueAnnounced s b former).cell x = (serveCells s (duePlaced s b)).cell x := notifyBooking_cell _ _ _ _

theorem dueAnnounced_told (s : State) (b : Booking) (former : Option BookState) :
    bookingTold s (dueAnnounced s b former) b former (.state .due) :=
  bookingTold_mono (told_notifyBooking _ _ _ : bookingTold (serveCells s (duePlaced s b)) _ b former (.state .due))
    (fun _ => (mask_grows (serveCells_grows s (duePlaced_grows s b)) _).symm) (Grows.refl _)

theorem duePlaced_placed (s : State) (b : Booking) (hx : x ∈ b.cells) :
    ClaimPlaced b (s.cell x) ((duePlaced s b).cell x) := foldl_placeClaim_mem b _ (dueMarked s b) hx

theorem duePlaced_other (s : State) (b : Booking) (hx : x ∉ b.cells) : (duePlaced s b).cell x = s.cell x :=
  foldl_placeClaim_other b _ (dueMarked s b) hx

/-- Cells that the booking does not list are left. -/
theorem dueAnnounced_other (hx : x ∉ b.cells) : (dueAnnounced s b former).cell x = s.cell x := by
  have hcell := duePlaced_other s b hx
  have hrest := duePlaced_sansBook s b
  rw [dueAnnounced_cell, serveCells_steady (serviceDue_unchanged hrest (by rw [hcell]) (by rw [hcell])) (by rw [hcell]),
    hcell]

/-- A DUE booking is the one made DUE, or was DUE before. -/
theorem dueAnnounced_due (h : s.booking b.number = some b) {d : Booking}
    (hd : (dueAnnounced s b former).booking d.number = some d) :
    d = asDue b ∨ (d.number ≠ b.number ∧ s.booking d.number = some d) := by
  rw [dueAnnounced_booking h] at hd
  split at hd
  · exact .inl (Option.some.inj hd).symm
  · exact .inr ⟨‹_›, hd⟩

theorem admits_made (s : State) (b : Booking) (former : Option BookState) :
    Admits (dueAnnounced s b former) (admissions s (dueAnnounced s b former)) := admits_admissions s _

variable {t : State}

theorem crane_sansLift_of_sansBook {v w : State} (h : w.sansBook = v.sansBook) (c : Crane) :
    (w.crane c).sansLift = (v.crane c).sansLift := by
  have hk : ∀ v : State, (v.sansBook.crane c) = (v.crane c).sansLift := fun v => by
    show ((v.cranes.map CraneRec.sansLift)[c] : CraneRec) = _
    rw [Fin.getElem_fin, Vector.getElem_map]
    rfl
  rw [← hk, ← hk, h]

/-- What a booking that becomes DUE leaves of the others and of what it does not name (R148, R151). -/
theorem made_keeps (h : s.booking b.number = some b) (hf : Follows (admissions s (dueAnnounced s b former)) t) :
    (∀ n d, n ≠ b.number → s.booking n = some d → d.state ≠ .due → t.booking n = some d)
      ∧ t.book.next = s.book.next ∧ t.envs = s.envs ∧ keepsPlant s t ∧ keepsCranes (some b.crane) s t
      ∧ keepsCells (· ∈ b.cells) s t := by
  have hadm := admits_made s b former
  have hrest := hadm.rest.trans (dueAnnounced_sansBook s b former)
  refine ⟨fun n d hn hd hne => ?_, ?_, hf.envs.trans (envs_of_sansBook hrest), ⟨hf.map.trans (map_of_sansBook hrest),
    hf.store.trans (store_of_sansBook hrest), hf.wind.trans (wind_of_sansBook hrest), fun l => (hf.cfg l).trans
      (of_sansBook (fun v : State => (v.sig l).cfg) hrest fun _ => rfl)⟩, keepsCranes_of hf fun c hc => ⟨?_, fun hdue => ?_⟩,
    fun x hx hdue => ?_⟩
  · rw [Follows_booking hf]
    exact Admits_booking hadm (by rw [dueAnnounced_booking h, if_neg hn, hd]) hne
  · rw [hf.book, hadm.next, dueAnnounced_next]
  · exact crane_sansLift_of_sansBook hrest c
  · have hcb : c ≠ b.crane := fun e => hc (congrArg some e)
    rcases hadm.crane c with e | ⟨d, hd, rfl⟩
    · rw [e, dueAnnounced_crane, if_neg hcb]
    · rcases dueAnnounced_due h hd.known with rfl | ⟨-, hknown⟩
      · exact absurd rfl hcb
      · exact absurd ⟨d, booking_mem hknown, hd.due, rfl⟩ hdue
  · rw [Follows_cell hf]
    rcases hadm.cell x with e | ⟨d, hd, hxd⟩
    · rw [e, dueAnnounced_other hx]
    · rcases dueAnnounced_due h hd.known with rfl | ⟨-, hknown⟩
      · exact absurd hxd hx
      · exact absurd ⟨d, booking_mem hknown, hd.due, hxd⟩ hdue

/-- The booking made DUE is DUE, or has been admitted (R148, R150). -/
theorem made_booking (h : s.booking b.number = some b) (hf : Follows (admissions s (dueAnnounced s b former)) t) :
    t.booking b.number = some (asDue b) ∨ t.booking b.number = some { asDue b with state := .admitted } := by
  have hknown := dueAnnounced_booking (former := former) h b.number
  rw [if_pos rfl] at hknown
  rw [Follows_booking hf]
  rcases (admits_made s b former).booking b.number with e | ⟨d, hd, hn⟩
  · exact .inl (e.trans hknown)
  · rw [← hn] at hknown
    obtain rfl : d = asDue b := Option.some.inj (hd.known.symm.trans hknown)
    exact .inr hd.booked

/-- The acceptance of the booking as DUE is told, and so is its admission (R130). -/
theorem made_told (h : s.booking b.number = some b) (hf : Follows (admissions s (dueAnnounced s b former)) t) :
    bookingTold s t b former (.state .due) ∧ admissionTold s t b := by
  have hadm := admits_made s b former
  refine ⟨bookingTold_mono (dueAnnounced_told s b former) (fun _ => rfl) (hadm.grows.trans hf.grows), fun hst => ?_⟩
  have hknown := dueAnnounced_booking (former := former) h b.number
  rw [if_pos rfl] at hknown
  rw [bookStateOf, Follows_booking hf] at hst
  rcases hadm.booking b.number with e | ⟨d, hd, hn⟩
  · rw [e, hknown] at hst
    cases hst
  · rw [← hn] at hknown
    obtain rfl : d = asDue b := Option.some.inj (hd.known.symm.trans hknown)
    exact bookingTold_mono hd.told (fun _ => (mask_grows (dueAnnounced_grows s b former) _).symm) hf.grows

/-! ### Where it is admitted -/

/-- No claim of the booking stands on a cell that no DUE booking names. -/
theorem unclaimed_of_undue (hdue : ¬dueForCell s x) (hclaims : cellClaimsDue s x) :
    (s.cell x).covered = none ∧ ∀ e ∈ (s.cell x).list, isRequest e = true := by
  refine ⟨Option.eq_none_iff_forall_ne_some.mpr fun n hn => ?_, fun e he => ?_⟩
  · obtain ⟨d, hd, hnames, -⟩ := hclaims.1 n hn
    exact hdue ⟨d, hd, hnames.2⟩
  · rcases hclaims.2 e he with h | ⟨d, hd, hnames, -⟩
    · exact h
    · exact absurd ⟨d, hd, hnames.2⟩ hdue

/-- A cell that the booking lists is as R149 asks for its admission exactly where it was ready before its claim was
placed. -/
theorem placed_ready (hx : x ∈ b.cells) (hdue : ¬dueForCell s x) (hclaims : cellClaimsDue s x) :
    ((dueAnnounced s b former).isDraining x = false
        ∧ ((dueAnnounced s b former).holds b.crane x = true
          ∨ (((dueAnnounced s b former).cell x).grant = none ∧ (dueAnnounced s b former).othersTouch b.crane x = false))
        ∧ (((dueAnnounced s b former).cell x).covered = some b.number
          ∨ headClaim b.number ((dueAnnounced s b former).cell x).list = true))
      ↔ cellReadyFor s b x := by
  obtain ⟨hcov, hreqs⟩ := unclaimed_of_undue hdue hclaims
  have hrest := dueAnnounced_sansBook s b former
  have hp := duePlaced_placed s b hx
  have hcell := dueAnnounced_cell s b former x
  unfold cellReadyFor
  rw [isDraining_of_map (map_of_sansBook hrest), othersTouch_of_envs (envs_of_sansBook hrest)]
  refine and_congr_right fun _ => ?_
  cases hheld : s.holds b.crane x with
  | true =>
    obtain ⟨hc, -⟩ := hp.held hheld
    obtain ⟨g, hg, -⟩ := (Option.any_eq_true _ _).mp hheld
    obtain ⟨⟨r, hr⟩, -⟩ := serveCells_held (s0 := s) (hp.grant.trans hg)
    rw [hr] at hcell
    have hholds : (dueAnnounced s b former).holds b.crane x = true := by
      rw [← hheld]
      exact holds_of_cell (by rw [hcell]; exact hp.grant)
    exact iff_of_true ⟨.inl hholds, .inl (by rw [hcell]; exact hc)⟩ (.inl rfl)
  | false =>
    obtain ⟨hc, -, hall, hhead⟩ := hp.placed hheld
    rw [hcov] at hc
    simp only [Bool.false_eq_true, false_or]
    rcases serveCells_cases s (duePlaced s b) x with ⟨r, hr⟩ | ⟨e, rest, r, hl, he, -, hr⟩
    · rw [hr] at hcell
      have hnot : (dueAnnounced s b former).holds b.crane x = false := by
        rw [← hheld]
        exact holds_of_cell (by rw [hcell]; exact hp.grant)
      rw [hnot, hcell]
      dsimp only
      rw [hp.grant, hc]
      simp only [Bool.false_eq_true, false_or, reduceCtorEq, and_assoc]
      refine and_congr_right fun _ => and_congr_right fun _ => ?_
      cases hl : withoutRequest b.crane (s.cell x).list with
      | nil =>
        rw [hl] at hhead
        obtain ⟨rest, hlist⟩ := List.head?_eq_some_iff.mp hhead
        rw [hlist]
        simp [headClaim, isClaimOf]
      | cons e l =>
        rw [hl] at hhead
        obtain ⟨rest, hlist⟩ := List.head?_eq_some_iff.mp hhead
        have hreq : isRequest e = true := hreqs e (List.mem_of_mem_filter (by rw [← withoutRequest, hl]; exact List.mem_cons_self))
        rw [hlist]
        cases e with
        | claim => cases hreq
        | entry => simp [headClaim, isClaimOf]
        | auto => simp [headClaim, isClaimOf]
    · rw [hr] at hcell
      have hne : entryCrane e ≠ b.crane := fun k => by
        rcases hall e (by rw [hl]; exact List.mem_cons_self) with rfl | hmem
        · cases he
        · have := (List.mem_filter.mp hmem).2
          simp [he, k] at this
      refine iff_of_false (fun ⟨k, _⟩ => ?_) fun ⟨_, _, k⟩ => ?_
      · rcases k with k | ⟨k, -⟩
        · simp [State.holds, hcell, hne] at k
        · rw [hcell] at k
          cases k
      · rw [k, hl] at hhead
        obtain rfl : e = _ := Option.some.inj hhead
        cases he

/-- An admission leaves no claim of its booking. -/
theorem admittedCell_clear (n : Nat) (c : Crane) (k : CellRec) :
    (admittedCell n c k).covered ≠ some n ∧ ∀ e ∈ (admittedCell n c k).list, isClaimOf n e = false := by
  refine ⟨?_, fun e he => by simpa using (List.mem_filter.mp he).2⟩
  unfold admittedCell
  by_cases h : k.covered = some n <;> simp [h]

/-- Service leaves the booking's claim, which is no request. -/
theorem placed_claims (hx : x ∈ b.cells) : ((dueAnnounced s b former).cell x).covered = some b.number
    ∨ ∃ e ∈ ((dueAnnounced s b former).cell x).list, isClaimOf b.number e = true := by
  have hp := duePlaced_placed s b hx
  rw [dueAnnounced_cell]
  cases hheld : s.holds b.crane x with
  | true =>
    obtain ⟨hc, -⟩ := hp.held hheld
    rcases serveCells_cases s (duePlaced s b) x with ⟨r, hr⟩ | ⟨e, rest, r, -, -, -, hr⟩ <;> rw [hr]
    · exact .inl hc
    · exact .inl hc
  | false =>
    obtain ⟨-, hin, -⟩ := hp.placed hheld
    refine .inr ⟨_, ?_, show isClaimOf b.number (.claim b.number b.crane b.start) = true by simp [isClaimOf]⟩
    rcases serveCells_cases s (duePlaced s b) x with ⟨r, hr⟩ | ⟨e, rest, r, hl, he, -, hr⟩ <;> rw [hr]
    · exact hin
    · rw [hl] at hin
      refine (List.mem_cons.mp hin).resolve_left fun k => ?_
      rw [← k] at he
      cases he

theorem craneReady_made : craneReadyFor (dueAnnounced s b former) (asDue b) ↔ craneReadyFor s b := by
  unfold craneReadyFor
  rw [show (asDue b).crane = b.crane from rfl, dueAnnounced_crane, if_pos rfl,
    wind_of_sansBook (dueAnnounced_sansBook s b former)]
  rfl

/-- A booking that becomes DUE is admitted within the event exactly where it is ready, no other DUE booking naming its
crane or its cells (R148 to R151). -/
theorem made_dueOrAdmitted (h : s.booking b.number = some b) (hb : b.state ≠ .due)
    (hf : Follows (admissions s (dueAnnounced s b former)) t) : dueOrAdmitted s t b := by
  intro hcrane hcells
  have hknown : (dueAnnounced s b former).booking (asDue b).number = some (asDue b) := by
    rw [dueAnnounced_booking h]
    exact if_pos rfl
  have hready : canBeAdmitted (dueAnnounced s b former) (asDue b) ↔ readyFor s b :=
    and_congr craneReady_made (forall_congr' fun x => forall_congr' fun hx =>
      placed_ready hx (hcells x hx).1 (hcells x hx).2)
  have hadm := admits_made s b former
  have hothers : ∀ d, (dueAnnounced s b former).booking d.number = some d → d.state = .due → d ≠ asDue b →
      d.crane ≠ b.crane ∧ ∀ x ∈ b.cells, x ∉ d.cells := fun d hd hdue hne => by
    obtain ⟨-, hold⟩ := (dueAnnounced_due h hd).resolve_left hne
    exact ⟨fun e => hcrane ⟨d, booking_mem hold, hdue, e⟩, fun x hx hxd => (hcells x hx).1 ⟨d, booking_mem hold, hdue, hxd⟩⟩
  have hwas : bookStateOf s b.number ≠ some .due := fun e => hb (by
    rw [bookStateOf, h] at e
    exact Option.some.inj e)
  refine ⟨fun hr => ?_, fun hr => ?_⟩
  · have hd : Enters (dueAnnounced s b former) (admissions s (dueAnnounced s b former)) (asDue b) := by
      refine admissions_admit hknown rfl ?_ (hready.mpr hr) fun d hd hdue hn => hothers d hd hdue fun k => hn (by rw [k])
      simp [admissionDue, show (asDue b).number = b.number from rfl, hwas]
    have hcrane := hd.crane
    refine ⟨?_, ?_, ?_, fun x hx => ?_⟩
    · rw [bookStateOf, Follows_booking hf, show b.number = (asDue b).number from rfl, hd.booked]
      rfl
    · rw [Follows_lift hf, show b.crane = (asDue b).crane from rfl, hcrane]
      rfl
    · rw [Follows_due hf, show b.crane = (asDue b).crane from rfl, hcrane]
    · rw [Follows_cell hf, hd.cells x hx]
      exact ⟨rfl, rfl, admittedCell_clear _ _ _⟩
  · have hnot : ∀ d, Enters (dueAnnounced s b former) (admissions s (dueAnnounced s b former)) d → d ≠ asDue b :=
      fun d hd e => hr (hready.mp (e ▸ hd.ready))
    refine ⟨?_, ?_, fun x hx => ?_⟩
    · rcases hadm.booking b.number with e | ⟨d, hd, hn⟩
      · rw [bookStateOf, Follows_booking hf, e, show b.number = (asDue b).number from rfl, hknown]
        rfl
      · have hd' := hd.known
        rw [hn, show b.number = (asDue b).number from rfl, hknown] at hd'
        exact absurd (Option.some.inj hd').symm (hnot d hd)
    · rw [Follows_due hf]
      rcases hadm.crane b.crane with e | ⟨d, hd, hk⟩
      · rw [e, dueAnnounced_crane, if_pos rfl]
      · exact absurd hk (hothers d hd.known hd.due (hnot d hd)).1
    · rw [Follows_cell hf]
      rcases hadm.cell x with e | ⟨d, hd, hk⟩
      · rw [e]
        exact placed_claims hx
      · exact absurd hk ((hothers d hd.known hd.due (hnot d hd)).2 x hx)

end
end Laws
end Sys2Proof.Machine

/-! SUPPORT. RULE (R137) and BOOK (R136): a record put in the book or changed there, and what it becomes. -/

namespace Sys2Proof.Machine

/-- The booking accepted before its start (R137). -/
def asBooked (b : Booking) : Booking := { b with state := .booked, note := none }

namespace Laws

/-! ### A change of the book alone -/

section
variable {s t : State} {p : Port} {b : Booking}

/-- An answered request that changes nothing but the book, and tells it. -/
theorem bookChange_keeps (s : State) (v : Book) (b : Booking) (n : Notice) (p : Port) (k : ReqKind) (r : Result)
    (ht : (((s.setBook v).notifyBooking b n).answer p k r).transmit = t) :
    t.book = v ∧ t.cells = s.cells ∧ t.cranes = s.cranes ∧ t.envs = s.envs ∧ t.outs = s.outs ∧ t.sources = s.sources
      ∧ keepsSite s t ∧ keepsPorts (some p) s t ∧ keepsPlant s t := by
  have htalks : Talks (s.setBook v) ((s.setBook v).notifyBooking b n) := talks_notifyBooking _ _ _
  have hgrows : Grows (s.setBook v) ((s.setBook v).notifyBooking b n) := notifyBooking_grows (Grows.refl _) _ _
  have hcore : ((s.setBook v).notifyBooking b n).core = s.core :=
    (core_of_sansNotices (notifyBooking_sansNotices _ _ _)).trans rfl
  have hf := Follows_trans (Follows_of_talks htalks hgrows) (Follows_answer _ p k r)
  have hkept := kept_answered (s := s) hcore (((Grows.refl s).ports (t := s.setBook v) rfl).trans hgrows) p ⟨respKind k, .ok, none, r⟩
  have hcranes := (of_talks State.cranes htalks fun _ _ => rfl).trans (show (s.setBook v).cranes = s.cranes from rfl)
  have houts := (of_talks State.outs htalks fun _ _ => rfl).trans (show (s.setBook v).outs = s.outs from rfl)
  have hsources := (of_talks State.sources htalks fun _ _ => rfl).trans (show (s.setBook v).sources = s.sources from rfl)
  generalize (s.setBook v).notifyBooking b n = u at ht hf hkept hcranes houts hsources
  obtain rfl := ht
  exact ⟨hf.book, hf.cells, (transmit_cranes _).trans hcranes, hf.envs, (transmit_outs _).trans houts,
    (transmit_sources _).trans hsources, hkept.1, hkept.2, hf.map, hf.store, hf.wind, hf.cfg⟩

/-- A request that makes a booking DUE, answered; the book of `s` may be later than that of `s0`. -/
theorem becomesDue_keeps {s0 : State} {former : Option BookState} {k : ReqKind} {r : Result}
    (hb : s.booking b.number = some b) (hidle : s.map.commit = .idle) (hcore : s.core = s0.core) (hgrows : Grows s0 s)
    (ht : ((compose s0 (becomeDue s b.number former)).answer p k r).transmit = t) :
    Follows (admissions s (dueAnnounced s b former)) t ∧ keepsSite s0 t ∧ keepsPorts (some p) s0 t := by
  have hrest := (admits_made s b former).rest.trans (dueAnnounced_sansBook s b former)
  have heq : becomeDue s b.number former = admissions s (dueAnnounced s b former) := by
    rw [becomeDue_eq hb, drainRetest_idle ((congrArg MapUnit.commit (map_of_sansBook hrest)).trans hidle)]
  have hf := Follows_trans (Follows_compose s0 (becomeDue s b.number former)) (Follows_answer _ p k r)
  have hkept := kept_answered (s := s0) (((compose_core s0 _).trans (becomeDue_core s b.number former)).trans hcore)
    (compose_grows s0 (becomeDue_grows hgrows _ _)) p ⟨respKind k, .ok, none, r⟩
  rw [show ((compose s0 (becomeDue s b.number former)).respond p ⟨respKind k, .ok, none, r⟩).transmit = t from ht] at hkept
  rw [ht, heq] at hf
  exact ⟨hf, hkept⟩

end

/-! ### RULE -/

section
variable {x : Sup} {s : State} {n r : Nat} {b : Booking}

theorem rulingOf_isSome (h : r ≤ 1) : (rulingOf r).isSome = true := by
  obtain rfl | rfl : r = 0 ∨ r = 1 := by omega
  · rfl
  · rfl

theorem rulingOf_eq_none (h : 1 < r) : rulingOf r = none := by
  match r, h with
  | _ + 2, _ => rfl

theorem doRule_badField (hx : x = s.holder) (h : n < 1 ∨ 65535 < n ∨ 1 < r) :
    doRule (.s x) n r s = s.refuse (.s x) .rule .badField := by
  have hfields : (numberInRange n && (rulingOf r).isSome) = false := by
    rcases h with h | h | h
    · simp [numberInRange, show ¬1 ≤ n by omega]
    · simp [numberInRange, show ¬n ≤ 65535 by omega]
    · simp [rulingOf_eq_none h]
  have hf : firstRefusal (rulingChecks s (.s x) n (rulingOf r).isSome) = some .badField := by
    simp only [rulingChecks, hfields, authorized_of_holder hx]
    rfl
  unfold doRule
  rw [hf]

theorem doRule_noBooking (hx : x = s.holder) (h1 : 1 ≤ n) (h2 : n ≤ 65535) (hr : r ≤ 1) (hb : s.booking n = none) :
    doRule (.s x) n r s = s.refuse (.s x) .rule .noBooking := by
  unfold doRule
  rw [rulingOf_isSome hr, firstRefusal_rulingChecks_noBooking hx h1 h2 hb]

theorem doRule_named (hx : x = s.holder) (h1 : 1 ≤ n) (h2 : n ≤ 65535) (hr : r ≤ 1) (hb : s.booking n = some b) :
    doRule (.s x) n r s = if b.state = .referred then giveRuling s (.s x) b (r == 0)
      else s.refuse (.s x) .rule .notReferred (.bookState b.state) := by
  unfold doRule
  rw [rulingOf_isSome hr, firstRefusal_rulingChecks_pass hx h1 h2 hb, hb]
  obtain rfl | rfl : r = 0 ∨ r = 1 := by omega
  · rfl
  · rfl

theorem endBooking_crane_same (hb : s.booking b.number = some b) (hd : b.state ≠ .due) (hu : underWay b.state = false)
    (h : liftsUnderWay s) (o : BookOutcome) (q : Option Port) (c : Crane) : (endBooking s b o q).crane c = s.crane c := by
  have hsame := cancelled_crane_same (p := .s .s1) hb hd hu h c
  unfold cancelled at hsame
  rwa [if_neg hd, endBooking_crane, ← endBooking_crane s b o q] at hsame

/-- A booking that is not DUE ends without occasion of service (R130). -/
theorem served_endBooking (hb : s.booking b.number = some b) (hd : b.state ≠ .due) (hu : underWay b.state = false)
    (h : liftsUnderWay s) (o : BookOutcome) (q : Option Port) :
    eventServed s (endBooking s b o q) = endBooking s b o q := by
  refine served_steady (endBooking_sansBook s b o q) (fun y => by rw [endBooking_cell]) (fun y => by rw [endBooking_cell])
    (endBooking_crane_same hb hd hu h o q) fun m d hmd _ => ?_
  rw [booking_endBooking] at hmd
  split at hmd
  · cases hmd
  · exact hmd

end

/-- Settles O53: a booking accepted before its start changes the book alone; one whose start has come is made DUE
(`made_dueOrAdmitted`); one rejected ends without occasion of service. -/
theorem ruleDecidesAReferredBooking : Obligations.RuleDecidesAReferredBooking := by
  intro x s h hx
  refine ⟨fun n r hn => exec_sup_attended h (.rule n r) (doRule_badField hx hn),
    fun n r h1 h2 hr hb => exec_sup_attended h (.rule n r) (doRule_noBooking hx h1 h2 hr hb),
    fun n b h1 h2 hb => ?_⟩
  obtain rfl := booking_number hb
  refine ⟨fun hst r hr => ?_, fun hst hnow => ?_, fun hst hnow hidle => ?_, fun hst hidle hlifts => ?_⟩
  · exact exec_sup_attended h (.rule b.number r) ((doRule_named hx h1 h2 hr hb).trans (if_neg hst))
  · have hdo : doRule (.s x) b.number 0 s
        = (((s.modBooking b.number fun k => { k with state := .booked, note := none }).notifyBooking b
          (.booking b.number b.crane (some .referred) (.state .booked) none none)).answer (.s x) .rule (.bookState .booked)) := by
      rw [doRule_named hx h1 h2 (by omega) hb, if_pos hst]
      show giveRuling s (.s x) b true = _
      unfold giveRuling acceptRuling
      rw [if_pos rfl, if_neg (by omega), if_neg (by omega)]
    have hmod : ∀ k, (s.modBooking b.number fun k => { k with state := .booked, note := none }).booking k
        = if k = b.number then some (asBooked b) else s.booking k := fun k => by
      have := booking_modBooking s b.number k (fun k => { k with state := .booked, note := none }) fun _ => rfl
      rwa [hb] at this
    have htold := bookingTold_mono (s' := s) (told_notifyBooking _ _ _ :
        bookingTold (s.modBooking b.number fun k => { k with state := .booked, note := none }) _ b (some .referred)
          (.state .booked)) (fun _ => rfl) (Follows_answer _ (.s x) .rule (.bookState .booked)).grows
    obtain ⟨hbook, hcells, hcranes, henvs, houts, -, hsite, hports, hplant⟩ := bookChange_keeps s
      (s.modBooking b.number fun k => { k with state := .booked, note := none }).book b
      (.booking b.number b.crane (some .referred) (.state .booked) none none) (.s x) .rule (.bookState .booked) rfl
    refine ⟨_, exec_sup_attended h (.rule b.number 0) hdo, responds_transmit (answer_slot _ _ _ _), ?_, htold,
      fun k hk => ?_, ?_, hcells, hcranes, henvs, houts, hsite, hports, hplant⟩
    · exact (booking_congr hbook _).trans ((hmod _).trans (if_pos rfl))
    · exact (booking_congr hbook _).trans ((hmod _).trans (if_neg hk))
    · exact (congrArg Book.next hbook :)
  · have hdo : doRule (.s x) b.number 0 s
        = (compose s (becomeDue s b.number (some .referred))).answer (.s x) .rule (.bookState .due) := by
      rw [doRule_named hx h1 h2 (by omega) hb, if_pos hst]
      show giveRuling s (.s x) b true = _
      unfold giveRuling acceptRuling
      rw [if_pos rfl, if_pos hnow, if_pos hnow]
    obtain ⟨hf, hsite, hports⟩ := becomesDue_keeps (p := .s x) (k := .rule) (r := .bookState .due) (former := some .referred)
      hb hidle rfl (Grows.refl s) rfl
    obtain ⟨hothers, hnext, henvs, hplant, hcranes, hcells⟩ := made_keeps hb hf
    obtain ⟨htold, hadmitted⟩ := made_told hb hf
    have hdue := made_dueOrAdmitted hb (by rw [hst]; nofun) hf
    rcases made_booking hb hf with hk | hk
    · exact ⟨_, _, exec_sup_attended h (.rule b.number 0) hdo, responds_transmit (answer_slot _ _ _ _), hk, rfl, .inl rfl,
        htold, hadmitted, hdue, hothers, hnext, henvs, hcranes, hcells, hsite, hports, hplant⟩
    · exact ⟨_, _, exec_sup_attended h (.rule b.number 0) hdo, responds_transmit (answer_slot _ _ _ _), hk, rfl, .inr rfl,
        htold, hadmitted, hdue, hothers, hnext, henvs, hcranes, hcells, hsite, hports, hplant⟩
  · have hdo : doRule (.s x) b.number 1 s
        = (conclude s (endBooking s b .rejected none)).answer (.s x) .rule .nothing := by
      rw [doRule_named hx h1 h2 (by omega) hb, if_pos hst]
      rfl
    have hgrows := endBooking_grows (Grows.refl s) b .rejected none
    obtain ⟨hf, hsite, hports⟩ := answered_event (endBooking_sansBook s b .rejected none) hgrows hidle (.s x) .rule .nothing
    obtain ⟨henvs, hplant⟩ := served_plant (endBooking_sansBook s b .rejected none) hf
    rw [served_endBooking hb (by rw [hst]; nofun) (by rw [hst]; rfl) hlifts] at hf
    refine ⟨_, exec_sup_attended h (.rule b.number 1) hdo, responds_transmit (answer_slot _ _ _ _), ?_, ?_, fun k hk => ?_,
      ?_, henvs, hsite, hports, hplant⟩
    · rw [Follows_booking hf, booking_endBooking, if_pos rfl]
    · have := endBooking_told s b .rejected none
      rw [hst] at this
      exact bookingTold_mono this (fun _ => rfl) hf.grows
    · rw [Follows_booking hf, booking_endBooking, if_neg hk]
    · exact hf.cells.trans (Vector.ext fun i hi => endBooking_cell s b .rejected none ⟨i, hi⟩)

end Laws
end Sys2Proof.Machine

/-! SUPPORT. BOOK past its checks (R131, R136): the number given, the record, and what becomes of it. -/

namespace Sys2Proof.Machine.Laws
open Sys2Proof Sys2Proof.Machine

/-! ### The number given -/

/-- The numbers tried, in order, are the successors of the first (R131). -/
theorem iterate_numberAfter_eq {n : Nat} (h1 : 1 ≤ n) (h2 : n ≤ 65535) (i : Nat) :
    numberAfter^[i] n = (n - 1 + i) % 65535 + 1 := by
  induction i with
  | zero => simp only [Function.iterate_zero, id_eq]; omega
  | succ i ih =>
    rw [Function.iterate_succ_apply', ih]
    unfold numberAfter
    split <;> omega

/-- The first number tried that no booking holds is found. -/
theorem freeNumber_first {live : List Booking} {fuel n j : Nat} (hj : j ≤ fuel)
    (hheld : ∀ i < j, ∃ b ∈ live, b.number = numberAfter^[i] n) (hfree : ∀ b ∈ live, b.number ≠ numberAfter^[j] n) :
    freeNumber live fuel n = numberAfter^[j] n := by
  induction fuel generalizing n j with
  | zero =>
    obtain rfl : j = 0 := by omega
    rfl
  | succ fuel ih =>
    rw [freeNumber_succ]
    cases j with
    | zero =>
      refine if_neg ?_
      simpa using hfree
    | succ j =>
      obtain ⟨b, hb, hn⟩ := hheld 0 (by omega)
      rw [if_pos (List.any_eq_true.mpr ⟨b, hb, by simpa using hn⟩)]
      exact ih (by omega) (fun i hi => hheld (i + 1) (by omega)) hfree

/-- The number given is the first after the last given that no live booking holds (R131). -/
theorem numberGiven_first {k : Book} (hk : k.live.length < 96) {j : Nat}
    (hheld : ∀ i < j, ∃ b ∈ k.live, b.number = numberAfter^[i] k.next)
    (hfree : ∀ b ∈ k.live, b.number ≠ numberAfter^[j] k.next) : numberGiven k = numberAfter^[j] k.next :=
  freeNumber_first (by have := heldRun_le hk hheld; omega) hheld hfree

/-! ### The record -/

section
variable {s t : State} {p : Port} {c : Crane} {f : BookFields}

theorem loadClass_getD (n : Nat) : (loadClassOf n).getD .normal = if n = 1 then .heavy else .normal := by
  match n with
  | 0 => rfl
  | 1 => rfl
  | _ + 2 => rfl

theorem flag_getD (n : Nat) : (flagOf n).getD false = (n == 1) := by
  match n with
  | 0 => rfl
  | 1 => rfl
  | _ + 2 => rfl

theorem bookingOf_note (s : State) (p : Port) (c : Crane) (f : BookFields) : (bookingOf s p c f).note
    = if rulingCells s (bookCells f) = [] then none else some (rulingCells s (bookCells f)) := by
  unfold bookingOf
  dsimp only
  cases rulingCells s (bookCells f) <;> rfl

theorem bookingOf_state_eq (s : State) (p : Port) (c : Crane) (f : BookFields) : (bookingOf s p c f).state
    = if rulingCells s (bookCells f) = [] then .booked else .referred := by
  unfold bookingOf
  dsimp only
  cases rulingCells s (bookCells f) <;> rfl

/-- An accepted record is not DUE yet. -/
theorem mem_bookWith_due {d : Booking} (hd : d.state = .due) :
    d ∈ (s.setBook (bookWith s.book (bookingOf s p c f))).book.live ↔ d ∈ s.book.live := by
  refine mem_insertBooking.trans (or_iff_right fun e => ?_)
  rcases bookingOf_state s p c f with h | h <;> rw [← e, hd] at h <;> cases h

theorem dueForCrane_bookWith (e : Crane) :
    dueForCrane (s.setBook (bookWith s.book (bookingOf s p c f))) e ↔ dueForCrane s e :=
  exists_congr fun _ => and_congr_left fun h => mem_bookWith_due h.1

theorem dueForCell_bookWith (x : CellNo) :
    dueForCell (s.setBook (bookWith s.book (bookingOf s p c f))) x ↔ dueForCell s x :=
  exists_congr fun _ => and_congr_left fun h => mem_bookWith_due h.1

theorem dueNaming_bookWith (h : s.book.live.length < 96) {x : CellNo} {d : Booking} (hd : dueNaming s x d) :
    dueNaming (s.setBook (bookWith s.book (bookingOf s p c f))) x d := by
  refine ⟨?_, hd.2⟩
  rw [booking_bookWith s p c f h, if_neg (numberGiven_free s.book h d (booking_mem hd.1))]
  exact hd.1

theorem cellClaimsDue_bookWith (h : s.book.live.length < 96) {x : CellNo} (hx : cellClaimsDue s x) :
    cellClaimsDue (s.setBook (bookWith s.book (bookingOf s p c f))) x := by
  refine ⟨fun n hn => ?_, fun e he => (hx.2 e he).imp_right fun ⟨d, hd, hdn, hed⟩ =>
    ⟨d, mem_insertBooking.mpr (.inr hd), dueNaming_bookWith h hdn, hed⟩⟩
  obtain ⟨d, hd, hdn, hnum⟩ := hx.1 n hn
  exact ⟨d, mem_insertBooking.mpr (.inr hd), dueNaming_bookWith h hdn, hnum⟩

/-! ### BOOK accepted -/

theorem acceptBook_waits (h : s.clock.count < f.start ∨ rulingCells s (bookCells f) ≠ []) :
    acceptBook s p c f = ((s.setBook (bookWith s.book (bookingOf s p c f))).notifyBooking (bookingOf s p c f)
      (.booking (bookingOf s p c f).number (bookingOf s p c f).crane none (.state (bookingOf s p c f).state) none none)).answer
        p .book (.booked (bookingOf s p c f).number (bookingOf s p c f).state f.start f.duration (bookingOf s p c f).note) := by
  have hst : acceptedState s.clock.count (bookingOf s p c f) = (bookingOf s p c f).state := by
    refine if_neg fun ⟨hb, hs⟩ => ?_
    rcases h with h | h
    · exact absurd (show f.start ≤ s.clock.count from hs) (by omega)
    · rw [bookingOf_state_eq, if_neg h] at hb
      cases hb
  have hnd : (bookingOf s p c f).state ≠ .due := by
    rcases bookingOf_state s p c f with h | h <;> rw [h] <;> nofun
  unfold acceptBook
  extract_lets b u st v
  rw [show v = u.notifyBooking b (.booking b.number b.crane none (.state st) none none) from
    if_neg fun k => hnd (hst.symm.trans k),
    show st = b.state from hst]
  rfl

theorem acceptBook_due (h : f.start ≤ s.clock.count) (hr : rulingCells s (bookCells f) = []) :
    acceptBook s p c f = (compose s (becomeDue (s.setBook (bookWith s.book (bookingOf s p c f))) (bookingOf s p c f).number
      none)).answer p .book (.booked (bookingOf s p c f).number .due f.start f.duration none) := by
  have hst : acceptedState s.clock.count (bookingOf s p c f) = .due :=
    if_pos ⟨by rw [bookingOf_state_eq, if_pos hr], h⟩
  unfold acceptBook
  extract_lets b u st v
  rw [show v = compose s (becomeDue u b.number none) from if_pos hst, show st = .due from hst,
    show b.note = none from (bookingOf_note s p c f).trans (if_pos hr)]
  rfl

end

/-- Settles O51: the record is in the book; where its start has come it is made DUE there (`made_dueOrAdmitted`). -/
theorem bookEntersTheBook : Obligations.BookEntersTheBook := by
  intro p w c f s h hn hm hk hd hf hcells hlate hhor hconf hlen b
  have hc := craneNamed_of_namesCrane hn
  have hpass : bookRefusal s c f = none := by
    rw [bookRefusal_of_bookable hf hcells, timeRefusal_passes (decide_eq_false (by omega)),
      timeRefusal_passes (decide_eq_false (by unfold Config.horizon; omega)), overlapRefusal_passes hconf,
      if_neg (show ¬Config.bookMax ≤ _ by unfold Config.bookMax; omega)]
    rfl
  have hrow : ∀ {u}, acceptBook s p c f = u → exec (.book p w f) s = .next u.transmit := fun hu => by
    rw [exec_book_attended h (whoSuits_of_namesCrane hn), doBook_accepts hm hk hc hd hpass, hu]
  refine ⟨⟨rfl, rfl, rfl, rfl, rfl, rfl, rfl, loadClass_getD _, flag_getD _, bookingOf_note s p c f,
    bookingOf_state_eq s p c f, numberGiven_free s.book hlen, fun hfree => ?_, fun h1 h2 j hheld hfree => ?_⟩,
    fun hwait => ?_, fun hnow hr hidle => ?_⟩
  · exact numberGiven_first hlen (j := 0) (fun i hi => absurd hi (by omega)) hfree
  · have hafter := iterate_numberAfter_eq h1 h2
    exact (numberGiven_first hlen (fun i hi => by rw [hafter]; exact hheld i hi) (by rw [hafter]; exact hfree)).trans
      (hafter j)
  · have hbooking := booking_bookWith s p c f hlen
    have htold := bookingTold_mono (s' := s) (told_notifyBooking _ _ _ :
        bookingTold (s.setBook (bookWith s.book b)) _ b none (.state b.state)) (fun _ => rfl)
        (Follows_answer _ p .book (.booked b.number b.state f.start f.duration b.note)).grows
    obtain ⟨hbook, hcells, hcranes, henvs, houts, hsources, hsite, hports, hplant⟩ := bookChange_keeps s (bookWith s.book b) b
      (.booking b.number b.crane none (.state b.state) none none) p .book
      (.booked b.number b.state f.start f.duration b.note) rfl
    refine ⟨_, hrow (acceptBook_waits hwait), responds_transmit (answer_slot _ _ _ _), ?_, fun n hn => ?_, htold, ?_,
      hcells, hcranes, henvs, houts, hsources, hsite, hports, hplant⟩
    · exact (booking_congr hbook _).trans ((hbooking _).trans (if_pos rfl))
    · exact (booking_congr hbook _).trans ((hbooking _).trans (if_neg hn))
    · exact (congrArg Book.next hbook :)
  · have hb : (s.setBook (bookWith s.book b)).booking b.number = some b := (booking_bookWith s p c f hlen _).trans (if_pos rfl)
    have hst : b.state = .booked := (bookingOf_state_eq s p c f).trans (if_pos hr)
    obtain ⟨hfol, hsite, hports⟩ := becomesDue_keeps (s0 := s) (s := s.setBook (bookWith s.book b)) (p := p) (k := .book)
      (r := .booked b.number .due f.start f.duration none) (former := none) hb hidle rfl ((Grows.refl s).ports rfl) rfl
    have hrow' := hrow (acceptBook_due (p := p) (c := c) hnow hr)
    have hslot : responds _ p .book .ok none (.booked b.number .due f.start f.duration none) :=
      responds_transmit (answer_slot (compose s (becomeDue (s.setBook (bookWith s.book b)) b.number none)) p .book _)
    generalize ((compose s (becomeDue (s.setBook (bookWith s.book b)) b.number none)).answer p .book
      (.booked b.number .due f.start f.duration none)).transmit = t at hfol hsite hports hrow' hslot
    obtain ⟨hothers, hnext, henvs, hplant, hcranes, hkept⟩ := made_keeps hb hfol
    obtain ⟨htold, hadmitted⟩ := made_told hb hfol
    have hmade := made_dueOrAdmitted hb (by rw [hst]; nofun) hfol
    have hdue : dueOrAdmitted s t b := fun hcr hcl => hmade (fun k => hcr ((dueForCrane_bookWith c).mp k)) fun x hx =>
      ⟨fun k => (hcl x hx).1 ((dueForCell_bookWith x).mp k), cellClaimsDue_bookWith hlen (hcl x hx).2⟩
    have hcranes' : keepsCranes (some c) s t := fun e he => by
      obtain ⟨h1, h2, h3, h4, h5, h6, h7, h8, h9, h10⟩ := hcranes e he
      exact ⟨h1, h2, h3, h4, h5, h6, h7, h8, h9, fun k => h10 fun k' => k ((dueForCrane_bookWith e).mp k')⟩
    have hkept' : keepsCells (· ∈ bookCells f) s t := fun x hx hnd =>
      hkept x hx fun k => hnd ((dueForCell_bookWith x).mp k)
    have hrest : ∀ n d, n ≠ b.number → s.booking n = some d → d.state ≠ .due → t.booking n = some d := fun n d hn hd hs =>
      hothers n d hn ((booking_bookWith s p c f hlen n).trans ((if_neg hn).trans hd)) hs
    have hnote : asDue b = { b with state := .due } := by
      rw [asDue, show b = { b with note := none } from congrArg (fun o => { b with note := o })
        ((bookingOf_note s p c f).trans (if_pos hr))]
    rcases made_booking hb hfol with hk | hk <;> rw [hnote] at hk
    · exact ⟨t, _, hrow', hslot, hk, rfl, .inl rfl, hdue, htold, hadmitted, hrest, hnext, henvs, hsite, hports, hplant,
        hcranes', hkept'⟩
    · exact ⟨t, _, hrow', hslot, hk, rfl, .inr rfl, hdue, htold, hadmitted, hrest, hnext, henvs, hsite, hports, hplant,
        hcranes', hkept'⟩

end Sys2Proof.Machine.Laws

/-! SUPPORT. The judgement of the book at a clock value (R145 to R147), a pending commit apart: what a step of it for one
booking leaves of another (`Judges`), and what the row of steps leaves of each (`takeAll_at`). -/

namespace Sys2Proof.Machine

/-- The booking with admissions at most. -/
def admittedAtMost (s t : State) (n : Nat) : Prop :=
  t.booking n = s.booking n
    ∨ ∃ b, s.booking n = some b ∧ b.state = .due ∧ t.booking n = some { b with state := .admitted }
        ∧ bookingTold s t b (some .due) (.state .admitted) none (some b.cells)

/-- The book, the crane table's lifts, the cells and the notices alone have changed, and every HELD cell keeps its
holder. -/
structure Evolves (s t : State) : Prop where
  rest : t.sansBook = s.sansBook
  grows : Grows s t
  next : t.book.next = s.book.next
  holders : keepsHolders s t

/-- A step of a judgement that is not for booking `n`: it is as before, or DUE and admitted with its notice, and claims
of it are not put anew. -/
structure Judges (n : Nat) (s t : State) : Prop extends Evolves s t where
  booking : admittedAtMost s t n
  claims : (∀ x, Laws.lacksClaim n (s.cell x)) → ∀ x, Laws.lacksClaim n (t.cell x)
  due : ∀ c, (s.crane c).due ≠ some n → (t.crane c).due ≠ some n

namespace Laws

/-! ### Steps one after another -/

section
variable {n : Nat} {s t u : State}

theorem keepsHolders_of_grant (h : ∀ x, (t.cell x).grant = (s.cell x).grant) : keepsHolders s t := fun x g hg =>
  ⟨g.kind, (h x).trans hg, .inl rfl⟩

theorem keepsHolders_trans (h : keepsHolders s t) (k : keepsHolders t u) : keepsHolders s u := fun x g hg => by
  obtain ⟨kind, hk, hkind⟩ := h x g hg
  obtain ⟨kind', hk', hkind'⟩ := k x ⟨g.holder, kind⟩ hk
  refine ⟨kind', hk', ?_⟩
  rcases hkind' with rfl | e
  · exact hkind
  · exact .inr e

theorem Evolves_refl (s : State) : Evolves s s := ⟨rfl, Grows.refl s, rfl, keepsHolders_of_grant fun _ => rfl⟩

theorem Evolves_trans (h : Evolves s t) (k : Evolves t u) : Evolves s u :=
  ⟨k.rest.trans h.rest, h.grows.trans k.grows, k.next.trans h.next, keepsHolders_trans h.holders k.holders⟩

theorem Evolves_idle (h : Evolves s t) (hs : s.map.commit = .idle) : t.map.commit = .idle := by
  rw [map_of_sansBook h.rest]
  exact hs

theorem admittedAtMost_trans (h : admittedAtMost s t n) (k : admittedAtMost t u n) (hst : Grows s t) (htu : Grows t u) :
    admittedAtMost s u n := by
  rcases h with h | ⟨b, hb, hd, hbt, htold⟩
  · rcases k with k | ⟨b, hb, hd, hbu, htold⟩
    · exact .inl (k.trans h)
    · exact .inr ⟨b, h ▸ hb, hd, hbu, bookingTold_mono htold (fun _ => (mask_grows hst _).symm) (Grows.refl u)⟩
  · rcases k with k | ⟨d, hd', hdue, -⟩
    · exact .inr ⟨b, hb, hd, k.trans hbt, bookingTold_mono htold (fun _ => rfl) htu⟩
    · rw [hbt] at hd'
      obtain rfl := Option.some.inj hd'
      cases hdue

theorem Judges_refl (n : Nat) (s : State) : Judges n s s := ⟨Evolves_refl s, .inl rfl, id, fun _ => id⟩

theorem Judges_trans (h : Judges n s t) (k : Judges n t u) : Judges n s u :=
  ⟨Evolves_trans h.toEvolves k.toEvolves, admittedAtMost_trans h.booking k.booking h.grows k.grows,
    fun hc => k.claims (h.claims hc), fun c hc => k.due c (h.due c hc)⟩

theorem Judges_claimsGone {c : Crane} (h : Judges n s t) (hc : claimsGone s n c) : claimsGone t n c :=
  ⟨h.due c hc.1, h.claims hc.2⟩

end

/-! ### The row of steps -/

section
variable {test : Booking → Bool} {f : State → Nat → State} {I : State → Prop} {Off : State → State → Prop} {n : Nat}

/-- What a row of steps leaves of one booking: each of the others' steps leaves `Off`; its own is taken if the test
holds of it at the start, and finds it as `Off` has left it. -/
theorem takeAll_at (hrefl : ∀ s, Off s s) (htrans : ∀ s t u, Off s t → Off t u → Off s u)
    (hI : ∀ s m, I s → (s.booking m).any test = true → I (f s m))
    (hoff : ∀ s m, I s → m ≠ n → (s.booking m).any test = true → Off s (f s m))
    (hkeep : ∀ s t, I s → Off s t → (s.booking n).any test = false → (t.booking n).any test = false)
    (hdone : ∀ s, I s → (s.booking n).any test = true → ((f s n).booking n).any test = false)
    {s : State} (hs : I s) :
    I (takeAll test f s)
      ∧ ((s.booking n).any test = false → Off s (takeAll test f s))
      ∧ ((s.booking n).any test = true →
          ∃ u, I u ∧ Off s u ∧ Off (takeIf test f u n) (takeAll test f s)) := by
  have hstep : ∀ s m, I s → I (takeIf test f s m) := fun s m h => by
    unfold takeIf
    split
    · exact hI s m h ‹_›
    · exact h
  have hother : ∀ s m, I s → (m ≠ n ∨ (s.booking n).any test = false) → Off s (takeIf test f s m) := fun s m h hm => by
    unfold takeIf
    split
    · rename_i ht
      refine hoff s m h (fun e => ?_) ht
      rcases hm with hm | hm
      · exact hm e
      · rw [e, hm] at ht; cases ht
    · exact hrefl s
  have hrow : ∀ (l : List Nat) s, I s → I (l.foldl (takeIf test f) s)
      ∧ ((n ∉ l ∨ (s.booking n).any test = false) → Off s (l.foldl (takeIf test f) s)) := by
    intro l
    induction l with
    | nil => exact fun s h => ⟨h, fun _ => hrefl s⟩
    | cons m l ih =>
      intro s h
      obtain ⟨h1, h2⟩ := ih _ (hstep s m h)
      refine ⟨h1, fun hm => ?_⟩
      have ho : Off s (takeIf test f s m) := hother s m h (hm.imp_left fun k e => k (e ▸ List.mem_cons_self))
      refine htrans _ _ _ ho (h2 (hm.imp (fun k e => k (List.mem_cons_of_mem m e)) fun k => hkeep s _ h ho k))
  refine ⟨(hrow _ s hs).1, fun hf => (hrow _ s hs).2 (.inr hf), fun ht => ?_⟩
  obtain ⟨b, hb, htb⟩ := (Option.any_eq_true _ _).mp ht
  obtain ⟨l1, l2, hl, hn⟩ := List.eq_append_cons_of_mem (mem_bookingsWhere hb htb)
  have hsplit : takeAll test f s
      = l2.foldl (takeIf test f) (takeIf test f (l1.foldl (takeIf test f) s) n) := by
    rw [takeAll, hl, List.foldl_append, List.foldl_cons]
  obtain ⟨hu, hoffu⟩ := hrow l1 s hs
  refine ⟨l1.foldl (takeIf test f) s, hu, hoffu (.inl hn), ?_⟩
  rw [hsplit]
  refine (hrow l2 _ (hstep _ n hu)).2 (.inr ?_)
  unfold takeIf
  split
  · exact hdone _ hu ‹_›
  · exact Bool.eq_false_iff.mpr ‹_›

end

/-! ### The service of an event -/

section
variable {n : Nat} {s0 s u : State}

theorem Judges_of_admits {v w : State} (h : Admits v w) (n : Nat) : Judges n v w where
  rest := h.rest
  grows := h.grows
  next := h.next
  holders := fun x g hg => by
    rcases h.cell x with e | ⟨b, hb, hx⟩
    · exact ⟨g.kind, (congrArg CellRec.grant e).trans hg, .inl rfl⟩
    · exact ⟨.booked, by rw [hb.cells x hx, Enters_holder hb hx hg]; rfl, .inr rfl⟩
  booking := by
    rcases h.booking n with e | ⟨b, hb, rfl⟩
    · exact .inl e
    · exact .inr ⟨b, hb.known, hb.due, hb.booked, hb.told⟩
  claims := fun hc x => by
    rcases h.cell x with e | ⟨b, hb, hx⟩
    · rw [e]; exact hc x
    · rw [hb.cells x hx]
      refine ⟨?_, fun e he => (hc x).2 e (List.mem_of_mem_filter he)⟩
      unfold admittedCell
      dsimp only
      split
      · nofun
      · exact (hc x).1
  due := fun c hc => by
    rcases h.crane c with e | ⟨b, hb, rfl⟩
    · rw [e]; exact hc
    · rw [hb.crane]; nofun

theorem Judges_serveCells (s0 u : State) (n : Nat) : Judges n u (serveCells s0 u) where
  rest := serveCells_sansBook s0 u
  grows := serveCells_grows s0 (Grows.refl u)
  next := by rw [serveCells_book]
  holders := fun x g hg => by
    obtain ⟨⟨r, hr⟩, -⟩ := serveCells_held (s0 := s0) hg
    exact ⟨g.kind, by rw [hr]; exact hg, .inl rfl⟩
  booking := .inl (serveCells_booking s0 u n)
  claims := fun hc x => by
    rcases serveCells_cases s0 u x with ⟨r, hr⟩ | ⟨e, rest, r, hl, -, -, hr⟩
    · rw [hr]; exact hc x
    · rw [hr]
      exact ⟨(hc x).1, fun e he => (hc x).2 e (by rw [hl]; exact List.mem_cons_of_mem _ he)⟩
  due := fun c hc => by rw [serveCells_crane]; exact hc

theorem Judges_served (s0 u : State) (n : Nat) : Judges n u (eventServed s0 u) :=
  Judges_trans (Judges_serveCells s0 u n) (Judges_of_admits (admits_served s0 u) n)

theorem Judges_settle (s0 : State) {u : State} (h : u.map.commit = .idle) (n : Nat) : Judges n u (settle s0 u) := by
  rw [settle_idle h]
  exact Judges_served s0 u n

end

/-! ### The steps of a judgement -/

section
variable {n m : Nat} {s : State} {b : Booking}

theorem lapseBooking_eq (h : s.booking m = some b) :
    lapseBooking s m = endBooking (withdrawClaims s b) b .lapsed none := by
  unfold lapseBooking
  rw [h]

theorem lapseBooking_booking (h : s.booking m = some b) (n : Nat) :
    (lapseBooking s m).booking n = if n = m then none else s.booking n := by
  obtain rfl := booking_number h
  rw [lapseBooking_eq h, booking_endBooking, booking_congr (withdrawClaims_book s b)]

theorem lapseBooking_cell (h : s.booking m = some b) (x : CellNo) :
    (lapseBooking s m).cell x = claimlessFor (· == m) (s.cell x) := by
  obtain rfl := booking_number h
  rw [lapseBooking_eq h, endBooking_cell, withdrawClaims_cell, claimlessFor_single]

theorem claimlessFor_lacks (m : Nat) (k : CellRec) : lacksClaim m (claimlessFor (· == m) k) := by
  rw [claimlessFor_single]
  exact lacksClaim_claimlessCell m k

theorem lacksClaim_claimlessFor {gone : Nat → Bool} {k : CellRec} (h : lacksClaim n k) : lacksClaim n (claimlessFor gone k) :=
  ⟨fun e => h.1 (Option.filter_eq_some_iff.mp e).1, fun e he => h.2 e (mem_withoutClaims.mp he).1⟩

theorem forgotten_due {o : Option Nat} (h : o ≠ some n) : (if o = some m then none else o) ≠ some n := by
  split
  · nofun
  · exact h

theorem lapseBooking_evolves (h : s.booking m = some b) : Evolves s (lapseBooking s m) where
  rest := by rw [lapseBooking_eq h, endBooking_sansBook, withdrawClaims_sansBook]
  grows := by
    rw [lapseBooking_eq h]
    exact endBooking_grows (withdrawClaims_grows (Grows.refl s) b) b _ _
  next := by rw [lapseBooking_eq h, endBooking_next, withdrawClaims_book]
  holders := keepsHolders_of_grant fun x => by rw [lapseBooking_cell h]; rfl

theorem lapseBooking_due (h : s.booking m = some b) (c : Crane) (hn : (s.crane c).due ≠ some n) :
    ((lapseBooking s m).crane c).due ≠ some n := by
  rw [lapseBooking_eq h, endBooking_crane, crane_of_sansCells (withdrawClaims_sansCells s b)]
  split
  · exact forgotten_due hn
  · exact hn

theorem lapseBooking_judges (h : s.booking m = some b) (hn : m ≠ n) : Judges n s (lapseBooking s m) where
  toEvolves := lapseBooking_evolves h
  booking := .inl ((lapseBooking_booking h n).trans (if_neg hn.symm))
  claims := fun hc x => by rw [lapseBooking_cell h]; exact lacksClaim_claimlessFor (hc x)
  due := lapseBooking_due h

/-- A booking that lapses is gone, with its claims and its notice (R138, R152). -/
theorem lapseBooking_gone (h : s.booking m = some b) : claimsGone (lapseBooking s m) m b.crane
    ∧ bookingTold s (lapseBooking s m) b (some b.state) (.outcome .lapsed) := by
  refine ⟨⟨?_, fun x => by rw [lapseBooking_cell h]; exact claimlessFor_lacks m _⟩, ?_⟩
  · obtain rfl := booking_number h
    rw [lapseBooking_eq h]
    exact ((endBooking_forgets _ b _ _ b.crane).1 rfl).2
  · rw [lapseBooking_eq h]
    exact bookingTold_mono (endBooking_told _ b _ _)
      (fun _ => (mask_grows (withdrawClaims_grows (Grows.refl s) b) _).symm) (Grows.refl _)

theorem forgetBooking_book (s : State) (b : Booking) : (forgetBooking s b).book = s.book := rfl

theorem forgetBooking_cell (s : State) (b : Booking) (x : CellNo) : (forgetBooking s b).cell x = s.cell x := rfl

theorem returnBooking_eq (h : s.booking m = some b) :
    returnBooking s m = moveBooking (forgetBooking (withdrawClaims s b) b) b .booked := by
  unfold returnBooking
  rw [h]

theorem returnBooking_booking (h : s.booking m = some b) (n : Nat) :
    (returnBooking s m).booking n = if n = m then some { b with state := .booked } else s.booking n := by
  obtain rfl := booking_number h
  have hsame : ∀ k, (forgetBooking (withdrawClaims s b) b).booking k = s.booking k := fun k =>
    booking_congr ((forgetBooking_book _ b).trans (withdrawClaims_book s b)) k
  rw [returnBooking_eq h, booking_moveBooking, hsame, hsame, h]
  rfl

theorem returnBooking_cell (h : s.booking m = some b) (x : CellNo) :
    (returnBooking s m).cell x = claimlessFor (· == m) (s.cell x) := by
  obtain rfl := booking_number h
  have hcells := (moveBooking_rest (forgetBooking (withdrawClaims s b) b) b .booked).1
  rw [returnBooking_eq h, cell_of_cells hcells, forgetBooking_cell, withdrawClaims_cell, claimlessFor_single]

theorem returnBooking_crane (h : s.booking m = some b) (c : Crane) : (returnBooking s m).crane c
    = if c = b.crane then
      { s.crane c with due := if (s.crane c).due = some b.number then none else (s.crane c).due,
                       lift := if (s.crane c).lift = some b.number then none else (s.crane c).lift }
      else s.crane c := by
  have hcranes := (moveBooking_rest (forgetBooking (withdrawClaims s b) b) b .booked).2.1
  rw [returnBooking_eq h, show (moveBooking (forgetBooking (withdrawClaims s b) b) b .booked).crane c
    = (forgetBooking (withdrawClaims s b) b).crane c by unfold State.crane; rw [hcranes], forgetBooking_crane,
    crane_of_sansCells (withdrawClaims_sansCells s b)]

theorem returnBooking_evolves (h : s.booking m = some b) : Evolves s (returnBooking s m) where
  rest := by
    rw [returnBooking_eq h, moveBooking_sansBook, forgetBooking_sansBook, withdrawClaims_sansBook]
  grows := by
    rw [returnBooking_eq h]
    exact moveBooking_grows (forgetBooking_grows (withdrawClaims_grows (Grows.refl s) b) b) b _
  next := by
    rw [returnBooking_eq h, (moveBooking_rest _ _ _).2.2, forgetBooking_book, withdrawClaims_book]
  holders := keepsHolders_of_grant fun x => by rw [returnBooking_cell h]; rfl

theorem returnBooking_judges (h : s.booking m = some b) (hn : m ≠ n) : Judges n s (returnBooking s m) where
  toEvolves := returnBooking_evolves h
  booking := .inl ((returnBooking_booking h n).trans (if_neg hn.symm))
  claims := fun hc x => by rw [returnBooking_cell h]; exact lacksClaim_claimlessFor (hc x)
  due := fun c hc => by
    rw [returnBooking_crane h]
    split
    · exact forgotten_due hc
    · exact hc

/-- A booking that returns to BOOKED leaves no claim and tells it (R146). -/
theorem returnBooking_gone (h : s.booking m = some b) : claimsGone (returnBooking s m) m b.crane
    ∧ bookingTold s (returnBooking s m) b (some b.state) (.state .booked) := by
  refine ⟨⟨?_, fun x => by rw [returnBooking_cell h]; exact claimlessFor_lacks m _⟩, ?_⟩
  · obtain rfl := booking_number h
    rw [returnBooking_crane h, if_pos rfl]
    dsimp only
    split
    · nofun
    · assumption
  · rw [returnBooking_eq h]
    exact bookingTold_mono (moveBooking_told _ b _)
      (fun _ => (mask_grows (forgetBooking_grows (withdrawClaims_grows (Grows.refl s) b) b) _).symm)
      (Grows.refl _)

theorem markOverrun_eq (h : s.booking m = some b) : markOverrun s m
    = (s.modBooking m fun k => { k with overrun := true }).notifyBoth b.crane .booking
      (.overrun m b.crane b.start b.duration) := by
  unfold markOverrun
  rw [h]

theorem markOverrun_booking (h : s.booking m = some b) (n : Nat) :
    (markOverrun s m).booking n = if n = m then some { b with overrun := true } else s.booking n := by
  have hmod := booking_modBooking s m n (fun k => { k with overrun := true }) fun _ => rfl
  rw [h] at hmod
  rw [markOverrun_eq h, notifyBoth_booking]
  exact hmod

theorem markOverrun_cell (h : s.booking m = some b) (x : CellNo) : (markOverrun s m).cell x = s.cell x := by
  rw [markOverrun_eq h, notifyBoth_cell]
  rfl

theorem markOverrun_crane (h : s.booking m = some b) (c : Crane) : (markOverrun s m).crane c = s.crane c := by
  rw [markOverrun_eq h, notifyBoth_crane]
  rfl

theorem markOverrun_evolves (h : s.booking m = some b) : Evolves s (markOverrun s m) where
  rest := by
    rw [markOverrun_eq h]
    exact (sansBook_of (sansCells_of (notifyBoth_sansNotices _ _ _ _))).trans (modBooking_sansBook _ _ _)
  grows := by
    rw [markOverrun_eq h]
    have hg : Grows s (s.modBooking m fun k => { k with overrun := true }) := fun q => PortRec.GrowsTo.refl _
    exact notifyBoth_grows hg _ _ _
  next := by
    rw [markOverrun_eq h, notifyBoth_book]
    rfl
  holders := keepsHolders_of_grant fun x => by rw [markOverrun_cell h]

theorem markOverrun_judges (h : s.booking m = some b) (hn : m ≠ n) : Judges n s (markOverrun s m) where
  toEvolves := markOverrun_evolves h
  booking := .inl ((markOverrun_booking h n).trans (if_neg hn.symm))
  claims := fun hc x => by rw [markOverrun_cell h]; exact hc x
  due := fun c hc => by rw [markOverrun_crane h]; exact hc

theorem markOverrun_told (h : s.booking m = some b) : overrunTold s (markOverrun s m) b := by
  obtain rfl := booking_number h
  rw [markOverrun_eq h]
  exact told_notifyBoth _ _ _ _

end

end Laws
end Sys2Proof.Machine

/-! SUPPORT. The stages of a judgement of the book (R145 to R147) and what each leaves of one booking, no commit
pending. -/

namespace Sys2Proof.Machine

/-- No commit is pending. -/
def isIdle (s : State) : Prop := s.map.commit = .idle

namespace Laws

/-! ### A booking that becomes DUE -/

section
variable {n m : Nat} {s : State} {b : Booking} {former : Option BookState}

theorem becomeDue_idle (h : s.booking m = some b) (hs : isIdle s) :
    becomeDue s m former = admissions s (dueAnnounced s b former) := by
  have hrest := (admits_made s b former).rest.trans (dueAnnounced_sansBook s b former)
  rw [becomeDue_eq h, drainRetest_idle ((congrArg MapUnit.commit (map_of_sansBook hrest)).trans hs)]

theorem duePlaced_cases (s : State) (b : Booking) (x : CellNo) :
    (duePlaced s b).cell x = s.cell x ∨ ClaimPlaced b (s.cell x) ((duePlaced s b).cell x) := by
  by_cases hx : x ∈ b.cells
  · exact .inr (duePlaced_placed s b hx)
  · exact .inl (duePlaced_other s b hx)

theorem duePlaced_grant (s : State) (b : Booking) (x : CellNo) : ((duePlaced s b).cell x).grant = (s.cell x).grant := by
  rcases duePlaced_cases s b x with h | h
  · rw [h]
  · exact h.grant

theorem ClaimPlaced_lacks {k0 k : CellRec} (h : ClaimPlaced b k0 k) (hn : b.number ≠ n) (hk : lacksClaim n k0) :
    lacksClaim n k := by
  cases hheld : k0.grant.any (·.holder == b.crane) with
  | true =>
    obtain ⟨hc, hl⟩ := h.held hheld
    exact ⟨by rw [hc]; simpa using hn, by rw [hl]; exact hk.2⟩
  | false =>
    obtain ⟨hc, -, hall, -⟩ := h.placed hheld
    refine ⟨by rw [hc]; exact hk.1, fun e he => ?_⟩
    rcases hall e he with rfl | he
    · simpa [isClaimOf] using hn
    · exact hk.2 e (List.mem_of_mem_filter he)

theorem dueAnnounced_evolves (s : State) (b : Booking) (former : Option BookState) :
    Evolves s (dueAnnounced s b former) where
  rest := dueAnnounced_sansBook s b former
  grows := dueAnnounced_grows s b former
  next := dueAnnounced_next s b former
  holders := fun x g hg => by
    obtain ⟨⟨r, hr⟩, -⟩ := serveCells_held (s0 := s) ((duePlaced_grant s b x).trans hg)
    exact ⟨g.kind, by rw [dueAnnounced_cell, hr]; exact (duePlaced_grant s b x).trans hg, .inl rfl⟩

theorem dueAnnounced_judges (h : s.booking b.number = some b) (hn : b.number ≠ n) :
    Judges n s (dueAnnounced s b former) where
  toEvolves := dueAnnounced_evolves s b former
  booking := .inl ((dueAnnounced_booking h n).trans (if_neg hn.symm))
  claims := fun hc => fun x => by
    rw [dueAnnounced_cell]
    refine (Judges_serveCells s (duePlaced s b) n).claims (fun y => ?_) x
    rcases duePlaced_cases s b y with e | hp
    · rw [e]; exact hc y
    · exact ClaimPlaced_lacks hp hn (hc y)
  due := fun c hc => by
    rw [dueAnnounced_crane]
    split
    · simpa using hn
    · exact hc

theorem becomeDue_evolves (h : s.booking m = some b) (hs : isIdle s) : Evolves s (becomeDue s m former) := by
  rw [becomeDue_idle h hs]
  exact Evolves_trans (dueAnnounced_evolves s b former) (Judges_of_admits (admits_made s b former) 0).toEvolves

theorem becomeDue_judges (h : s.booking m = some b) (hs : isIdle s) (hn : m ≠ n) : Judges n s (becomeDue s m former) := by
  rw [becomeDue_idle h hs]
  obtain rfl := booking_number h
  exact Judges_trans (dueAnnounced_judges h hn) (Judges_of_admits (admits_made s b former) n)

/-- A booking made DUE is DUE or has been admitted, and both are told (R130, R151). -/
theorem becomeDue_made (h : s.booking m = some b) (hs : isIdle s) :
    ((becomeDue s m former).booking m = some (asDue b)
        ∨ (becomeDue s m former).booking m = some { asDue b with state := .admitted })
      ∧ bookingTold s (becomeDue s m former) b former (.state .due) ∧ admissionTold s (becomeDue s m former) b := by
  rw [becomeDue_idle h hs]
  obtain rfl := booking_number h
  exact ⟨made_booking h (Follows_refl _), made_told h (Follows_refl _)⟩

end

/-! ### Each stage -/

section
variable {test : Booking → Bool} {f : State → Nat → State} {n : Nat} {s : State}

/-- A row of steps that leaves all but the book, lifts, cells and notices. -/
theorem takeAll_evolves (hev : ∀ s m b, isIdle s → s.booking m = some b → Evolves s (f s m)) (hs : isIdle s) :
    Evolves s (takeAll test f s) := by
  have hrow : ∀ (l : List Nat) s, isIdle s → Evolves s (l.foldl (takeIf test f) s) := by
    intro l
    induction l with
    | nil => exact fun s _ => Evolves_refl s
    | cons m l ih =>
      intro s hs
      have hstep : Evolves s (takeIf test f s m) := by
        unfold takeIf
        split
        · rename_i ht
          obtain ⟨b, hb, -⟩ := (Option.any_eq_true _ _).mp ht
          exact hev s m b hs hb
        · exact Evolves_refl s
      exact Evolves_trans hstep (ih _ (Evolves_idle hstep hs))
  exact hrow _ s hs

/-- What a stage leaves of one booking, where its steps judge the others. -/
theorem takeAll_judges (hev : ∀ s m b, isIdle s → s.booking m = some b → Evolves s (f s m))
    (hoff : ∀ s m b, isIdle s → s.booking m = some b → m ≠ n → Judges n s (f s m))
    (hadmitted : ∀ b : Booking, b.state = .admitted → test b = false)
    (hdone : ∀ s b, isIdle s → s.booking n = some b → test b = true → ((f s n).booking n).any test = false)
    (hs : isIdle s) :
    ((s.booking n).any test = false → Judges n s (takeAll test f s))
      ∧ ((s.booking n).any test = true →
          ∃ u, isIdle u ∧ Judges n s u ∧ Judges n (takeIf test f u n) (takeAll test f s)) := by
  have hnamed : ∀ {s : State} {m : Nat}, (s.booking m).any test = true → ∃ b, s.booking m = some b ∧ test b = true := fun ht =>
    (Option.any_eq_true _ _).mp ht
  refine (takeAll_at (I := isIdle) (Off := Judges n) (Judges_refl n) (fun _ _ _ => Judges_trans) (fun s m hi ht => ?_)
    (fun s m hi hm ht => ?_) (fun s t _ ho ht => ?_) (fun s hi ht => ?_) hs).2
  · obtain ⟨b, hb, -⟩ := hnamed ht
    exact Evolves_idle (hev s m b hi hb) hi
  · obtain ⟨b, hb, -⟩ := hnamed ht
    exact hoff s m b hi hb hm
  · rcases ho.booking with e | ⟨b, -, -, hbt, -⟩
    · rw [e]; exact ht
    · rw [hbt]; exact hadmitted _ rfl
  · obtain ⟨b, hb, htb⟩ := hnamed ht
    exact hdone s b hi hb htb

/-- What a stage leaves of one booking, where its steps leave the records of the others, whatever the commit state. -/
theorem takeAll_leaves (hoff : ∀ s m b, s.booking m = some b → m ≠ n → Judges n s (f s m) ∧ (f s m).booking n = s.booking n)
    (hdone : ∀ s b, s.booking n = some b → test b = true → ((f s n).booking n).any test = false) (s : State) :
    ((s.booking n).any test = false → Judges n s (takeAll test f s) ∧ (takeAll test f s).booking n = s.booking n)
      ∧ ((s.booking n).any test = true →
          ∃ u, Judges n s u ∧ u.booking n = s.booking n ∧ Judges n (f u n) (takeAll test f s)
            ∧ (takeAll test f s).booking n = (f u n).booking n) := by
  have hnamed : ∀ {s : State} {m : Nat}, (s.booking m).any test = true → ∃ b, s.booking m = some b ∧ test b = true :=
    fun ht => (Option.any_eq_true _ _).mp ht
  obtain ⟨-, hleft, htaken⟩ := takeAll_at (test := test) (f := f) (n := n) (I := fun _ => True)
    (Off := fun s t => Judges n s t ∧ t.booking n = s.booking n)
    (fun s => ⟨Judges_refl n s, rfl⟩) (fun _ _ _ h k => ⟨Judges_trans h.1 k.1, k.2.trans h.2⟩) (fun _ _ _ _ => trivial)
    (fun s m _ hm ht => by
      obtain ⟨b, hb, -⟩ := hnamed ht
      exact hoff s m b hb hm) (fun s t _ ho ht => by rw [ho.2]; exact ht) (fun s _ ht => by
      obtain ⟨b, hb, htb⟩ := hnamed ht
      exact hdone s b hb htb) (s := s) trivial
  refine ⟨hleft, fun ht => ?_⟩
  obtain ⟨u, -, hsu, hut⟩ := htaken ht
  rw [show takeIf test f u n = f u n from if_pos (by rw [hsu.2]; exact ht)] at hut
  exact ⟨u, hsu.1, hsu.2, hut⟩

/-- A booking of which no admission can come is left by the steps for others. -/
theorem Judges_same {t : State} {b : Booking} (h : Judges n s t) (hb : s.booking n = some b) (hd : b.state ≠ .due) :
    t.booking n = some b := by
  rcases h.booking with e | ⟨d, hd', hdue, -⟩
  · exact e.trans hb
  · rw [hb] at hd'
    exact absurd (Option.some.inj hd' ▸ hdue) hd

end

end Laws
end Sys2Proof.Machine

/-! SUPPORT. The stages of a judgement of the book, each for one booking: bookings made DUE, lapsed, returned, marked. -/

namespace Sys2Proof.Machine

/-- The record with its overrun marked where the judgement at `now` marks it (R154). -/
def markedNow (now : Nat) (b : Booking) : Booking := if overruns now b then { b with overrun := true } else b

/-- What the notices of a booking read of its record. -/
def Booking.address (b : Booking) : Nat × Crane × List CellNo × Port := (b.number, b.crane, b.cells, b.origin)

namespace Laws

section
variable {test : Booking → Bool} {n : Nat} {s t : State} {b : Booking}

/-! ### Bookings made DUE -/

/-- Every booking that satisfies the test becomes DUE. -/
theorem dueStage_evolves (hs : isIdle s) : Evolves s (takeAll test (fun t n => becomeDue t n (some .booked)) s) :=
  takeAll_evolves (fun _ _ _ hi hb => becomeDue_evolves hb hi) hs

theorem dueStage_at (ht : ∀ b : Booking, test b = true → b.state = .booked) (hs : isIdle s) :
    ((s.booking n).any test = false → Judges n s (takeAll test (fun t n => becomeDue t n (some .booked)) s))
      ∧ ((s.booking n).any test = true → ∃ u, isIdle u ∧ Judges n s u
          ∧ Judges n (takeIf test (fun t n => becomeDue t n (some .booked)) u n)
            (takeAll test (fun t n => becomeDue t n (some .booked)) s)) := by
  have hfalse : ∀ b : Booking, b.state ≠ .booked → test b = false := fun b hb =>
    Bool.eq_false_iff.mpr fun k => hb (ht b k)
  refine takeAll_judges (fun _ _ _ hi hb => becomeDue_evolves hb hi) (fun _ _ _ hi hb hn => becomeDue_judges hb hi hn)
    (fun b hb => hfalse b (by rw [hb]; nofun)) (fun u b hi hb htb => ?_) hs
  rcases (becomeDue_made (former := some .booked) hb hi).1 with e | e <;> rw [e]
  · exact hfalse _ nofun
  · exact hfalse _ nofun

theorem dueStage_left (ht : ∀ b : Booking, test b = true → b.state = .booked) (hs : isIdle s)
    (hb : (s.booking n).any test = false) : Judges n s (takeAll test (fun t n => becomeDue t n (some .booked)) s) :=
  (dueStage_at ht hs).1 hb

theorem bookingTold_address {v w : State} {d : Booking} {former : Option BookState} {o : BookNow} {q : Option Port}
    (h : d.address = b.address) (k : bookingTold v w d former o q (some d.cells)) :
    bookingTold v w b former o q (some b.cells) := by
  simp only [Booking.address, Prod.mk.injEq] at h
  obtain ⟨h1, h2, h3, h4⟩ := h
  unfold bookingTold at k ⊢
  rwa [h1, h2, h3, h4] at k

/-- A booking that is not ADMITTED has no admission to tell. -/
theorem admissionTold_of_ne (hb : s.booking n = some b) (hst : b.state ≠ .admitted) : admissionTold s s b := fun h => by
  obtain rfl := booking_number hb
  rw [bookStateOf, hb] at h
  exact absurd (Option.some.inj h) hst

/-- The admissions of steps for others are told too. -/
theorem admissionTold_judges {v w : State} (h : admissionTold s v b) (hg : Grows s v) (k : Judges n v w) (hnum : b.number = n)
    (hsame : ∀ d, v.booking n = some d → d.address = b.address) : admissionTold s w b := by
  intro hst
  rw [bookStateOf, hnum] at hst
  rcases k.booking with e | ⟨d, hd, -, -, htold⟩
  · rw [e] at hst
    exact bookingTold_mono (h (by rw [bookStateOf, hnum]; exact hst)) (fun _ => rfl) k.grows
  · exact bookingTold_address (hsame d hd) (bookingTold_mono htold (fun _ => (mask_grows hg _).symm) (Grows.refl w))

/-- A booking made DUE at its stage is DUE afterwards or has been admitted; both are told. -/
theorem dueStage_taken (ht : ∀ b : Booking, test b = true → b.state = .booked) (hs : isIdle s) (hb : s.booking n = some b)
    (hbt : test b = true) :
    let t := takeAll test (fun t n => becomeDue t n (some .booked)) s
    (t.booking n = some (asDue b) ∨ t.booking n = some { asDue b with state := .admitted })
      ∧ bookingTold s t b (some .booked) (.state .due) ∧ admissionTold s t b := by
  intro t
  obtain ⟨u, hu, hsu, hut⟩ := (dueStage_at ht hs).2 (by rw [hb]; exact hbt)
  have hub : u.booking n = some b := Judges_same hsu hb (by rw [ht b hbt]; nofun)
  rw [takeIf, if_pos (show (u.booking n).any test = true by rw [hub]; exact hbt)] at hut
  obtain ⟨hmade, hdue, hadm⟩ := becomeDue_made (former := some .booked) hub hu
  have hgrows : Grows s (becomeDue u n (some .booked)) := hsu.grows.trans (becomeDue_evolves hub hu).grows
  have hmask : ∀ y, (s.port (.s y)).mask = (u.port (.s y)).mask := fun y => (mask_grows hsu.grows _).symm
  have hnum := booking_number hub
  refine ⟨?_, bookingTold_mono hdue hmask hut.grows, ?_⟩
  · rcases hut.booking with e | ⟨d, hd, -, hdt, -⟩
    · exact hmade.imp e.trans e.trans
    · refine .inr (hdt.trans ?_)
      rcases hmade with e | e <;> rw [e] at hd <;> rw [← Option.some.inj hd]
  · refine admissionTold_judges (n := n) (v := becomeDue u n (some .booked)) (fun hst => ?_) hgrows hut hnum fun d hd => ?_
    · exact bookingTold_mono (hadm hst) hmask (Grows.refl _)
    · rcases hmade with e | e <;> rw [e] at hd <;> rw [← Option.some.inj hd] <;> rfl

/-! ### Bookings that lapse and return -/

theorem lapseStage_evolves (hs : isIdle s) : Evolves s (takeAll test lapseBooking s) :=
  takeAll_evolves (fun _ _ _ _ hb => lapseBooking_evolves hb) hs

theorem lapseStage_at (s : State) :
    ((s.booking n).any test = false → Judges n s (takeAll test lapseBooking s)
        ∧ (takeAll test lapseBooking s).booking n = s.booking n)
      ∧ ((s.booking n).any test = true → ∃ u, Judges n s u ∧ u.booking n = s.booking n
          ∧ Judges n (lapseBooking u n) (takeAll test lapseBooking s)
          ∧ (takeAll test lapseBooking s).booking n = (lapseBooking u n).booking n) :=
  takeAll_leaves
    (fun _ _ _ hb hm => ⟨lapseBooking_judges hb hm, (lapseBooking_booking hb n).trans (if_neg hm.symm)⟩)
    (fun _ _ hb _ => by rw [lapseBooking_booking hb, if_pos rfl]; rfl) s

/-- A booking that lapses at its stage is gone, with its claims and its notice. -/
theorem lapseStage_taken (hb : s.booking n = some b) (hbt : test b = true) :
    (takeAll test lapseBooking s).booking n = none ∧ claimsGone (takeAll test lapseBooking s) n b.crane
      ∧ bookingTold s (takeAll test lapseBooking s) b (some b.state) (.outcome .lapsed) := by
  obtain ⟨u, hsu, hub, hut, hend⟩ := (lapseStage_at s).2 (by rw [hb]; exact hbt)
  rw [hb] at hub
  obtain ⟨hgone, htold⟩ := lapseBooking_gone hub
  exact ⟨by rw [hend, lapseBooking_booking hub, if_pos rfl], Judges_claimsGone hut hgone,
    bookingTold_mono htold (fun _ => (mask_grows hsu.grows _).symm) hut.grows⟩

theorem returnStage_evolves (hs : isIdle s) : Evolves s (takeAll test returnBooking s) :=
  takeAll_evolves (fun _ _ _ _ hb => returnBooking_evolves hb) hs

theorem returnStage_at (ht : ∀ b : Booking, test b = true → b.state ≠ .booked) (s : State) :
    ((s.booking n).any test = false → Judges n s (takeAll test returnBooking s)
        ∧ (takeAll test returnBooking s).booking n = s.booking n)
      ∧ ((s.booking n).any test = true → ∃ u, Judges n s u ∧ u.booking n = s.booking n
          ∧ Judges n (returnBooking u n) (takeAll test returnBooking s)
          ∧ (takeAll test returnBooking s).booking n = (returnBooking u n).booking n) :=
  takeAll_leaves
    (fun _ _ _ hb hm => ⟨returnBooking_judges hb hm, (returnBooking_booking hb n).trans (if_neg hm.symm)⟩)
    (fun _ _ hb _ => by
      rw [returnBooking_booking hb, if_pos rfl]
      exact Bool.eq_false_iff.mpr fun k => ht _ k rfl) s

/-- A booking that returns at its stage is BOOKED, without claims, and tells it. -/
theorem returnStage_taken (ht : ∀ b : Booking, test b = true → b.state ≠ .booked)
    (hb : s.booking n = some b) (hbt : test b = true) :
    (takeAll test returnBooking s).booking n = some { b with state := .booked }
      ∧ claimsGone (takeAll test returnBooking s) n b.crane
      ∧ bookingTold s (takeAll test returnBooking s) b (some b.state) (.state .booked) := by
  obtain ⟨u, hsu, hub, hut, hend⟩ := (returnStage_at ht s).2 (by rw [hb]; exact hbt)
  rw [hb] at hub
  obtain ⟨hgone, htold⟩ := returnBooking_gone hub
  exact ⟨by rw [hend, returnBooking_booking hub, if_pos rfl], Judges_claimsGone hut hgone,
    bookingTold_mono htold (fun _ => (mask_grows hsu.grows _).symm) hut.grows⟩

/-! ### Overruns -/

theorem markOverrun_left (s : State) (m : Nat) :
    (∀ x, (markOverrun s m).cell x = s.cell x) ∧ ∀ c, (markOverrun s m).crane c = s.crane c := by
  cases h : s.booking m with
  | none =>
    have : markOverrun s m = s := by unfold markOverrun; rw [h]
    rw [this]
    exact ⟨fun _ => rfl, fun _ => rfl⟩
  | some b => exact ⟨markOverrun_cell h, markOverrun_crane h⟩

theorem markStage_cell (s : State) (x : CellNo) : (takeAll test markOverrun s).cell x = s.cell x :=
  takeAll_keeps (fun u : State => u.cell x) test _ (fun u m => (markOverrun_left u m).1 x) s

theorem markStage_crane (s : State) (c : Crane) : (takeAll test markOverrun s).crane c = s.crane c :=
  takeAll_keeps (fun u : State => u.crane c) test _ (fun u m => (markOverrun_left u m).2 c) s

theorem markStage_evolves (hs : isIdle s) : Evolves s (takeAll test markOverrun s) :=
  takeAll_evolves (fun _ _ _ _ hb => markOverrun_evolves hb) hs

theorem markStage_at (now : Nat) (s : State) :
    ((s.booking n).any (overruns now) = false → Judges n s (takeAll (overruns now) markOverrun s)
        ∧ (takeAll (overruns now) markOverrun s).booking n = s.booking n)
      ∧ ((s.booking n).any (overruns now) = true → ∃ u, Judges n s u ∧ u.booking n = s.booking n
          ∧ Judges n (markOverrun u n) (takeAll (overruns now) markOverrun s)
          ∧ (takeAll (overruns now) markOverrun s).booking n = (markOverrun u n).booking n) :=
  takeAll_leaves
    (fun _ _ _ hb hm => ⟨markOverrun_judges hb hm, (markOverrun_booking hb n).trans (if_neg hm.symm)⟩)
    (fun _ _ hb _ => by
      rw [markOverrun_booking hb, if_pos rfl]
      simp [overruns]) s

/-- Of each booking the stage marks an overrun, and tells it (R154). -/
theorem markStage_booking {now : Nat} (hb : s.booking n = some b) :
    (takeAll (overruns now) markOverrun s).booking n = some (markedNow now b)
      ∧ (overruns now b = true → overrunTold s (takeAll (overruns now) markOverrun s) b) := by
  have hat := markStage_at (n := n) now s
  rw [hb] at hat
  unfold markedNow
  cases ht : overruns now b with
  | false => exact ⟨(hat.1 ht).2, nofun⟩
  | true =>
    obtain ⟨u, hsu, hub, hut, hend⟩ := hat.2 ht
    refine ⟨by rw [hend, markOverrun_booking hub, if_pos rfl]; rfl, fun _ => ?_⟩
    have htold := markOverrun_told hub
    exact ⟨told_grows hut.grows htold.1, fun y hy =>
      told_grows hut.grows (htold.2 y (by rw [mask_grows hsu.grows]; exact hy))⟩

theorem markStage_none {now : Nat} (hb : s.booking n = none) :
    (takeAll (overruns now) markOverrun s).booking n = none := by
  have hat := markStage_at (n := n) now s
  exact (hat.1 (by rw [hb]; rfl)).2.trans hb

end

end Laws
end Sys2Proof.Machine

/-! SUPPORT. The book under a judgement whatever the commit state: an activation that a drain retest sets off takes
bookings out of the book and admits DUE ones, and does nothing else to it. -/

namespace Sys2Proof.Machine

/-- What an event may make of a booking that it does not name: it is gone, as it was, or DUE and admitted. -/
def passedOn (s t : State) (n : Nat) : Prop :=
  t.booking n = none ∨ t.booking n = s.booking n
    ∨ ∃ b, s.booking n = some b ∧ b.state = .due ∧ t.booking n = some { b with state := .admitted }

namespace Laws

section
variable {n : Nat} {s t u : State}

theorem passedOn_refl (s : State) (n : Nat) : passedOn s s n := .inr (.inl rfl)

theorem passedOn_of_eq (h : t.booking n = s.booking n) : passedOn s t n := .inr (.inl h)

theorem passedOn_trans (h : passedOn s t n) (k : passedOn t u n) : passedOn s u n := by
  rcases k with k | k | ⟨b, hb, hd, hu⟩
  · exact .inl k
  · unfold passedOn
    rw [k]
    exact h
  · rcases h with h | h | ⟨d, -, -, ht⟩
    · rw [h] at hb; cases hb
    · exact .inr (.inr ⟨b, h ▸ hb, hd, hu⟩)
    · rw [ht] at hb
      rw [← Option.some.inj hb] at hd
      cases hd

theorem passedOn_foldl {α : Type} {f : State → α → State} (h : ∀ s a, passedOn s (f s a) n) (l : List α) (s : State) :
    passedOn s (l.foldl f s) n := by
  induction l generalizing s with
  | nil => exact passedOn_refl s n
  | cons a l ih => exact passedOn_trans (h s a) (ih _)

theorem passedOn_served (s0 u : State) (n : Nat) : passedOn u (eventServed s0 u) n := by
  rcases served_booking_cases s0 u n with h | h
  · exact .inr (.inl h)
  · exact .inr (.inr h)

/-! ### The book through an activation -/

theorem disposeCell_book (a : Option MapBody) (m : MapBody) (s : State) (x : CellNo) : (disposeCell a m s x).book = s.book := by
  unfold disposeCell
  split <;> rfl

theorem dropCrane_book (a : Option MapBody) (s : State) (c : Crane) : (dropCrane a s c).book = s.book := by
  unfold dropCrane
  extract_lets fault v w o
  split
  · split
    · exact notifyBoth_book _ _ _ _
    · rfl
  · rfl

theorem reclamp_book (s : State) (c : Crane) : (reclamp s c).book = s.book := by
  unfold reclamp
  split <;> rfl

theorem setLink_book (s : State) (c : Crane) (l : LinkState) : (setLink s c l).book = s.book := notifyClass_book _ _ _

theorem compareLimits_book (s : State) (c : Crane) : (compareLimits s c).book = s.book := by
  unfold compareLimits
  extract_lets k
  split
  · rfl
  · split
    · exact (book_of_sansCells (withdrawRequests_sansCells _ _ _)).trans (setLink_book _ _ _)
    · split
      · exact setLink_book _ _ _
      · rfl

theorem adjustReport_book (m : MapBody) (l : List CellNo) (s : State) (c : Crane) : (adjustReport m l s c).book = s.book := by
  unfold adjustReport
  extract_lets k
  split <;> rfl

theorem formTouch_book (s : State) (c : Crane) : (formTouch s c).book = s.book := rfl

theorem handTouch_book (s0 s : State) (c : Crane) : (handTouch s0 s c).book = s.book :=
  book_of_sansCells (touchService_sansCells _ _ _ _)

theorem cancelForMap_passedOn (s : State) (m n : Nat) : passedOn s (cancelForMap s m) n := by
  unfold cancelForMap
  split
  · unfold passedOn
    rw [booking_endBooking, booking_congr (withdrawClaims_book s _)]
    split
    · exact .inl rfl
    · exact .inr (.inl rfl)
  · exact passedOn_refl s n

theorem activateMap_passedOn (s : State) (l : List CellNo) (n : Nat) : passedOn s (activateMap s l) n := by
  unfold activateMap
  extract_lets s0 old new a b m k c d e f g h
  have ha : a.book = s.book := foldl_keeps State.book _ (disposeCell_book old new) _ _
  have hb : passedOn s b n := passedOn_trans (passedOn_of_eq (booking_congr ha n))
    (passedOn_foldl (fun u k => cancelForMap_passedOn u k n) _ _)
  have hk : k.book = b.book := setMap_book b _
  have hc : c.book = b.book := (foldl_keeps State.book _ (dropCrane_book old) _ _).trans hk
  have hd : d.book = b.book := (foldl_keeps State.book _ reclamp_book _ _).trans hc
  have he : e.book = b.book := by
    show (if _ then _ else _ : State).book = _
    split
    · exact (foldl_keeps State.book _ compareLimits_book _ _).trans hd
    · exact hd
  have hf : f.book = b.book := (foldl_keeps State.book _ (adjustReport_book new l) _ _).trans he
  have hg : g.book = b.book := (foldl_keeps State.book _ formTouch_book _ _).trans hf
  have hh : h.book = b.book := (foldl_keeps State.book _ (handTouch_book s) _ _).trans hg
  exact passedOn_trans hb (passedOn_of_eq (booking_congr ((setMap_book h _).trans hh) n))

theorem announceMap_book (s : State) (a b : Nat) : (announceMap s a b).book = s.book := notifyClass_book _ _ _

theorem composeVaneNow_book (s : State) (c : Crane) : (composeVaneNow s c).book = s.book := by
  have h := composeVaneNow_sansOutputs s c
  exact (congrArg State.book h :)

theorem activate_passedOn (s : State) (l : List CellNo) (n : Nat) : passedOn s (activate s l) n := by
  unfold activate
  extract_lets k a b c
  have ha : passedOn s a n := activateMap_passedOn s l n
  have hb : passedOn a b n := passedOn_served s a n
  have hc : c.book = b.book := (parkingTest_book _).trans (announceMap_book _ _ _)
  have hd : (allCranes.foldl composeVaneNow c).book = c.book := foldl_keeps State.book _ composeVaneNow_book _ _
  exact passedOn_trans (passedOn_trans ha hb) (passedOn_of_eq (booking_congr (hd.trans hc) n))

theorem drainRetest_passedOn (s0 s : State) (n : Nat) : passedOn s (drainRetest s0 s) n := by
  unfold drainRetest
  split
  · exact activate_passedOn s _ n
  · exact passedOn_refl s n

theorem settle_passedOn (s0 u : State) (n : Nat) : passedOn u (settle s0 u) n :=
  passedOn_trans (passedOn_served s0 u n) (drainRetest_passedOn s0 _ n)

end

/-! ### The steps of a judgement -/

section
variable {n m : Nat} {s : State} {b : Booking} {former : Option BookState}

theorem dueAnnounced_passedOn (h : s.booking m = some b) :
    passedOn (dueAnnounced s b former) (becomeDue s m former) n := by
  rw [becomeDue_eq h]
  exact passedOn_trans (by
    rcases (admits_made s b former).booking n with e | ⟨d, hd, rfl⟩
    · exact .inr (.inl e)
    · exact .inr (.inr ⟨d, hd.known, hd.due, hd.booked⟩)) (drainRetest_passedOn s _ n)

theorem becomeDue_passedOn (h : s.booking m = some b) (hn : m ≠ n) : passedOn s (becomeDue s m former) n := by
  obtain rfl := booking_number h
  exact passedOn_trans (passedOn_of_eq ((dueAnnounced_booking h n).trans (if_neg hn.symm))) (dueAnnounced_passedOn h)

/-- A booking made DUE is gone, DUE or admitted. -/
theorem becomeDue_state (h : s.booking m = some b) {k : Booking} (hk : (becomeDue s m former).booking m = some k) :
    k = asDue b ∨ k = { asDue b with state := .admitted } := by
  obtain rfl := booking_number h
  have hmade := dueAnnounced_booking (former := former) h b.number
  rw [if_pos rfl] at hmade
  rcases dueAnnounced_passedOn (former := former) (n := b.number) h with e | e | ⟨d, hd, -, e⟩
  · rw [e] at hk; cases hk
  · rw [e, hmade] at hk
    exact .inl (Option.some.inj hk).symm
  · rw [hmade] at hd
    rw [e, ← Option.some.inj hd] at hk
    exact .inr (Option.some.inj hk).symm

end

/-! ### Each stage -/

section
variable {test : Booking → Bool} {f : State → Nat → State} {n : Nat} {s : State}

/-- What a stage leaves of one booking, whatever the commit state. -/
theorem takeAll_passedOn (hoff : ∀ s m b, s.booking m = some b → m ≠ n → passedOn s (f s m) n)
    (hadmitted : ∀ b : Booking, b.state = .admitted → test b = false)
    (hdone : ∀ s b, s.booking n = some b → test b = true → ((f s n).booking n).any test = false) :
    ((s.booking n).any test = false → passedOn s (takeAll test f s) n)
      ∧ ((s.booking n).any test = true →
          ∃ u, passedOn s u n ∧ passedOn (takeIf test f u n) (takeAll test f s) n) := by
  have hnamed : ∀ {s : State} {m : Nat}, (s.booking m).any test = true → ∃ b, s.booking m = some b ∧ test b = true :=
    fun ht => (Option.any_eq_true _ _).mp ht
  obtain ⟨-, hleft, htaken⟩ := takeAll_at (test := test) (f := f) (n := n) (I := fun _ => True) (Off := fun s t => passedOn s t n)
    (fun s => passedOn_refl s n) (fun _ _ _ => passedOn_trans) (fun _ _ _ _ => trivial) (fun s m _ hm ht => by
      obtain ⟨b, hb, -⟩ := hnamed ht
      exact hoff s m b hb hm) (fun s t _ ho ht => by
      rcases ho with e | e | ⟨b, -, -, e⟩
      · rw [e]; rfl
      · rw [e]; exact ht
      · rw [e]; exact hadmitted _ rfl) (fun s _ ht => by
      obtain ⟨b, hb, htb⟩ := hnamed ht
      exact hdone s b hb htb) (s := s) trivial
  refine ⟨hleft, fun ht => ?_⟩
  obtain ⟨u, -, hsu, hut⟩ := htaken ht
  exact ⟨u, hsu, hut⟩

end

end Laws
end Sys2Proof.Machine

/-! SUPPORT. CLOCK_SECOND (R147): the REFERRED bookings lapse after the cells have been served, and nothing is served for
them. Where the claim of one stands on a cell, its lapse can leave a DUE booking ready and unadmitted, though the claims
of another cell of that booking are those of DUE bookings. -/

namespace Sys2Proof.Machine

/-- Booking 2 of the state below: DUE, with cells 1 and 2. -/
def waitingBooking : Booking := ⟨2, 0, 90, 600, 500, .normal, false, [0, 1], .s .s1, .due, false, none⟩

/-- In CALM crane 1 is LIVE and IN_SERVICE, and its booking 2 waits on cell 1 behind a claim of booking 1, DUE, and on cell 2 behind
one of booking 3, REFERRED. The late limits of both come at the next second. -/
def lapsing : State :=
  (((((State.reset.setClock ⟨100, true, 1000⟩).setWind { State.reset.wind with state := .calm }).setBook
    ⟨[⟨1, 1, 90, 600, 11, .normal, false, [0], .s .s1, .due, false, none⟩, waitingBooking,
      ⟨3, 2, 91, 600, 10, .normal, false, [1], .s .s1, .referred, false, none⟩], 4⟩).modCrane 0 fun k =>
    { k with link := .live, duty := .inService, due := some 2 }).modCell 0 fun k =>
    { k with list := [.claim 1 1 90, .claim 2 0 90] }).modCell 1 fun k => { k with list := [.claim 3 2 91, .claim 2 0 90] }

/-- The state at the next second. -/
def lapsed : State := (secondPasses lapsing).transmit

namespace Laws

theorem lapsing_second : exec .clockSecond lapsing = .next lapsed := rfl

theorem lapsing_claims : cellClaimsDue lapsing 0 := by
  unfold cellClaimsDue dueNaming
  decide +kernel

/-- The head of cell 1 has lapsed. -/
theorem lapsing_headGone :
    (withoutClaims (dueWhere lapsing fun b => decide (b.start + b.late ≤ lapsing.clock.count + 1)) (lapsing.cell 0).list).head?
      ≠ (lapsing.cell 0).list.head? := by decide +kernel

theorem lapsed_waiting : lapsed.booking 2 = some waitingBooking := by decide +kernel

theorem lapsed_ready : canBeAdmitted lapsed waitingBooking := (admissible_iff _ _).mp (by decide +kernel)

/-- Refutes O57: in `lapsing` booking 1 lapses and cell 1 has a new head, and yet booking 2 is left DUE with every condition
of R149 met, since the lapse of booking 3 clears cell 2 after the cells are served. -/
theorem not_clockSecondJudgesTheBook : ¬Obligations.ClockSecondJudgesTheBook := by
  intro h
  obtain ⟨t, hrow, -, -, -, -, -, hidle, -⟩ := (h lapsing (by decide +kernel)).2 (by decide +kernel) (by decide +kernel)
  obtain rfl : lapsed = t := by
    rw [lapsing_second] at hrow
    exact Host.Outcome.next.inj hrow
  obtain ⟨-, -, -, -, hnodup⟩ := hidle (by decide +kernel)
  obtain ⟨-, -, -, -, -, hleft⟩ := hnodup (by decide +kernel)
  obtain ⟨hready, -⟩ := hleft (by decide +kernel) 0 lapsing_claims
  exact hready lapsing_headGone 2 waitingBooking lapsed_waiting rfl (by decide +kernel) lapsed_ready

end Laws
end Sys2Proof.Machine

/-! SUPPORT. The evaluations of SETCLOCK (R145, R146): lapses and returns with the service of their event, the claims
they leave, and the bookings counted. -/

namespace Sys2Proof.Machine

/-- The numbers of the live bookings. -/
def liveNumbers (s : State) : List Nat := s.book.live.map (·.number)

namespace Laws

/-! ### Claims that a row of withdrawals leaves -/

section
variable {test : Booking → Bool} {f : State → Nat → State} {s : State} {x : CellNo}

theorem withoutClaims_withoutClaims (g h : Nat → Bool) (l : List Entry) :
    withoutClaims h (withoutClaims g l) = withoutClaims (fun n => g n || h n) l := by
  unfold withoutClaims
  rw [List.filter_filter]
  refine List.filter_congr fun e _ => ?_
  cases e <;> simp [Bool.and_comm]

theorem claimlessFor_claimlessFor (g h : Nat → Bool) (k : CellRec) :
    claimlessFor h (claimlessFor g k) = claimlessFor (fun n => g n || h n) k := by
  unfold claimlessFor
  dsimp only
  rw [withoutClaims_withoutClaims]
  congr 1
  · cases k.covered with
    | none => rfl
    | some n => cases hg : g n <;> cases hh : h n <;> simp [Option.filter, hg, hh]
  · cases hl : k.list with
    | nil => rfl
    | cons e l =>
      cases he : isGoneClaim g e with
      | true =>
        have hor : isGoneClaim (fun n => g n || h n) e = true := by
          cases e <;> simp_all [isGoneClaim]
        simp [headGone, he, hor]
      | false =>
        have hkeep : withoutClaims g (e :: l) = e :: withoutClaims g l := by
          unfold withoutClaims
          rw [List.filter_cons_of_pos]
          cases e <;> simp_all [isGoneClaim]
        have hor : isGoneClaim (fun n => g n || h n) e = isGoneClaim h e := by
          cases e <;> simp_all [isGoneClaim]
        rw [hkeep]
        simp [headGone, he, hor]

/-- Withdrawals agree where they agree on the claims of the record. -/
theorem claimlessFor_congr {g h : Nat → Bool} {k : CellRec} (h1 : ∀ n ∈ k.covered, g n = h n)
    (h2 : ∀ e ∈ k.list, isGoneClaim g e = isGoneClaim h e) : claimlessFor g k = claimlessFor h k := by
  have hl : withoutClaims g k.list = withoutClaims h k.list := by
    refine List.filter_congr fun e he => ?_
    have := h2 e he
    cases e <;> simp_all [isGoneClaim]
  have hcov : (k.covered.filter fun n => !g n) = k.covered.filter fun n => !h n := by
    cases hk : k.covered with
    | none => rfl
    | some n => simp [Option.filter, h1 n hk]
  have hhead : headGone g k.list = headGone h k.list := by
    rw [Bool.eq_iff_iff, headGone_iff, headGone_iff, hl]
  unfold claimlessFor
  rw [hl, hcov, hhead]

/-- A row of steps that each withdraw the claims of their booking, which no longer satisfies the test after it. -/
theorem takeAll_claimless (hcell : ∀ s m b, s.booking m = some b → (f s m).cell x = claimlessFor (· == m) (s.cell x))
    (htest : ∀ s m b n, s.booking m = some b → test b = true → ((f s m).booking n).any test = (n != m && (s.booking n).any test))
    (s : State) : (takeAll test f s).cell x = claimlessFor (fun n => (s.booking n).any test) (s.cell x) := by
  have hrow : ∀ (l : List Nat) s, (l.foldl (takeIf test f) s).cell x
      = claimlessFor (fun n => decide (n ∈ l) && (s.booking n).any test) (s.cell x) := by
    intro l
    induction l with
    | nil =>
      intro s
      refine (claimlessFor_self (fun n _ => by simp) fun e _ => ?_).symm
      cases e <;> simp [isGoneClaim]
    | cons m l ih =>
      intro s
      rw [List.foldl_cons, ih]
      unfold takeIf
      split
      · rename_i ht
        obtain ⟨b, hb, htb⟩ := (Option.any_eq_true _ _).mp ht
        rw [hcell s m b hb, claimlessFor_claimlessFor]
        congr 1
        funext n
        rw [htest s m b n hb htb]
        by_cases hn : n = m
        · simp [hn, ht]
        · rw [beq_false_of_ne hn, bne_iff_ne.mpr hn, Bool.false_or, Bool.true_and]
          simp [hn]
      · rename_i ht
        congr 1
        funext n
        by_cases hn : n = m
        · simp [hn, Bool.eq_false_iff.mpr ht]
        · simp [hn]
  unfold takeAll
  rw [hrow]
  congr 1
  funext n
  cases ht : (s.booking n).any test with
  | false => simp
  | true =>
    obtain ⟨b, hb, htb⟩ := (Option.any_eq_true _ _).mp ht
    simp [mem_bookingsWhere hb htb]

theorem lapseStage_cell (s : State) (x : CellNo) :
    (takeAll test lapseBooking s).cell x = claimlessFor (fun n => (s.booking n).any test) (s.cell x) :=
  takeAll_claimless (fun _ _ _ hb => lapseBooking_cell hb x) (fun s m b n hb _ => by
    rw [lapseBooking_booking hb]
    by_cases hn : n = m <;> simp [hn]) s

theorem returnStage_cell (ht : ∀ b : Booking, test b = true → b.state ≠ .booked) (s : State) (x : CellNo) :
    (takeAll test returnBooking s).cell x = claimlessFor (fun n => (s.booking n).any test) (s.cell x) :=
  takeAll_claimless (fun _ _ _ hb => returnBooking_cell hb x) (fun s m b n hb htb => by
    rw [returnBooking_booking hb]
    have : test { b with state := .booked } = false := Bool.eq_false_iff.mpr fun k => ht _ k rfl
    by_cases hn : n = m <;> simp [hn, this]) s

/-- Where the claims of a cell are those of DUE bookings, those of the DUE bookings that satisfy the test go. -/
theorem claimless_dueWhere {p : Booking → Bool} (hp : ∀ b : Booking, b.state = .due → test b = p b)
    (hdue : cellClaimsDue s x) : claimlessFor (fun n => (s.booking n).any test) (s.cell x)
      = claimlessFor (dueWhere s p) (s.cell x) := by
  have hgone : ∀ d, dueNaming s x d → (s.booking d.number).any test = dueWhere s p d.number := fun d hd => by
    rw [dueWhere, hd.1]
    simp [hd.2.1, hp d hd.2.1]
  refine claimlessFor_congr (fun n hn => ?_) fun e he => ?_
  · obtain ⟨d, -, hd, rfl⟩ := hdue.1 n hn
    exact hgone d hd
  · rcases hdue.2 e he with k | ⟨d, -, hd, rfl⟩
    · cases e with
      | claim => cases k
      | entry => rfl
      | auto => rfl
    · exact hgone d hd

/-- What a withdrawal of the claims of bookings leaves of a cell whose claims are those of DUE bookings. -/
theorem withdrawn_claimsLeft {u t : State} {p : Booking → Bool} (hp : ∀ b : Booking, b.state = .due → test b = p b)
    (hcell : u.cell x = claimlessFor (fun n => (s.booking n).any test) (s.cell x)) (hrest : u.sansBook = s.sansBook)
    (hgr : Grows s u) (hleft : ∀ n b, s.booking n = some b → test b = false → u.booking n = some b)
    (hf : Follows (eventServed s u) t) : claimsLeft s t x (dueWhere s p) := by
  intro hdue
  refine claimsLeft_of (hcell.trans (claimless_dueWhere hp hdue)) hrest hgr (fun _ =>
    claimsKnown_withoutClaims hdue fun d hd hnot => hleft _ _ hd.1 ?_) hf hdue
  rw [dueWhere, hd.1] at hnot
  rw [hp d hd.2.1]
  simpa [hd.2.1] using hnot

end

/-! ### Lapses and returns with the service of their event -/

section
variable {test : Booking → Bool} {n : Nat} {s : State} {b : Booking}

theorem served_lapses (hs : isIdle s) :
    takeAllThenSettle test lapseBooking s = eventServed s (takeAll test lapseBooking s) :=
  settle_idle (Evolves_idle (lapseStage_evolves hs) hs)

theorem served_returns (hs : isIdle s) :
    takeAllThenSettle test returnBooking s = eventServed s (takeAll test returnBooking s) :=
  settle_idle (Evolves_idle (returnStage_evolves hs) hs)

theorem lapses_evolves (hs : isIdle s) : Evolves s (takeAllThenSettle test lapseBooking s) :=
  Evolves_trans (lapseStage_evolves hs) (Judges_settle s (Evolves_idle (lapseStage_evolves hs) hs) 0).toEvolves

theorem returns_evolves (hs : isIdle s) : Evolves s (takeAllThenSettle test returnBooking s) :=
  Evolves_trans (returnStage_evolves hs) (Judges_settle s (Evolves_idle (returnStage_evolves hs) hs) 0).toEvolves

/-- A booking that does not lapse is judged by the lapses of the others. -/
theorem lapses_left (hs : isIdle s) (hb : (s.booking n).any test = false) :
    Judges n s (takeAllThenSettle test lapseBooking s) :=
  Judges_trans ((lapseStage_at s).1 hb).1 (Judges_settle s (Evolves_idle (lapseStage_evolves hs) hs) n)

theorem returns_left (ht : ∀ b : Booking, test b = true → b.state ≠ .booked) (hs : isIdle s)
    (hb : (s.booking n).any test = false) : Judges n s (takeAllThenSettle test returnBooking s) :=
  Judges_trans ((returnStage_at ht s).1 hb).1 (Judges_settle s (Evolves_idle (returnStage_evolves hs) hs) n)

theorem Judges_gone {t : State} (h : Judges n s t) (hb : s.booking n = none) : t.booking n = none := by
  rcases h.booking with e | ⟨d, hd, -⟩
  · exact e.trans hb
  · rw [hb] at hd; cases hd

/-- What is told of a booking stays told. -/
theorem bookingTold_evolves {v w : State} {former : Option BookState} {o : BookNow} {q : Option Port}
    {l : Option (List CellNo)} (h : Evolves s v) (htold : bookingTold v w b former o q l) {t : State} (hg : Grows w t) :
    bookingTold s t b former o q l :=
  bookingTold_mono htold (fun _ => (mask_grows h.grows _).symm) hg

theorem lapses_taken (hs : isIdle s) (hb : s.booking n = some b) (hbt : test b = true) :
    (takeAllThenSettle test lapseBooking s).booking n = none
      ∧ claimsGone (takeAllThenSettle test lapseBooking s) n b.crane
      ∧ bookingTold s (takeAllThenSettle test lapseBooking s) b (some b.state) (.outcome .lapsed) := by
  obtain ⟨hgone, hclaims, htold⟩ := lapseStage_taken hb hbt
  have hj := Judges_settle s (Evolves_idle (lapseStage_evolves (test := test) hs) hs) n
  exact ⟨Judges_gone hj hgone, Judges_claimsGone hj hclaims, bookingTold_evolves (Evolves_refl s) htold hj.grows⟩

theorem returns_taken (ht : ∀ b : Booking, test b = true → b.state ≠ .booked) (hs : isIdle s)
    (hb : s.booking n = some b) (hbt : test b = true) :
    (takeAllThenSettle test returnBooking s).booking n = some { b with state := .booked }
      ∧ claimsGone (takeAllThenSettle test returnBooking s) n b.crane
      ∧ bookingTold s (takeAllThenSettle test returnBooking s) b (some b.state) (.state .booked) := by
  obtain ⟨hback, hclaims, htold⟩ := returnStage_taken ht hb hbt
  have hj := Judges_settle s (Evolves_idle (returnStage_evolves (test := test) hs) hs) n
  exact ⟨Judges_same hj hback nofun, Judges_claimsGone hj hclaims, bookingTold_evolves (Evolves_refl s) htold hj.grows⟩

end

/-! ### Numbers -/

section
variable {test : Booking → Bool} {n m : Nat} {s u v : State} {b : Booking}

theorem liveNumbers_of_book (h : u.book = s.book) : liveNumbers u = liveNumbers s :=
  congrArg (fun k : Book => k.live.map Booking.number) h

theorem liveNumbers_modBooking {f : Booking → Booking} (hf : ∀ b, (f b).number = b.number) :
    liveNumbers (s.modBooking n f) = liveNumbers s := by
  show (s.book.live.map fun b => if b.number = n then f b else b).map (·.number) = _
  rw [List.map_map]
  refine List.map_congr_left fun b _ => ?_
  show Booking.number (if b.number = n then f b else b) = b.number
  split
  · exact hf b
  · rfl

theorem liveNumbers_admissions (s0 u : State) : liveNumbers (admissions s0 u) = liveNumbers u := by
  refine foldl_keeps liveNumbers (testAdmission s0) (fun v n => ?_) _ u
  unfold testAdmission
  split
  · split
    · exact (liveNumbers_of_book (admitBooking_book v _)).trans (liveNumbers_modBooking fun _ => rfl)
    · rfl
  · rfl

theorem liveNumbers_served (s0 u : State) : liveNumbers (eventServed s0 u) = liveNumbers u :=
  (liveNumbers_admissions s0 _).trans (liveNumbers_of_book (serveCells_book s0 u))

theorem liveNumbers_lapseBooking (s : State) (m : Nat) : (liveNumbers (lapseBooking s m)).Sublist (liveNumbers s) := by
  cases h : s.booking m with
  | none =>
    have : lapseBooking s m = s := by unfold lapseBooking; rw [h]
    rw [this]
  | some b =>
    rw [lapseBooking_eq h]
    unfold liveNumbers
    rw [endBooking_live, withdrawClaims_book]
    exact List.filter_sublist.map _

theorem liveNumbers_lapses (hs : isIdle s) :
    (liveNumbers (takeAllThenSettle test lapseBooking s)).Sublist (liveNumbers s) := by
  rw [served_lapses hs, liveNumbers_served]
  have hrow : ∀ (l : List Nat) s, (liveNumbers (l.foldl (takeIf test lapseBooking) s)).Sublist (liveNumbers s) := by
    intro l
    induction l with
    | nil => exact fun s => List.Sublist.refl _
    | cons m l ih =>
      intro s
      refine (ih _).trans ?_
      unfold takeIf
      split
      · exact liveNumbers_lapseBooking s m
      · exact List.Sublist.refl _
  exact hrow _ s

theorem bookingsWhere_nodup (h : (liveNumbers s).Nodup) : (bookingsWhere s test).Nodup :=
  h.sublist (List.filter_sublist.map _)

theorem mem_bookingsWhere_iff (h : (liveNumbers s).Nodup) :
    n ∈ bookingsWhere s test ↔ ∃ b, s.booking n = some b ∧ test b = true := by
  refine ⟨fun hn => ?_, fun ⟨b, hb, ht⟩ => mem_bookingsWhere hb ht⟩
  obtain ⟨b, hb, rfl⟩ := List.mem_map.mp hn
  obtain ⟨hmem, ht⟩ := List.mem_filter.mp hb
  exact ⟨b, booking_of_mem h hmem, ht⟩

/-- As many bookings satisfy a test in two states whose books agree on those that do. -/
theorem bookingsWhere_length (hs : (liveNumbers s).Nodup) (hu : (liveNumbers u).Nodup)
    (h : ∀ n b, test b = true → (u.booking n = some b ↔ s.booking n = some b)) :
    (bookingsWhere u test).length = (bookingsWhere s test).length := by
  refine ((List.perm_ext_iff_of_nodup (bookingsWhere_nodup hu) (bookingsWhere_nodup hs)).mpr fun n => ?_).length_eq
  rw [mem_bookingsWhere_iff hu, mem_bookingsWhere_iff hs]
  exact exists_congr fun b => and_congr_left fun ht => h n b ht

theorem bookingsWhere_count (s : State) {p : Booking → Bool} (h : ∀ b, test b = p b) :
    (bookingsWhere s test).length = (s.book.live.filter p).length := by
  rw [bookingsWhere, List.length_map, List.filter_congr fun b _ => h b]

/-- Each booking that satisfies the test when the row of steps comes to it is counted; where numbers are unique, all
are. -/
theorem takeCounting_due (ht : ∀ b : Booking, test b = true → b.state = .booked) (hs : isIdle s)
    (hu : (liveNumbers s).Nodup) :
    (takeCounting test (fun t n => becomeDue t n (some .booked)) s).2 = (bookingsWhere s test).length := by
  have hrow : ∀ (l : List Nat) s k, isIdle s → l.Nodup → (∀ m ∈ l, ∃ b, s.booking m = some b ∧ test b = true) →
      (l.foldl (fun (a : State × Nat) m => if (a.1.booking m).any test then (becomeDue a.1 m (some .booked), a.2 + 1)
        else (a.1, a.2)) (s, k)).2 = k + l.length := by
    intro l
    induction l with
    | nil => exact fun _ _ _ _ _ => rfl
    | cons m l ih =>
      intro s k hs hnd hall
      obtain ⟨hm, hnd⟩ := List.nodup_cons.mp hnd
      obtain ⟨b, hb, hbt⟩ := hall m List.mem_cons_self
      have htaken : (s.booking m).any test = true := by rw [hb]; exact hbt
      rw [List.foldl_cons, if_pos htaken, ih _ _ (Evolves_idle (becomeDue_evolves hb hs) hs) hnd, List.length_cons]
      · omega
      · intro i hi
        obtain ⟨d, hd, hdt⟩ := hall i (List.mem_cons_of_mem m hi)
        refine ⟨d, Judges_same (becomeDue_judges hb hs fun e => hm (e ▸ hi)) hd ?_, hdt⟩
        rw [ht d hdt]; nofun
  unfold takeCounting
  exact (hrow _ s 0 hs (bookingsWhere_nodup hu) fun m hm => (mem_bookingsWhere_iff hu).mp hm).trans (Nat.zero_add _)

end

end Laws
end Sys2Proof.Machine

/-! SUPPORT. What later stages of a judgement leave of a cell from which claims have been withdrawn: bookings made DUE
that do not list it, and overruns. -/

namespace Sys2Proof.Machine

/-- The booking, DUE in `v`, whose claim stands covered or at the head of cell `x`, has been admitted in `w` (R151). -/
structure EntersAt (x : CellNo) (v w : State) (b : Booking) : Prop where
  known : v.booking b.number = some b
  due : b.state = .due
  listed : x ∈ b.cells
  free : (v.crane b.crane).lift = none
  holder : ∀ g, (v.cell x).grant = some g → g.holder = b.crane
  claim : (v.cell x).covered = some b.number ∨ ∃ d, claimAt (v.cell x).list = some (b.number, d)
  cell : w.cell x = Laws.admittedCell b.number b.crane (v.cell x)
  booked : bookStateOf w b.number = some .admitted
  lift : (w.crane b.crane).lift ≠ none

/-- Of what stands on cell `x` nothing has changed from `v` to `w`, unless one DUE booking has been admitted on it. -/
structure Advances (x : CellNo) (v w : State) : Prop where
  grows : Grows v w
  envs : w.envs = v.envs
  admitted : ∀ n, bookStateOf v n = some .admitted → bookStateOf w n = some .admitted
  lift : ∀ c, (v.crane c).lift ≠ none → (w.crane c).lift ≠ none
  due : ∀ n b, w.booking n = some b → b.state = .due → x ∈ b.cells → v.booking n = some b
  ready : noneLeftReady v x → noneLeftReady w x
  cell : (w.cell x = v.cell x
      ∧ ∀ n b, v.booking n = some b → b.state = .due → x ∈ b.cells → w.booking n = some b)
    ∨ ∃ b, EntersAt x v w b

namespace Laws

section
variable {x : CellNo} {s u v w z : State}

theorem Advances_refl (x : CellNo) (v : State) : Advances x v v :=
  ⟨Grows.refl v, rfl, fun _ h => h, fun _ h => h, fun _ _ h _ _ => h, id, .inl ⟨rfl, fun _ _ h _ _ => h⟩⟩

theorem Advances_trans (h : Advances x v w) (k : Advances x w z) : Advances x v z where
  grows := h.grows.trans k.grows
  envs := k.envs.trans h.envs
  admitted n hn := k.admitted n (h.admitted n hn)
  lift c hc := k.lift c (h.lift c hc)
  due n b hb hd hx := h.due n b (k.due n b hb hd hx) hd hx
  ready hn := k.ready (h.ready hn)
  cell := by
    rcases h.cell with ⟨hc, hdue⟩ | ⟨b, hb⟩
    · rcases k.cell with ⟨kc, kdue⟩ | ⟨d, hd⟩
      · exact .inl ⟨kc.trans hc, fun n b hb hd hx => kdue n b (hdue n b hb hd hx) hd hx⟩
      · exact .inr ⟨d, {
          known := h.due _ d hd.known hd.due hd.listed
          due := hd.due
          listed := hd.listed
          free := not_not.mp fun hne => h.lift d.crane hne hd.free
          holder := by rw [← hc]; exact hd.holder
          claim := by rw [← hc]; exact hd.claim
          cell := by rw [← hc]; exact hd.cell
          booked := hd.booked
          lift := hd.lift }⟩
    · rcases k.cell with ⟨kc, -⟩ | ⟨d, hd⟩
      · exact .inr ⟨b, { hb with cell := kc.trans hb.cell, booked := k.admitted _ hb.booked, lift := k.lift _ hb.lift }⟩
      · have hcrane := hd.holder ⟨b.crane, .booked⟩ (by rw [hb.cell]; rfl)
        exact absurd (show (w.crane b.crane).lift = none by rw [show b.crane = d.crane from hcrane]; exact hd.free) hb.lift

/-! ### A booking that becomes DUE -/

variable {n m : Nat} {b d : Booking} {former : Option BookState}

theorem dueAnnounced_covered (hn : n ≠ b.number) (h : ((dueAnnounced s b former).cell x).covered = some n) :
    (s.cell x).covered = some n := by
  have hserved : ((dueAnnounced s b former).cell x).covered = ((duePlaced s b).cell x).covered := by
    rw [dueAnnounced_cell]
    rcases serveCells_cases s (duePlaced s b) x with ⟨r, hr⟩ | ⟨e, rest, r, -, -, -, hr⟩ <;> rw [hr]
  rw [hserved] at h
  rcases duePlaced_cases s b x with e | hp
  · rwa [e] at h
  · cases hheld : (s.cell x).grant.any (·.holder == b.crane) with
    | true =>
      rw [(hp.held hheld).1] at h
      exact absurd (Option.some.inj h).symm hn
    | false => rwa [(hp.placed hheld).1] at h

theorem dueAnnounced_lift (s : State) (b : Booking) (former : Option BookState) (c : Crane) :
    ((dueAnnounced s b former).crane c).lift = (s.crane c).lift := by
  rw [dueAnnounced_crane]
  split
  · rename_i e; rw [e]
  · rfl

/-- A cell that gives no occasion of admission for another booking has given that booking none of its conditions. -/
theorem dueAnnounced_cellReady (hn : d.number ≠ b.number)
    (ho : cellOccasion s (dueAnnounced s b former) x = false)
    (h : (dueAnnounced s b former).isDraining x = false
      ∧ ((dueAnnounced s b former).holds d.crane x = true
        ∨ (((dueAnnounced s b former).cell x).grant = none ∧ (dueAnnounced s b former).othersTouch d.crane x = false))
      ∧ (((dueAnnounced s b former).cell x).covered = some d.number
        ∨ headClaim d.number ((dueAnnounced s b former).cell x).list = true)) :
    s.isDraining x = false
      ∧ (s.holds d.crane x = true ∨ ((s.cell x).grant = none ∧ s.othersTouch d.crane x = false))
      ∧ ((s.cell x).covered = some d.number ∨ headClaim d.number (s.cell x).list = true) := by
  have hrest := dueAnnounced_sansBook s b former
  have hev := dueAnnounced_evolves s b former
  obtain ⟨hdrain, hfree, hclaim⟩ := h
  rw [isDraining_of_map (map_of_sansBook hrest)] at hdrain
  rw [othersTouch_of_envs (envs_of_sansBook hrest)] at hfree
  simp only [cellOccasion, Bool.or_eq_false_iff] at ho
  obtain ⟨⟨⟨⟨-, hhead⟩, hkind⟩, -⟩, -⟩ := ho
  have hhead : ((dueAnnounced s b former).cell x).list.head? = (s.cell x).list.head? :=
    not_not.mp fun h => by rw [headChanged_iff.mpr h] at hhead; cases hhead
  refine ⟨hdrain, ?_, hclaim.imp (dueAnnounced_covered hn) fun hc => ?_⟩
  · cases hg : (s.cell x).grant with
    | none =>
      rw [hg] at hkind
      rcases hfree with hh | ⟨-, ht⟩
      · obtain ⟨g, hg', -⟩ := (Option.any_eq_true _ _).mp hh
        rw [hg'] at hkind
        cases hkind
      · exact .inr ⟨rfl, ht⟩
    | some g =>
      obtain ⟨kind, hg', -⟩ := hev.holders x g hg
      rcases hfree with hh | ⟨hnone, -⟩
      · exact .inl (by simpa [State.holds, hg, hg'] using hh)
      · rw [hg'] at hnone; cases hnone
  · unfold headClaim at hc ⊢
    rwa [hhead] at hc

theorem linkDuty_of_sansLift {j k : CraneRec} (h : k.sansLift = j.sansLift) : k.link = j.link ∧ k.duty = j.duty :=
  ⟨(congrArg CraneRec.link h :), (congrArg CraneRec.duty h :)⟩

/-- No booking is left ready at a cell where none was. -/
theorem becomeDue_ready (hb : s.booking b.number = some b) (hx : x ∉ b.cells)
    (h : noneLeftReady s x) : noneLeftReady (admissions s (dueAnnounced s b former)) x := by
  intro n d hd hdue hxd hready
  have hadm := admits_made s b former
  obtain rfl := booking_number hd
  have hknown := booking_unentered hadm hd hdue
  obtain ⟨hne, hsd⟩ := (dueAnnounced_due hb hknown).resolve_left fun e => hx (by rw [e] at hxd; exact hxd)
  have hocc : admissionDue s (dueAnnounced s b former) d = false :=
    Bool.eq_false_iff.mpr fun ho => admissions_exhaust hd hdue ho hready
  obtain ⟨⟨hlink, hduty, hlift, hwind⟩, hcells⟩ := (canBeAdmitted_congr hadm.rest (crane_unentered hadm hready)
    fun y hy => cell_unentered hadm hready hy).mp hready
  simp only [admissionDue, Bool.or_eq_false_iff] at hocc
  have hcrane := crane_sansLift_of_sansBook (dueAnnounced_sansBook s b former) d.crane
  refine h _ d hsd hdue hxd ⟨⟨?_, ?_, ?_, ?_⟩, fun y hy => dueAnnounced_cellReady hne ?_ (hcells y hy)⟩
  · exact (linkDuty_of_sansLift hcrane).1 ▸ hlink
  · exact (linkDuty_of_sansLift hcrane).2 ▸ hduty
  · rwa [dueAnnounced_lift] at hlift
  · rwa [wind_of_sansBook (dueAnnounced_sansBook s b former)] at hwind
  · obtain ⟨⟨⟨⟨⟨-, hany⟩, -⟩, -⟩, -⟩, -⟩ := hocc
    exact Bool.eq_false_iff.mpr fun ho => by
      rw [List.any_eq_true.mpr ⟨y, hy, ho⟩] at hany
      cases hany

theorem Advances_becomeDue (hs : isIdle s) (hb : s.booking m = some b) (hst : b.state = .booked) (hx : x ∉ b.cells) :
    Advances x s (becomeDue s m former) := by
  have hev := becomeDue_evolves (former := former) hb hs
  have hj : ∀ n, m ≠ n → Judges n s (becomeDue s m former) := fun n => becomeDue_judges hb hs
  rw [becomeDue_idle hb hs] at hev hj ⊢
  obtain rfl := booking_number hb
  have hadm := admits_made s b former
  have hundue : b.state ≠ .due := by rw [hst]; nofun
  refine ⟨hev.grows, envs_of_sansBook hev.rest, fun n hn => ?_, fun c hc => ?_, fun n d hd hdue hxd => ?_, becomeDue_ready hb hx, ?_⟩
  · obtain ⟨d, hd, hds⟩ := Option.map_eq_some_iff.mp hn
    have hne : b.number ≠ n := fun e => by
      rw [← e, hb] at hd
      rw [← Option.some.inj hd, hst] at hds
      cases hds
    rw [bookStateOf, Judges_same (hj n hne) hd (by rw [hds]; nofun)]
    exact congrArg some hds
  · rcases hadm.crane c with e | ⟨d, hd, rfl⟩
    · rw [e, dueAnnounced_lift]; exact hc
    · rw [hd.crane]; nofun
  · obtain rfl := booking_number hd
    exact ((dueAnnounced_due hb (booking_unentered hadm hd hdue)).resolve_left fun e => hx (by
      rw [e] at hxd; exact hxd)).2
  · have hsame := dueAnnounced_other (s := s) (former := former) hx
    by_cases hent : ∃ d, Enters (dueAnnounced s b former) (admissions s (dueAnnounced s b former)) d ∧ x ∈ d.cells
    · obtain ⟨d, hd, hxd⟩ := hent
      refine .inr ⟨d, ?_⟩
      exact {
        known := ((dueAnnounced_due hb hd.known).resolve_left fun e => hx (by rw [e] at hxd; exact hxd)).2
        due := hd.due
        listed := hxd
        free := by rw [← dueAnnounced_lift s b former]; exact hd.ready.1.2.2.1
        holder := fun g hg => Enters_holder hd hxd (by rw [hsame]; exact hg)
        claim := Enters_claims hd hxd hsame
        cell := by rw [hd.cells x hxd, hsame]
        booked := by rw [bookStateOf, hd.booked]; rfl
        lift := by rw [hd.crane]; nofun }
    · refine .inl ⟨?_, fun n d hd hdue hxd => ?_⟩
      · rcases hadm.cell x with e | ⟨d, hd, hxd⟩
        · exact e.trans hsame
        · exact absurd ⟨d, hd, hxd⟩ hent
      · have hne : n ≠ b.number := fun e => by
          rw [e, hb] at hd
          exact hundue (Option.some.inj hd ▸ hdue)
        have hknown : (dueAnnounced s b former).booking n = some d := by
          rw [dueAnnounced_booking hb, if_neg hne, hd]
        rcases hadm.booking n with e | ⟨a, ha, rfl⟩
        · exact e.trans hknown
        · obtain rfl := Option.some.inj (hknown.symm.trans ha.known)
          exact absurd ⟨_, ha, hxd⟩ hent

/-- The bookings made DUE at a stage leave a cell that none of them lists, but for an admission on it. -/
theorem Advances_dueStage {test : Booking → Bool} (ht : ∀ b : Booking, test b = true → b.state = .booked) (hs : isIdle s)
    (hx : ∀ n b, s.booking n = some b → test b = true → x ∉ b.cells) :
    Advances x s (takeAll test (fun t n => becomeDue t n (some .booked)) s) := by
  have hrow : ∀ (l : List Nat) s, isIdle s → (∀ n b, s.booking n = some b → test b = true → x ∉ b.cells) →
      Advances x s (l.foldl (takeIf test fun t n => becomeDue t n (some .booked)) s) := by
    intro l
    induction l with
    | nil => exact fun s _ _ => Advances_refl x s
    | cons m l ih =>
      intro s hs hx
      rw [List.foldl_cons]
      unfold takeIf
      split
      · rename_i htaken
        obtain ⟨b, hb, hbt⟩ := (Option.any_eq_true _ _).mp htaken
        refine Advances_trans (Advances_becomeDue hs hb (ht b hbt) (hx m b hb hbt))
          (ih _ (Evolves_idle (becomeDue_evolves hb hs) hs) fun n d hd hdt => ?_)
        by_cases hn : m = n
        · subst hn
          rcases becomeDue_state hb hd with rfl | rfl
          · cases ht _ hdt
          · cases ht _ hdt
        · rcases (becomeDue_judges (former := some .booked) hb hs hn).booking with e | ⟨a, -, -, e, -⟩
          · exact hx n d (e ▸ hd) hdt
          · rw [e] at hd
            rw [← Option.some.inj hd] at hdt
            cases ht _ hdt
      · exact ih s hs hx
  exact hrow _ s hs hx

/-! ### Overruns -/

theorem markedNow_state (now : Nat) (b : Booking) : (markedNow now b).state = b.state := by
  unfold markedNow; split <;> rfl

theorem markedNow_self {now : Nat} {b : Booking} (h : overruns now b = false) : markedNow now b = b :=
  if_neg (by rw [h]; nofun)

theorem overruns_of_ne {now : Nat} {b : Booking} (h1 : b.state ≠ .admitted) (h2 : b.state ≠ .landing) :
    overruns now b = false := by
  simp [overruns, h1, h2]

theorem markStage_state (now : Nat) (s : State) (n : Nat) :
    bookStateOf (takeAll (overruns now) markOverrun s) n = bookStateOf s n := by
  unfold bookStateOf
  cases hb : s.booking n with
  | none => rw [markStage_none hb]
  | some b =>
    rw [(markStage_booking hb).1]
    exact congrArg some (markedNow_state now b)

/-- A booking that the stage cannot mark is found there exactly where it was. -/
theorem markStage_unmarked {now : Nat} {b : Booking} (h1 : b.state ≠ .admitted) (h2 : b.state ≠ .landing) :
    (takeAll (overruns now) markOverrun s).booking n = some b ↔ s.booking n = some b := by
  cases hb : s.booking n with
  | none => rw [markStage_none hb]
  | some d =>
    rw [(markStage_booking hb).1, Option.some.injEq, Option.some.injEq]
    refine ⟨fun e => ?_, fun e => ?_⟩
    · have hstate : d.state = b.state := by rw [← e, markedNow_state]
      rwa [markedNow_self (overruns_of_ne (by rw [hstate]; exact h1) (by rw [hstate]; exact h2))] at e
    · rw [e]
      exact markedNow_self (overruns_of_ne h1 h2)

theorem Advances_markStage {now : Nat} (hs : isIdle s) : Advances x s (takeAll (overruns now) markOverrun s) := by
  have hev := markStage_evolves (test := overruns now) hs
  refine ⟨hev.grows, envs_of_sansBook hev.rest, fun n hn => by rw [markStage_state]; exact hn, fun c hc => by rw [markStage_crane]; exact hc,
    fun n d hd hdue _ => (markStage_unmarked (by rw [hdue]; nofun) (by rw [hdue]; nofun)).mp hd,
    fun h n d hd hdue hxd hready => ?_,
    .inl ⟨markStage_cell s x, fun n d hd hdue _ => (markStage_unmarked (by rw [hdue]; nofun) (by rw [hdue]; nofun)).mpr hd⟩⟩
  exact h n d ((markStage_unmarked (by rw [hdue]; nofun) (by rw [hdue]; nofun)).mp hd) hdue hxd
    ((canBeAdmitted_congr hev.rest (markStage_crane s _) fun y _ => markStage_cell s y).mp hready)

/-! ### A cell from which claims have been withdrawn -/

theorem Advances_of_follows (h : Follows v w) : Advances x v w := by
  refine ⟨h.grows, h.envs, fun n hn => ?_, fun c hc => ?_, fun n b hb _ _ => ?_, fun hn n b hb hd hx hc => ?_,
    .inl ⟨Follows_cell h x, fun n b hb _ _ => ?_⟩⟩
  · rw [bookStateOf, Follows_booking h]; exact hn
  · rw [Follows_lift h]; exact hc
  · rw [← Follows_booking h]; exact hb
  · rw [Follows_booking h] at hb
    exact hn n b hb hd hx ((Follows_canBeAdmitted h b).mp hc)
  · rw [Follows_booking h]; exact hb

variable {c : Crane} {l : List Entry} {o : Option Nat}

theorem enteredBooked_advances (h : enteredBooked v x n c l o) (hl : (v.crane c).lift ≠ none) (k : Advances x v w) :
    enteredBooked w x n c l o := by
  refine ⟨k.admitted n h.1, ?_⟩
  rcases k.cell with ⟨hc, -⟩ | ⟨b, hb⟩
  · exact hc.trans h.2
  · have hcrane : c = b.crane := hb.holder ⟨c, .booked⟩ (by rw [h.2])
    rw [hcrane] at hl
    exact absurd hb.free hl

theorem EntersAt_booked (h : EntersAt x v w b) : enteredBooked w x b.number b.crane (v.cell x).list (v.cell x).covered := by
  refine ⟨h.booked, ?_⟩
  rw [h.cell]
  unfold admittedCell
  cases (v.cell x).covered with
  | none => rfl
  | some n => by_cases e : n = b.number <;> simp [Option.filter, e]

/-- A booking admitted where no claim is covered is that of the claim at the head. -/
theorem EntersAt_head (hk : claimsKnown s x l) (hdue : ∀ n b, v.booking n = some b → b.state = .due → s.booking n = some b)
    (hl : (v.cell x).list = l) (hcov : (v.cell x).covered = none) (h : EntersAt x v w b) :
    claimAt l = some (b.number, b.crane) ∧ enteredBooked w x b.number b.crane l none := by
  have hent := EntersAt_booked h
  rw [hl, hcov] at hent
  rcases h.claim with e | ⟨d, hd⟩
  · rw [hcov] at e; cases e
  · rw [hl] at hd
    obtain ⟨a, ha, hn, rfl⟩ := claimAt_known hk hd
    have hab : a = b := Option.some.inj (ha.1.symm.trans (hn ▸ hdue _ b h.known h.due))
    exact ⟨by rw [hd, hab], hent⟩

section
variable (hcov : (v.cell x).covered = none)
  (hlift : ∀ c, (v.cell x).grant = some ⟨c, .booked⟩ → (v.crane c).lift ≠ none)
  (hdue : ∀ n b, v.booking n = some b → b.state = .due → s.booking n = some b)
include hcov hlift hdue

theorem headServed_advances {kind : GrantKind} {e : Entry} {rest : List Entry} (he : isRequest e = true)
    (hk : claimsKnown s x rest) (h : headServed s v x c kind e rest) (k : Advances x v w) :
    headServed s w x c kind e rest := by
  unfold headServed at h ⊢
  rw [othersTouch_of_envs k.envs]
  split
  · rename_i hclear
    rw [if_pos hclear] at h
    obtain ⟨htold, h⟩ := h
    refine ⟨told_grows k.grows htold, ?_⟩
    rcases h with ⟨hg, hl, hr⟩ | h
    · rcases k.cell with ⟨hc, -⟩ | ⟨b, hb⟩
      · exact .inl ⟨by rw [hc]; exact hg, by rw [hc]; exact hl,
          recallTested_mono hr rfl (fun _ => rfl) (by rw [hc]) k.grows⟩
      · obtain ⟨hat, hent⟩ := EntersAt_head hk hdue hl hcov hb
        have hcrane : c = b.crane := hb.holder _ hg
        refine .inr ?_
        rw [hat]
        exact ⟨hcrane.symm, hcrane ▸ hent⟩
    · refine .inr ?_
      cases hat : claimAt rest with
      | none => rw [hat] at h; exact h
      | some p =>
        rw [hat] at h
        exact ⟨h.1, enteredBooked_advances h.2 (hlift c (by rw [h.2.2])) k⟩
  · rename_i hclear
    rw [if_neg hclear] at h
    rcases k.cell with ⟨hc, -⟩ | ⟨b, hb⟩
    · unfold staysFree; rw [hc]; exact h
    · rcases hb.claim with k | ⟨d, hd⟩
      · rw [hcov] at k; cases k
      · rw [h.2.1] at hd
        cases e <;> cases he <;> cases hd

theorem newHeadServed_advances (hk : cellClaimsDue s x → claimsKnown s x l) (h : newHeadServed s v x l)
    (k : Advances x v w) : newHeadServed s w x l := by
  cases l with
  | nil =>
    rcases k.cell with ⟨hc, -⟩ | ⟨b, hb⟩
    · show staysFree w x []
      unfold staysFree; rw [hc]; exact h
    · rcases hb.claim with k | ⟨d, hd⟩
      · rw [hcov] at k; cases k
      · rw [h.2.1] at hd
        cases hd
  | cons e rest =>
    intro hclaims
    have hk := hk hclaims
    have hrest : claimsKnown s x rest := fun a ha => hk a (List.mem_cons_of_mem e ha)
    obtain ⟨hready, h⟩ := h hclaims
    refine ⟨k.ready hready, ?_⟩
    cases e with
    | entry c r => exact headServed_advances hcov hlift hdue rfl hrest h k
    | auto c => exact headServed_advances hcov hlift hdue rfl hrest h k
    | claim n d r =>
      rcases h with ⟨hst, hfree⟩ | h
      · rcases k.cell with ⟨hc, hsame⟩ | ⟨b, hb⟩
        · refine .inl ⟨?_, by unfold staysFree; rw [hc]; exact hfree⟩
          obtain ⟨a, ha, hn, -⟩ := claimAt_known hk (show claimAt (.claim n d r :: rest) = some (n, d) from rfl)
          obtain ⟨f, hf, hfs⟩ := Option.map_eq_some_iff.mp hst
          have hfa : f = a := Option.some.inj ((hdue n f hf hfs).symm.trans (hn ▸ ha.1))
          rw [bookStateOf, hsame n f hf hfs (hfa ▸ ha.2.2)]
          exact congrArg some hfs
        · obtain ⟨hat, hent⟩ := EntersAt_head hk hdue hfree.2.1 hcov hb
          obtain ⟨rfl, rfl⟩ := Prod.mk.inj (Option.some.inj hat)
          exact .inr hent
      · exact .inr (enteredBooked_advances h (hlift d (by rw [h.2])) k)

end

theorem served_lifted (h : ((eventServed s u).cell x).grant = some ⟨c, .booked⟩) :
    ((eventServed s u).crane c).lift ≠ none
      ∨ ((u.cell x).grant = some ⟨c, .booked⟩ ∧ ((eventServed s u).cell x).list = (u.cell x).list
        ∧ ((eventServed s u).cell x).covered = (u.cell x).covered) := by
  rcases (admits_served s u).cell x with e | ⟨b, hb, hx⟩
  · rw [e] at h ⊢
    rcases serveCells_cases s u x with ⟨r, hr⟩ | ⟨a, rest, r, -, -, -, hr⟩
    · rw [hr] at h ⊢
      exact .inr ⟨h, rfl, rfl⟩
    · rw [hr] at h
      have hkind := congrArg Grant.kind (Option.some.inj h)
      cases a <;> cases hkind
  · have hg := Enters_grant hb hx
    rw [h] at hg
    have hcrane : c = b.crane := congrArg Grant.holder (Option.some.inj hg)
    rw [hcrane, Enters_lift hb]
    exact .inl nofun

theorem served_uncovered (h : (u.cell x).covered = none) : ((eventServed s u).cell x).covered = none := by
  have hserved : ((serveCells s u).cell x).covered = none := by
    rcases serveCells_cases s u x with ⟨r, hr⟩ | ⟨a, rest, r, -, -, -, hr⟩ <;> rw [hr] <;> exact h
  rcases (admits_served s u).cell x with e | ⟨b, hb, hx⟩
  · rw [e]; exact hserved
  · rw [hb.cells x hx]
    unfold admittedCell
    dsimp only
    rw [hserved]
    rfl

theorem claimsLeft_advances {gone : Nat → Bool} (hc : u.cell x = claimlessFor gone (s.cell x))
    (hdue : ∀ n b, (eventServed s u).booking n = some b → b.state = .due → s.booking n = some b)
    (h : claimsLeft s (eventServed s u) x gone) (k : Advances x (eventServed s u) w) : claimsLeft s w x gone := by
  intro hclaims
  obtain ⟨hready, hheld, hfree⟩ := h hclaims
  have hk : claimsKnown s x (withoutClaims gone (s.cell x).list) := fun e he =>
    claimsKnown_of_due hclaims e (mem_withoutClaims.mp he).1
  have hgrant := claimless_grant hc
  refine ⟨fun hh => k.ready (hready hh), fun g hg => ?_, fun hg hcov => ?_⟩
  · rcases hheld g hg with ⟨hsg, hsl, hsc, hsr, hss⟩ | ⟨n, hn, hent⟩
    · rcases k.cell with ⟨hsame, -⟩ | ⟨b, hb⟩
      · exact .inl ⟨by rw [hsame]; exact hsg, by rw [hsame]; exact hsl, by rw [hsame]; exact hsc,
          fun hh => recallTested_mono (hsr hh) rfl (fun _ => rfl) (by rw [hsame]) k.grows,
          fun hh => by rw [hsame]; exact hss hh⟩
      · have hent := EntersAt_booked hb
        have hclaim := hb.claim
        rw [hsl, hsc] at hent hclaim
        rw [hb.holder g hsg]
        refine .inr ⟨b.number, ?_, hent⟩
        rcases hclaim with e | ⟨d, hd⟩
        · exact List.mem_append_left _ (Option.mem_toList.mpr e)
        · exact List.mem_append_right _ (Option.mem_toList.mpr (by rw [hd]; rfl))
    · refine .inr ⟨n, hn, enteredBooked_advances hent ?_ k⟩
      rcases served_lifted (s := s) (u := u) (by rw [hent.2]) with h | ⟨-, hl, hcv⟩
      · exact h
      · rw [hent.2, hc] at hl hcv
        have hl : withoutClaim n (withoutClaims gone (s.cell x).list) = withoutClaims gone (s.cell x).list := hl
        have hcv : Option.filter (· != n) ((s.cell x).covered.filter fun n => !gone n)
            = (s.cell x).covered.filter fun n => !gone n := hcv
        rcases List.mem_append.mp hn with hn | hn
        · rw [Option.mem_toList.mp hn] at hcv
          simp [Option.filter] at hcv
        · obtain ⟨⟨m, d⟩, hat, hmn⟩ := Option.map_eq_some_iff.mp (Option.mem_toList.mp hn)
          obtain rfl : m = n := hmn
          obtain ⟨d', rest, hlist⟩ : ∃ i rest, withoutClaims gone (s.cell x).list = .claim m d i :: rest := by
            cases hw : withoutClaims gone (s.cell x).list with
            | nil => rw [hw] at hat; cases hat
            | cons e rest =>
              rw [hw] at hat
              cases e with
              | claim a b i =>
                obtain ⟨rfl, rfl⟩ := Prod.mk.inj (Option.some.inj hat)
                exact ⟨i, rest, rfl⟩
              | entry => cases hat
              | auto => cases hat
          have hmem : Entry.claim m d d' ∈ withoutClaim m (withoutClaims gone (s.cell x).list) := by
            rw [hl, hlist]; exact List.mem_cons_self
          have := (List.mem_filter.mp hmem).2
          simp [isClaimOf] at this
  · have hcovered := served_uncovered (s := s) (u := u) (x := x) (by rw [hc]; exact hcov)
    have hlift : ∀ c, ((eventServed s u).cell x).grant = some ⟨c, .booked⟩ → ((eventServed s u).crane c).lift ≠ none :=
      fun c hg' => (served_lifted hg').resolve_right fun ⟨hu, _⟩ => by
        rw [hgrant, hg] at hu; cases hu
    refine ⟨fun hh => newHeadServed_advances hcovered hlift hdue (fun _ => hk) ((hfree hg hcov).1 hh) k, fun hh => ?_⟩
    rcases (hfree hg hcov).2 hh with e | h
    · rcases k.cell with ⟨hsame, -⟩ | ⟨b, hb⟩
      · exact .inl (hsame.trans e)
      · obtain ⟨hat, hent⟩ := EntersAt_head hk hdue (by rw [e]) hcovered hb
        refine .inr ?_
        rw [hat]
        exact hent
    · refine .inr ?_
      cases hat : claimAt (withoutClaims gone (s.cell x).list) with
      | none => rw [hat] at h; exact h
      | some p =>
        rw [hat] at h
        exact enteredBooked_advances h (hlift p.2 (by rw [h.2])) k

end

end Laws
end Sys2Proof.Machine

/-! SUPPORT. SETCLOCK (R144 to R146). -/

namespace Sys2Proof.Machine

/-- The state after the lapses of a forward setting and the service of their event (R145). -/
def afterLapses (now : Nat) (s : State) : State := takeAllThenSettle (lapsedForward now) lapseBooking s

/-- The state after the bookings whose start has come have become DUE (R145). -/
def afterDue (now : Nat) (s : State) : State :=
  takeAll (dueForward now) (fun t n => becomeDue t n (some .booked)) (afterLapses now s)

/-- The state after a forward setting (R145). -/
def afterForward (now : Nat) (s : State) : State := takeAll (overruns now) markOverrun (afterDue now s)

/-- The state after a backward setting (R146). -/
def afterBackward (now : Nat) (s : State) : State := takeAllThenSettle (returnedBackward now) returnBooking s

namespace Laws

section
variable {now n : Nat} {s : State} {b d : Booking}

/-! ### The tests -/

theorem lapsedForward_iff : lapsedForward now b = true
    ↔ (b.state = .referred ∨ b.state = .booked ∨ b.state = .due) ∧ b.start + b.late ≤ now := by
  unfold lapsedForward lateEnd
  simp [or_assoc]

theorem dueForward_iff : dueForward now b = true
    ↔ b.state = .booked ∧ b.start ≤ now ∧ now < b.start + b.late := by
  unfold dueForward lateEnd
  simp [and_assoc]

theorem returnedBackward_iff : returnedBackward now b = true ↔ b.state = .due ∧ now < b.start := by
  simp [returnedBackward]

/-- A booking under way neither lapses nor becomes DUE. -/
theorem unjudged_of_underWay (h : underWay b.state = true) : ¬lapsedForward now b = true ∧ ¬dueForward now b = true := by
  refine ⟨fun k => ?_, fun k => ?_⟩
  · rcases (lapsedForward_iff.mp k).1 with e | e | e <;> rw [e] at h <;> cases h
  · rw [(dueForward_iff.mp k).1] at h; cases h

theorem dueForward_booked : ∀ b : Booking, dueForward now b = true → b.state = .booked := fun _ h =>
  (dueForward_iff.mp h).1

theorem returnedBackward_ne : ∀ b : Booking, returnedBackward now b = true → b.state ≠ .booked := fun _ h => by
  rw [(returnedBackward_iff.mp h).1]; nofun

theorem any_eq_false {p : Booking → Bool} (hb : s.booking n = some b) (hp : ¬p b = true) :
    (s.booking n).any p = false := by
  rw [hb]; exact Bool.eq_false_iff.mpr hp

theorem markedNow_eq (h : b.state = .admitted ∨ b.state = .landing) : markedNow now b = markedAt now b := by
  unfold markedNow markedAt
  have hrun : overruns now b = (decide (b.start + b.duration ≤ now) && !b.overrun) := by
    rcases h with h | h <;> simp [overruns, h]
  rw [hrun]
  by_cases hend : b.start + b.duration ≤ now
  · cases ho : b.overrun with
    | false => simp [hend]
    | true =>
      simp only [hend, decide_true, Bool.not_true, Bool.and_false, Bool.false_eq_true, if_false, if_true]
      rw [← ho]
  · simp [hend]

/-! ### A forward setting -/

theorem forwardSetting_fst (now : Nat) (s : State) : (forwardSetting now s).1 = afterForward now s := by
  unfold forwardSetting
  dsimp only
  rw [takeCounting_fst]
  rfl

theorem afterDue_evolves (hs : isIdle s) : Evolves s (afterDue now s) :=
  Evolves_trans (lapses_evolves hs) (dueStage_evolves (Evolves_idle (lapses_evolves hs) hs))

theorem afterForward_evolves (hs : isIdle s) : Evolves s (afterForward now s) :=
  Evolves_trans (afterDue_evolves hs) (markStage_evolves (Evolves_idle (afterDue_evolves hs) hs))

/-- The lapses and the service of their event change no record but by admission. -/
theorem afterLapses_booking (hs : isIdle s) (hb : (afterLapses now s).booking n = some b) (hst : b.state ≠ .admitted) :
    s.booking n = some b := by
  cases hs0 : s.booking n with
  | none =>
    have hj : Judges n s (afterLapses now s) := lapses_left hs (by rw [hs0]; rfl)
    rw [Judges_gone hj hs0] at hb
    cases hb
  | some a =>
    by_cases hl : lapsedForward now a = true
    · rw [afterLapses, (lapses_taken hs hs0 hl).1] at hb
      cases hb
    · rcases (lapses_left hs (any_eq_false hs0 hl) : Judges n s (afterLapses now s)).booking with e | ⟨c, -, -, e, -⟩
      · exact hs0.symm.trans (e.symm.trans hb)
      · replace hb := e.symm.trans hb
        rw [← Option.some.inj hb] at hst
        exact absurd rfl hst

/-- A booking that neither lapses nor becomes DUE, until the overruns are marked. -/
theorem afterDue_left (hs : isIdle s) (hb : s.booking n = some b) (hl : ¬lapsedForward now b = true)
    (hd : ¬dueForward now b = true) : Judges n s (afterDue now s) := by
  have hj : Judges n s (afterLapses now s) := lapses_left hs (any_eq_false hb hl)
  refine Judges_trans hj (dueStage_left dueForward_booked (Evolves_idle hj.toEvolves hs) ?_)
  rcases hj.booking with e | ⟨a, -, -, e, -⟩
  · rw [e, hb]; exact Bool.eq_false_iff.mpr hd
  · rw [e]; rfl

/-- A booking that becomes DUE, until the overruns are marked. -/
theorem afterDue_made (hs : isIdle s) (hb : s.booking n = some b) (hd : dueForward now b = true) :
    ((afterDue now s).booking n = some (asDue b) ∨ (afterDue now s).booking n = some { asDue b with state := .admitted })
      ∧ bookingTold s (afterDue now s) b (some .booked) (.state .due) ∧ admissionTold s (afterDue now s) b := by
  obtain ⟨hst, -, hlate⟩ := dueForward_iff.mp hd
  have hj : Judges n s (afterLapses now s) := lapses_left hs (any_eq_false hb fun hl => by
    have := (lapsedForward_iff.mp hl).2
    omega)
  obtain ⟨hmade, htold, hadm⟩ := dueStage_taken (test := dueForward now) dueForward_booked (Evolves_idle hj.toEvolves hs)
    (Judges_same hj hb (by rw [hst]; nofun)) hd
  exact ⟨hmade, bookingTold_evolves hj.toEvolves htold (Grows.refl _), fun h =>
    bookingTold_evolves hj.toEvolves (hadm h) (Grows.refl _)⟩

/-- A booking that lapses at a forward setting is gone, with its claims, and told (R145). -/
theorem afterForward_lapsed (hs : isIdle s) (hb : s.booking n = some b) (hl : lapsedForward now b = true) :
    (afterForward now s).booking n = none ∧ claimsGone (afterForward now s) n b.crane
      ∧ bookingTold s (afterForward now s) b (some b.state) (.outcome .lapsed) := by
  obtain ⟨hgone, hclaims, htold⟩ := lapses_taken hs hb hl
  have hev := lapses_evolves (test := lapsedForward now) hs
  have hdue : Judges n (afterLapses now s) (afterDue now s) :=
    dueStage_left dueForward_booked (Evolves_idle hev hs) (by rw [afterLapses, hgone]; rfl)
  have hnone := Judges_gone hdue hgone
  have hmark : Judges n (afterDue now s) (afterForward now s) := ((markStage_at now _).1 (by rw [hnone]; rfl)).1
  exact ⟨Judges_gone hmark hnone, Judges_claimsGone hmark (Judges_claimsGone hdue hclaims),
    bookingTold_evolves (Evolves_refl s) htold (hdue.grows.trans hmark.grows)⟩

/-- What a booking that does not lapse is before the overruns are marked. -/
theorem afterDue_booking (hs : isIdle s) (hb : s.booking n = some b) (hl : ¬lapsedForward now b = true) :
    ∃ d, (afterDue now s).booking n = some d ∧ (d = b ∨ (b.state = .due ∧ d = { b with state := .admitted })
      ∨ (dueForward now b = true ∧ (d = asDue b ∨ d = { asDue b with state := .admitted }))) := by
  by_cases hd : dueForward now b = true
  · rcases (afterDue_made hs hb hd).1 with e | e
    · exact ⟨_, e, .inr (.inr ⟨hd, .inl rfl⟩)⟩
    · exact ⟨_, e, .inr (.inr ⟨hd, .inr rfl⟩)⟩
  · rcases (afterDue_left hs hb hl hd).booking with e | ⟨a, ha, hst, e, -⟩
    · exact ⟨b, e.trans hb, .inl rfl⟩
    · obtain rfl := Option.some.inj (hb.symm.trans ha)
      exact ⟨_, e, .inr (.inl ⟨hst, rfl⟩)⟩

theorem afterForward_booking (h : (afterDue now s).booking n = some d) :
    (afterForward now s).booking n = some (markedNow now d) := (markStage_booking h).1

/-- The book after a forward setting (R145, R151, R154). -/
theorem bookJudgedAt_forward (hs : isIdle s) : bookJudgedAt now s (afterForward now s) := by
  intro n b hb
  have hnot : ∀ {d : Booking}, d.state ≠ .admitted → d.state ≠ .landing → markedNow now d = d := fun h1 h2 =>
    markedNow_self (overruns_of_ne h1 h2)
  have hafter : ∀ d, (afterDue now s).booking n = some d → (afterForward now s).booking n = some (markedNow now d) :=
    fun d h => afterForward_booking h
  obtain rfl := booking_number hb
  have hlapse : lapsedForward now b = true ↔ _ := lapsedForward_iff
  have hdue : dueForward now b = true ↔ _ := dueForward_iff
  refine ⟨fun hst hlate => ?_, fun hst hstart => ?_, fun hst hstart hlate => ?_, fun hst hlate => ?_, fun hst => ?_,
    fun hst => ?_⟩
  · have hj := afterDue_left hs hb (fun h => by have := (hlapse.mp h).2; omega) (fun h => by rw [hst] at hdue; cases (hdue.mp h).1)
    rw [hafter b (Judges_same hj hb (by rw [hst]; nofun)), hnot (by rw [hst]; nofun) (by rw [hst]; nofun)]
  · have hj := afterDue_left hs hb (fun h => by have := (hlapse.mp h).2; omega) (fun h => by have := (hdue.mp h).2.1; omega)
    rw [hafter b (Judges_same hj hb (by rw [hst]; nofun)), hnot (by rw [hst]; nofun) (by rw [hst]; nofun)]
  · unfold dueOrAdmittedAt
    rcases (afterDue_made hs hb (hdue.mpr ⟨hst, hstart, hlate⟩)).1 with e | e
    · left
      rw [hafter _ e, hnot (by nofun) (by nofun)]
      rfl
    · right
      rw [hafter _ e, markedNow_eq (.inl rfl)]
      rfl
  · unfold dueOrAdmittedAt
    have hj := afterDue_left hs hb (fun h => by have := (hlapse.mp h).2; omega) (fun h => by rw [hst] at hdue; cases (hdue.mp h).1)
    rcases hj.booking with e | ⟨a, ha, -, e, -⟩
    · left
      rw [hafter b (e.trans hb), hnot (by rw [hst]; nofun) (by rw [hst]; nofun), ← hst]
    · right
      obtain rfl := Option.some.inj (hb.symm.trans ha)
      rw [hafter _ e, markedNow_eq (.inl rfl)]
  · have hu : underWay b.state = true := by rcases hst with e | e <;> rw [e] <;> rfl
    have hj := afterDue_left (now := now) hs hb (unjudged_of_underWay hu).1 (unjudged_of_underWay hu).2
    rw [hafter b (Judges_same hj hb (by rcases hst with e | e <;> rw [e] <;> nofun)), markedNow_eq hst]
  · have hu : underWay b.state = true := by rw [hst]; rfl
    have hj := afterDue_left (now := now) hs hb (unjudged_of_underWay hu).1 (unjudged_of_underWay hu).2
    rw [hafter b (Judges_same hj hb (by rw [hst]; nofun)), hnot (by rw [hst]; nofun) (by rw [hst]; nofun)]

/-- Of a booking that another's steps judge, an admission is told. -/
theorem admissionTold_of_judges {t : State} (hb : s.booking n = some b) (hst : b.state ≠ .admitted) (k : Judges n s t) :
    admissionTold s t b := by
  intro h
  obtain rfl := booking_number hb
  rcases k.booking with e | ⟨a, ha, -, -, htold⟩
  · rw [bookStateOf, e, hb] at h
    exact absurd (Option.some.inj h) hst
  · obtain rfl := Option.some.inj (hb.symm.trans ha)
    exact htold

theorem admissionTold_later {t u : State} (h : admissionTold s t b) (hst : bookStateOf u b.number = bookStateOf t b.number)
    (hg : Grows t u) : admissionTold s u b := fun k =>
  bookingTold_mono (h (hst ▸ k)) (fun _ => rfl) hg

/-- Every admission of a forward setting is told (R145, R151). -/
theorem admissionTold_forward (hs : isIdle s) (hb : s.booking n = some b) (hst : b.state = .booked ∨ b.state = .due) :
    admissionTold s (afterForward now s) b := by
  have hnum := booking_number hb
  by_cases hl : lapsedForward now b = true
  · intro h
    rw [bookStateOf, hnum, (afterForward_lapsed hs hb hl).1] at h
    cases h
  · refine admissionTold_later (t := afterDue now s) ?_ (markStage_state now _ _)
      (markStage_evolves (Evolves_idle (afterDue_evolves hs) hs)).grows
    by_cases hd : dueForward now b = true
    · exact (afterDue_made hs hb hd).2.2
    · exact admissionTold_of_judges hb (by rcases hst with e | e <;> rw [e] <;> nofun) (afterDue_left hs hb hl hd)

/-- Every overrun that a forward setting marks is told (R154). -/
theorem overrunTold_forward (hs : isIdle s) (hb : s.booking n = some b) {k : Booking}
    (hk : (afterForward now s).booking n = some k) (h0 : b.overrun = false) (h1 : k.overrun = true) :
    overrunTold s (afterForward now s) b := by
  by_cases hl : lapsedForward now b = true
  · rw [(afterForward_lapsed hs hb hl).1] at hk
    cases hk
  · obtain ⟨d, hd, hcases⟩ := afterDue_booking hs hb hl
    have hsame : d.overrun = b.overrun ∧ d.number = b.number ∧ d.crane = b.crane ∧ d.start = b.start
        ∧ d.duration = b.duration := by
      rcases hcases with rfl | ⟨-, rfl⟩ | ⟨-, rfl | rfl⟩ <;> exact ⟨rfl, rfl, rfl, rfl, rfl⟩
    obtain ⟨ho, hn, hc, hstart, hduration⟩ := hsame
    obtain ⟨hmarked, htold⟩ := markStage_booking (now := now) hd
    rw [afterForward, hmarked] at hk
    have hrun : overruns now d = true := by
      refine Bool.eq_true_of_not_eq_false fun hr => ?_
      rw [markedNow_self hr] at hk
      rw [← Option.some.inj hk, ho, h0] at h1
      cases h1
    have htold := htold hrun
    unfold overrunTold at htold ⊢
    rw [hn, hc, hstart, hduration] at htold
    exact ⟨htold.1, fun y hy => htold.2 y (by rwa [mask_grows (afterDue_evolves hs).grows])⟩

/-- What a forward setting leaves of a cell that no booking made DUE lists (R62, R64, R68, R76, R77). -/
theorem claimsLeft_forward (hs : isIdle s) {x : CellNo}
    (hx : ∀ n b, s.booking n = some b → dueForward now b = true → x ∉ b.cells) {t : State}
    (hf : Follows (afterForward now s) t) :
    claimsLeft s t x (dueWhere s fun b => decide (b.start + b.late ≤ now)) := by
  have hserved := served_lapses (test := lapsedForward now) hs
  have hev := lapses_evolves (test := lapsedForward now) hs
  have hcell := lapseStage_cell (test := lapsedForward now) s x
  have hat : ∀ n b, s.booking n = some b → lapsedForward now b = false →
      (takeAll (lapsedForward now) lapseBooking s).booking n = some b := fun n b hb ht =>
    ((lapseStage_at s).1 (any_eq_false hb (by rw [ht]; nofun))).2.trans hb
  have hback := fun n b => afterLapses_booking (now := now) (n := n) (b := b) hs
  have hstages : Advances x (afterLapses now s) t := by
    have hidle := Evolves_idle hev hs
    refine Advances_trans (Advances_dueStage dueForward_booked hidle fun n b hb ht => ?_)
      (Advances_trans (Advances_markStage (now := now) (Evolves_idle (afterDue_evolves hs) hs)) (Advances_of_follows hf))
    exact hx n b (hback n b hb (by rw [dueForward_booked b ht]; nofun)) ht
  rw [afterLapses, hserved] at hstages hback
  have hp : ∀ b : Booking, b.state = .due → lapsedForward now b = decide (b.start + b.late ≤ now) := fun b hb => by
    unfold lapsedForward lateEnd
    simp [hb]
  have hleft := withdrawn_claimsLeft (x := x) hp hcell (lapseStage_evolves hs).rest (lapseStage_evolves hs).grows hat
    (Follows_refl _)
  intro hclaims
  exact claimsLeft_advances (hcell.trans (claimless_dueWhere hp hclaims)) (fun n b hb hd => hback n b hb (by rw [hd]; nofun))
    hleft hstages hclaims

end

end Laws
end Sys2Proof.Machine

/-! SUPPORT. SETCLOCK (R144 to R146): a backward setting, the counts, what holds with a commit pending, and the request. -/

namespace Sys2Proof.Machine.Laws

open Sys2Proof Sys2Proof.Machine

section
variable {now n : Nat} {s t : State} {b : Booking}

/-! ### A backward setting -/

theorem backwardSetting_fst (now : Nat) (s : State) : (backwardSetting now s).1 = afterBackward now s := rfl

theorem afterBackward_evolves (hs : isIdle s) : Evolves s (afterBackward now s) := returns_evolves hs

/-- A DUE booking whose start lies ahead again is BOOKED, without claims, and told (R146). -/
theorem afterBackward_returned (hs : isIdle s) (hb : s.booking n = some b) (hst : b.state = .due) (hn : now < b.start) :
    (afterBackward now s).booking n = some { b with state := .booked } ∧ claimsGone (afterBackward now s) n b.crane
      ∧ bookingTold s (afterBackward now s) b (some .due) (.state .booked) := by
  have := returns_taken returnedBackward_ne hs hb (returnedBackward_iff.mpr ⟨hst, hn⟩)
  rwa [hst] at this

theorem afterBackward_left (hs : isIdle s) (hb : s.booking n = some b) (h : ¬returnedBackward now b = true) :
    Judges n s (afterBackward now s) := returns_left returnedBackward_ne hs (any_eq_false hb h)

theorem admissionTold_backward (hs : isIdle s) (hb : s.booking n = some b) (hst : b.state ≠ .admitted) :
    admissionTold s (afterBackward now s) b := by
  by_cases h : returnedBackward now b = true
  · intro k
    obtain ⟨hdue, hn⟩ := returnedBackward_iff.mp h
    rw [bookStateOf, booking_number hb, (afterBackward_returned hs hb hdue hn).1] at k
    cases k
  · exact admissionTold_of_judges hb hst (afterBackward_left hs hb h)

/-- A backward setting marks no overrun. -/
theorem afterBackward_overrun (hs : isIdle s) (hb : s.booking n = some b) {k : Booking}
    (hk : (afterBackward now s).booking n = some k) : k.overrun = b.overrun := by
  by_cases h : returnedBackward now b = true
  · obtain ⟨hdue, hn⟩ := returnedBackward_iff.mp h
    rw [(afterBackward_returned hs hb hdue hn).1] at hk
    rw [← Option.some.inj hk]
  · rcases (afterBackward_left hs hb h).booking with e | ⟨a, ha, -, e, -⟩
    · rw [e, hb] at hk
      rw [Option.some.inj hk]
    · obtain rfl := Option.some.inj (hb.symm.trans ha)
      rw [e] at hk
      rw [← Option.some.inj hk]

/-- What a backward setting leaves of a cell (R62, R64, R68, R76, R77). -/
theorem claimsLeft_backward (hs : isIdle s) (x : CellNo) (hf : Follows (afterBackward now s) t) :
    claimsLeft s t x (dueWhere s fun b => decide (now < b.start)) := by
  have hserved : Follows (eventServed s (takeAll (returnedBackward now) returnBooking s)) t := by
    rw [← served_returns hs]; exact hf
  have hev := returnStage_evolves (test := returnedBackward now) hs
  exact withdrawn_claimsLeft (test := returnedBackward now) (fun b hb => by simp [returnedBackward, hb])
    (returnStage_cell returnedBackward_ne s x) hev.rest hev.grows
    (fun n b hb ht => ((returnStage_at returnedBackward_ne s).1 (any_eq_false hb (by rw [ht]; nofun))).2.trans hb) hserved

/-! ### With a commit pending -/

/-- After a backward setting no booking is DUE whose start lies ahead. -/
theorem backward_started (hb : (afterBackward now s).booking n = some b) (hst : b.state = .due) : b.start ≤ now := by
  have hu : (takeAll (returnedBackward now) returnBooking s).booking n = some b := by
    rcases settle_passedOn s (takeAll (returnedBackward now) returnBooking s) n with e | e | ⟨a, -, -, e⟩
    · rw [afterBackward, takeAllThenSettle, e] at hb; cases hb
    · rw [← e]; exact hb
    · rw [afterBackward, takeAllThenSettle, e] at hb
      rw [← Option.some.inj hb] at hst
      cases hst
  obtain ⟨hleft, htaken⟩ := returnStage_at (n := n) (returnedBackward_ne (now := now)) s
  by_cases ht : (s.booking n).any (returnedBackward now) = true
  · obtain ⟨u, -, hub, -, hend⟩ := htaken ht
    obtain ⟨a, ha, -⟩ := (Option.any_eq_true _ _).mp ht
    rw [hend, returnBooking_booking (hub.trans ha), if_pos rfl] at hu
    rw [← Option.some.inj hu] at hst
    cases hst
  · have hsb := (hleft (Bool.eq_false_iff.mpr ht)).2
    rw [hu] at hsb
    rw [← hsb] at ht
    exact not_lt.mp fun hn => ht (returnedBackward_iff.mpr ⟨hst, hn⟩)

/-- After a forward setting no booking is BOOKED or REFERRED past its late limit. -/
theorem forward_inTime (hb : (afterForward now s).booking n = some b) (hst : b.state = .booked ∨ b.state = .referred) :
    now < b.start + b.late := by
  have hb : (afterDue now s).booking n = some b :=
    (markStage_unmarked (by rcases hst with e | e <;> rw [e] <;> nofun) (by rcases hst with e | e <;> rw [e] <;> nofun)).mp hb
  have hadmitted : ∀ d : Booking, d.state = .admitted → dueForward now d = false := fun d hd =>
    Bool.eq_false_iff.mpr fun k => by rw [dueForward_booked d k] at hd; cases hd
  have hdone : ∀ s d, s.booking n = some d → dueForward now d = true →
      ((becomeDue s n (some .booked)).booking n).any (dueForward now) = false := fun s d hd _ =>
    Bool.eq_false_iff.mpr fun k => by
      obtain ⟨a, ha, hat⟩ := (Option.any_eq_true _ _).mp k
      rcases becomeDue_state hd ha with rfl | rfl <;> cases dueForward_booked _ hat
  obtain ⟨hleft, htaken⟩ := takeAll_passedOn (s := afterLapses now s)
    (fun s m d hd hm => becomeDue_passedOn (former := some .booked) hd hm) hadmitted hdone
  have hpast : ∀ {u v : State}, passedOn u v n → v.booking n = some b → u.booking n = some b := fun h hv => by
    rcases h with e | e | ⟨a, -, -, e⟩
    · rw [e] at hv; cases hv
    · rw [← e]; exact hv
    · rw [e] at hv
      rw [← Option.some.inj hv] at hst
      rcases hst with e | e <;> cases e
  have hlapses : (afterLapses now s).booking n = some b ∨ now < b.start + b.late := by
    by_cases ht : ((afterLapses now s).booking n).any (dueForward now) = true
    · obtain ⟨u, hsu, hut⟩ := htaken ht
      have hu := hpast hut hb
      unfold takeIf at hu
      split at hu
      · rename_i htu
        obtain ⟨d, hd, -⟩ := (Option.any_eq_true _ _).mp htu
        rcases becomeDue_state hd hu with rfl | rfl <;> rcases hst with e | e <;> cases e
      · exact .inl (hpast hsu hu)
    · exact .inl (hpast (hleft (Bool.eq_false_iff.mpr ht)) hb)
  refine hlapses.elim (fun hb => ?_) id
  have hu := hpast (settle_passedOn s _ n) hb
  by_cases ht : (s.booking n).any (lapsedForward now) = true
  · obtain ⟨a, ha, hat⟩ := (Option.any_eq_true _ _).mp ht
    rw [(lapseStage_taken ha hat).1] at hu
    cases hu
  · have hsb := ((lapseStage_at s).1 (Bool.eq_false_iff.mpr ht)).2
    rw [hu] at hsb
    rw [← hsb] at ht
    exact not_le.mp fun hl => ht (lapsedForward_iff.mpr ⟨hst.elim (.inr ∘ .inl) .inl, hl⟩)

/-! ### The counts -/

/-- A booking that lapses leaves, and the service of the event changes, none whose start but not late limit has come. -/
theorem afterLapses_due_iff (hs : isIdle s) (hb : dueForward now b = true) :
    (afterLapses now s).booking n = some b ↔ s.booking n = some b := by
  obtain ⟨hst, -, hlate⟩ := dueForward_iff.mp hb
  have hne : b.state ≠ .admitted := by rw [hst]; nofun
  refine ⟨fun h => ?_, fun h => ?_⟩
  · exact afterLapses_booking hs h hne
  · exact Judges_same (lapses_left hs (any_eq_false h fun k => by
      have := (lapsedForward_iff.mp k).2
      omega)) h (by rw [hst]; nofun)

/-- The bookings counted as made DUE (R144). -/
theorem forwardSetting_made (hs : isIdle s) (hu : (s.book.live.map (·.number)).Nodup) : (forwardSetting now s).2.1
    = (s.book.live.filter fun b => b.state == .booked && decide (b.start ≤ now ∧ now < b.start + b.late)).length := by
  have hu' : (liveNumbers (afterLapses now s)).Nodup := hu.sublist (liveNumbers_lapses hs)
  have hlen : (bookingsWhere (afterLapses now s) (dueForward now)).length = (bookingsWhere s (dueForward now)).length :=
    bookingsWhere_length hu hu' fun n b ht => afterLapses_due_iff hs ht
  refine ((takeCounting_due dueForward_booked (Evolves_idle (lapses_evolves hs) hs) hu').trans hlen).trans
    (bookingsWhere_count s fun b => ?_)
  unfold dueForward lateEnd
  simp [Bool.and_assoc]

theorem judgeBook_forward (h : n < now) (s : State) : judgeBook n now s
    = (afterForward now s, (forwardSetting now s).2.1, (bookingsWhere s (lapsedForward now)).length, 0) := by
  unfold judgeBook
  rw [if_pos h, ← forwardSetting_fst]
  rfl

theorem judgeBook_backward (h : now < n) (s : State) : judgeBook n now s
    = (afterBackward now s, 0, 0, (bookingsWhere s (returnedBackward now)).length) := by
  unfold judgeBook
  rw [if_neg (by omega), if_pos h]
  rfl

theorem judgeBook_same (n : Nat) (s : State) : judgeBook n n s = (s, 0, 0, 0) := by
  unfold judgeBook
  rw [if_neg (by omega), if_neg (by omega)]

/-! ### The request -/

theorem evolved_plant {w : State} (h : Evolves s w) (hf : Follows w t) : t.envs = s.envs ∧ keepsPlant s t :=
  ⟨hf.envs.trans (envs_of_sansBook h.rest), hf.map.trans (map_of_sansBook h.rest),
    hf.store.trans (store_of_sansBook h.rest), hf.wind.trans (wind_of_sansBook h.rest), fun l => (hf.cfg l).trans
      (of_sansBook (fun v : State => (v.sig l).cfg) h.rest fun _ => rfl)⟩

theorem bookJudgedAt_follows {w : State} (h : bookJudgedAt now s w) (hf : Follows w t) : bookJudgedAt now s t := by
  intro n b hb
  have := h n b hb
  unfold dueOrAdmittedAt at this ⊢
  simpa only [Follows_booking hf] using this

theorem claimsGone_follows {w : State} {c : Crane} (h : claimsGone w n c) (hf : Follows w t) : claimsGone t n c :=
  ⟨by rw [Follows_due hf]; exact h.1, fun x => by rw [Follows_cell hf]; exact h.2 x⟩

/-- What a state that follows a forward setting holds of the book before it (R145). -/
theorem forward_followed (hs : isIdle s) (hf : Follows (afterForward now s) t) :
    bookJudgedAt now s t
      ∧ (∀ n b, s.booking n = some b → b.state = .referred ∨ b.state = .booked ∨ b.state = .due →
          b.start + b.late ≤ now →
          t.booking n = none ∧ claimsGone t n b.crane ∧ bookingTold s t b (some b.state) (.outcome .lapsed))
      ∧ (∀ n b, s.booking n = some b → b.state = .booked → b.start ≤ now → now < b.start + b.late →
          bookingTold s t b (some .booked) (.state .due))
      ∧ (∀ y, (∀ d ∈ s.book.live, d.state = .booked → d.start ≤ now → now < d.start + d.late → y ∉ d.cells) →
          claimsLeft s t y (dueWhere s fun b => decide (b.start + b.late ≤ now)))
      ∧ (∀ n b, s.booking n = some b → b.state = .booked ∨ b.state = .due → admissionTold s t b)
      ∧ ∀ n b k, s.booking n = some b → t.booking n = some k → b.overrun = false → k.overrun = true →
          overrunTold s t b := by
  have hmark := markStage_evolves (test := overruns now) (Evolves_idle (afterDue_evolves (now := now) hs) hs)
  refine ⟨bookJudgedAt_follows (bookJudgedAt_forward hs) hf, fun n b hb hst hlate => ?_, fun n b hb hst hstart hlate => ?_,
    fun y hy => claimsLeft_forward hs (fun n b hb hd => ?_) hf, fun n b hb hst => ?_, fun n b k hb hk h0 h1 => ?_⟩
  · obtain ⟨hgone, hclaims, htold⟩ := afterForward_lapsed hs hb (lapsedForward_iff.mpr ⟨hst, hlate⟩)
    exact ⟨by rw [Follows_booking hf]; exact hgone, claimsGone_follows hclaims hf,
      bookingTold_mono htold (fun _ => rfl) hf.grows⟩
  · exact bookingTold_mono (afterDue_made hs hb (dueForward_iff.mpr ⟨hst, hstart, hlate⟩)).2.1 (fun _ => rfl)
      (hmark.grows.trans hf.grows)
  · obtain ⟨hst, hstart, hlate⟩ := dueForward_iff.mp hd
    exact hy b (booking_mem hb) hst hstart hlate
  · exact admissionTold_later (admissionTold_forward hs hb hst)
      (congrArg (Option.map Booking.state) (Follows_booking hf _)) hf.grows
  · rw [Follows_booking hf] at hk
    obtain ⟨h2, h3⟩ := overrunTold_forward hs hb hk h0 h1
    exact ⟨told_grows hf.grows h2, fun y hy => told_grows hf.grows (h3 y hy)⟩

/-- What a state that follows a backward setting holds of the book before it (R146). -/
theorem backward_followed (hs : isIdle s) (hf : Follows (afterBackward now s) t) :
    (∀ y, claimsLeft s t y (dueWhere s fun b => decide (now < b.start)))
      ∧ (∀ n b, s.booking n = some b → b.state = .booked ∨ b.state = .due → admissionTold s t b)
      ∧ (∀ n b k, s.booking n = some b → t.booking n = some k → b.overrun = false → k.overrun = true →
          overrunTold s t b)
      ∧ ∀ n b, s.booking n = some b →
        (b.state = .due → now < b.start →
          t.booking n = some { b with state := .booked } ∧ claimsGone t n b.crane
            ∧ bookingTold s t b (some .due) (.state .booked))
        ∧ (b.state = .due → b.start ≤ now →
          t.booking n = some b ∨ t.booking n = some { b with state := .admitted })
        ∧ (b.state ≠ .due → t.booking n = some b) := by
  refine ⟨fun y => claimsLeft_backward hs y hf, fun n b hb hst => ?_, fun n b k hb hk h0 h1 => ?_,
    fun n b hb => ⟨fun hst hn => ?_, fun hst hn => ?_, fun hst => ?_⟩⟩
  · exact admissionTold_later (admissionTold_backward hs hb (by rcases hst with e | e <;> rw [e] <;> nofun))
      (congrArg (Option.map Booking.state) (Follows_booking hf _)) hf.grows
  · rw [Follows_booking hf] at hk
    rw [afterBackward_overrun hs hb hk, h0] at h1
    cases h1
  · obtain ⟨hback, hclaims, htold⟩ := afterBackward_returned hs hb hst hn
    exact ⟨by rw [Follows_booking hf]; exact hback, claimsGone_follows hclaims hf,
      bookingTold_mono htold (fun _ => rfl) hf.grows⟩
  · rw [Follows_booking hf]
    have hstays : ¬returnedBackward now b = true := fun k => by
      have := (returnedBackward_iff.mp k).2
      omega
    rcases (afterBackward_left hs hb hstays).booking with e | ⟨a, ha, -, e, -⟩
    · exact .inl (e.trans hb)
    · obtain rfl := Option.some.inj (hb.symm.trans ha)
      exact .inr e
  · rw [Follows_booking hf]
    exact Judges_same (afterBackward_left hs hb fun k => hst (returnedBackward_iff.mp k).1) hb hst

/-- A setting to the same value tells and marks nothing of the book. -/
theorem same_followed (hf : Follows s t) :
    (∀ n b, s.booking n = some b → b.state = .booked ∨ b.state = .due → admissionTold s t b)
      ∧ ∀ n b k, s.booking n = some b → t.booking n = some k → b.overrun = false → k.overrun = true →
          overrunTold s t b := by
  refine ⟨fun n b hb hst => ?_, fun n b k hb hk h0 h1 => ?_⟩
  · exact admissionTold_later (admissionTold_of_judges hb (by rcases hst with e | e <;> rw [e] <;> nofun) (Judges_refl n s))
      (congrArg (Option.map Booking.state) (Follows_booking hf _)) hf.grows
  · rw [Follows_booking hf, hb] at hk
    rw [← Option.some.inj hk, h0] at h1
    cases h1

theorem doSetClock_accepts {x : Sup} {v : Nat} (hx : x = s.holder) (hv : v ≤ 4294967295) :
    doSetClock (.s x) v s = acceptClock s (.s x) v := by
  have hf : firstRefusal [(!s.authorized (.s x), Reason.notAuthority), (decide (Config.clockMax < v), .badField)] = none := by
    rw [decide_eq_false (show ¬Config.clockMax < v from not_lt.mpr hv)]
    simp [firstRefusal, authorized_of_holder hx]
  unfold doSetClock
  rw [hf]

theorem doSetClock_refuses {x : Sup} {v : Nat} (hx : x = s.holder) (hv : 4294967295 < v) :
    doSetClock (.s x) v s = s.refuse (.s x) .setClock .badField := by
  have hf : firstRefusal [(!s.authorized (.s x), Reason.notAuthority), (decide (Config.clockMax < v), .badField)]
      = some .badField := by
    rw [decide_eq_true (show Config.clockMax < v from hv)]
    simp [firstRefusal, authorized_of_holder hx]
  unfold doSetClock
  rw [hf]

/-- The answered request: it composes the outputs of the judged book and tells the clock (R144). -/
theorem clock_answered {p : Port} {v : Nat} {made lapsed returned : Nat} {w : State}
    (h : judgeBook s.clock.count v (clockTakes s v) = (w, made, lapsed, returned)) :
    Follows w (acceptClock s p v).transmit
      ∧ responds (acceptClock s p v).transmit p .setClock .ok none (.clockSet s.clock.count v made lapsed returned)
      ∧ keepsSite (clockTakes s v) (acceptClock s p v).transmit
      ∧ keepsPorts (some p) (clockTakes s v) (acceptClock s p v).transmit
      ∧ ∀ y, (s.port (.s y)).mask.site = true → told (acceptClock s p v).transmit (.s y) (.clock s.clock.count v p) := by
  have hcore : w.core = (clockTakes s v).core := by
    rw [← judgeBook_core s.clock.count v (clockTakes s v), h]
  have hgrows : Grows (clockTakes s v) w := by
    have := judgeBook_grows s.clock.count v (Grows.refl (clockTakes s v))
    rwa [h] at this
  unfold acceptClock
  dsimp only
  rw [h]
  dsimp only
  have hg := compose_grows s hgrows
  have hcomposed := Follows_compose s w
  have hcore' := (compose_core s w).trans hcore
  generalize compose s w = u at hg hcomposed hcore'
  have hnotify := talks_notifyClass u .site (.clock s.clock.count v p)
  have hgu := notifyClass_grows (Grows.refl u) .site (.clock s.clock.count v p)
  have htold := fun y => told_notifyClass u .site (.clock s.clock.count v p) y
  have hcore'' := (core_of_sansNotices (notifyClass_sansNotices u .site (.clock s.clock.count v p))).trans hcore'
  generalize u.notifyClass .site (.clock s.clock.count v p) = z at hnotify hgu htold hcore''
  obtain ⟨hsite, hports⟩ := kept_answered hcore'' (hg.trans hgu) p
    ⟨respKind .setClock, .ok, none, .clockSet s.clock.count v made lapsed returned⟩
  have hanswer := Follows_answer z p .setClock (.clockSet s.clock.count v made lapsed returned)
  exact ⟨Follows_trans hcomposed (Follows_trans (Follows_of_talks hnotify hgu) hanswer),
    responds_transmit (answer_slot _ _ _ _), hsite, hports, fun y hy => told_grows hanswer.grows (htold y (by
      rw [mask_grows hg]; exact hy))⟩

end

/-- Settles O56: the judged book follows the clock (`bookJudgedAt_forward`, `afterBackward_returned`), and the answered
request follows the judged state (`clock_answered`). -/
theorem setClockJudgesTheBook : Obligations.SetClockJudgesTheBook := by
  intro x v s h hx
  refine ⟨fun hv => exec_sup_attended h (.setClock v) (doSetClock_refuses hx hv), fun hv => ?_⟩
  have hrow := exec_sup_attended h (.setClock v) (doSetClock_accepts hx hv)
  rcases hjudge : judgeBook s.clock.count v (clockTakes s v) with ⟨w, made, lapsed, returned⟩
  obtain ⟨hf, hresponds, hsite, hports, hclock⟩ := clock_answered (p := .s x) hjudge
  obtain ⟨hpending, hphase, -, -, hmeas, htime, hholder, hkey⟩ := hsite
  generalize (acceptClock s (.s x) v).transmit = t at hrow hf hresponds hpending hphase hmeas htime hholder hkey hports hclock
  have hjudged : ∀ {u a b c}, judgeBook s.clock.count v (clockTakes s v) = (u, a, b, c) →
      w = u ∧ made = a ∧ lapsed = b ∧ returned = c := fun e => by
    rw [hjudge] at e
    simpa only [Prod.mk.injEq] using e
  have hforward := fun hlt : s.clock.count < v => hjudged (judgeBook_forward hlt (clockTakes s v))
  have hbackward := fun hlt : v < s.clock.count => hjudged (judgeBook_backward hlt (clockTakes s v))
  have hsame : v = s.clock.count → _ := fun he => by
    have := judgeBook_same s.clock.count (clockTakes s v)
    nth_rewrite 2 [← he] at this
    exact hjudged this
  have hidle : s.map.commit = .idle → isIdle (clockTakes s v) := id
  have hevolves : s.map.commit = .idle → Evolves (clockTakes s v) w := fun hi => by
    rcases Nat.lt_trichotomy s.clock.count v with hlt | he | hlt
    · rw [(hforward hlt).1]; exact afterForward_evolves (hidle hi)
    · rw [(hsame he.symm).1]; exact Evolves_refl _
    · rw [(hbackward hlt).1]; exact afterBackward_evolves (hidle hi)
  have hlapsed : lapsed = if s.clock.count < v then (s.book.live.filter fun b =>
      (b.state == .referred || b.state == .booked || b.state == .due) && decide (b.start + b.late ≤ v)).length else 0 := by
    rcases Nat.lt_trichotomy s.clock.count v with hlt | he | hlt
    · rw [if_pos hlt, (hforward hlt).2.2.1]
      exact bookingsWhere_count (clockTakes s v) fun _ => rfl
    · rw [if_neg (by omega), (hsame he.symm).2.2.1]
    · rw [if_neg (by omega), (hbackward hlt).2.2.1]
  have hreturned : returned = if v < s.clock.count then (s.book.live.filter fun b =>
      b.state == .due && decide (v < b.start)).length else 0 := by
    rcases Nat.lt_trichotomy s.clock.count v with hlt | he | hlt
    · rw [if_neg (by omega), (hforward hlt).2.2.2]
    · rw [if_neg (by omega), (hsame he.symm).2.2.2]
    · rw [if_pos hlt, (hbackward hlt).2.2.2]
      exact bookingsWhere_count (clockTakes s v) fun _ => rfl
  refine ⟨t, made, hrow, hlapsed ▸ hreturned ▸ hresponds, fun hi hu => ?made, fun hle => ?unmade, htime,
    fun hlt n b hb hst => ?started, fun hlt n b hb hst => ?inTime, fun he => ?same, fun hi => ?idle, hclock, hpending,
    hphase.trans h.1, hmeas, hholder, hkey, hports⟩
  case made =>
    rcases Nat.lt_trichotomy s.clock.count v with hlt | he | hlt
    · rw [if_pos hlt, (hforward hlt).2.1]
      exact forwardSetting_made (hidle hi) hu
    · rw [if_neg (by omega), (hsame he.symm).2.1]
    · rw [if_neg (by omega), (hbackward hlt).2.1]
  case unmade =>
    rcases Nat.lt_or_eq_of_le hle with hlt | he
    · exact (hbackward hlt).2.1
    · exact (hsame he).2.1
  case started =>
    rw [Follows_booking hf, (hbackward hlt).1] at hb
    exact backward_started hb hst
  case inTime =>
    rw [Follows_booking hf, (hforward hlt).1] at hb
    exact forward_inTime hb hst
  case same =>
    rw [(hsame he).1] at hf
    exact ⟨hf.book, hf.cells⟩
  case idle =>
    have hev := hevolves hi
    have hidle := hidle hi
    obtain ⟨henvs, hplant⟩ := evolved_plant hev hf
    refine ⟨fun y g hg => ?holders, henvs, hplant, (congrArg Book.next hf.book).trans hev.next, fun hu => ?book⟩
    case holders =>
      obtain ⟨kind, hk⟩ := hev.holders y g hg
      exact ⟨kind, by rw [Follows_cell hf]; exact hk⟩
    case book =>
      rcases Nat.lt_trichotomy s.clock.count v with hlt | he | hlt
      · rw [(hforward hlt).1] at hf
        obtain ⟨hjudged, hlapses, hdue, hleft, hadmitted, hoverrun⟩ := forward_followed hidle hf
        exact ⟨fun _ => ⟨hjudged, hlapses⟩, fun _ => hdue, fun _ => hleft, hadmitted, hoverrun, fun hlt' => by omega,
          fun hlt' => by omega⟩
      · rw [(hsame he.symm).1] at hf
        obtain ⟨hadmitted, hoverrun⟩ := same_followed hf
        exact ⟨fun hlt => by omega, fun hlt => by omega, fun hlt => by omega, hadmitted, hoverrun, fun hlt => by omega,
          fun hlt => by omega⟩
      · rw [(hbackward hlt).1] at hf
        obtain ⟨hleft, hadmitted, hoverrun, hreturns⟩ := backward_followed hidle hf
        exact ⟨fun hlt' => by omega, fun hlt' => by omega, fun hlt' => by omega, hadmitted, hoverrun, fun _ => hleft,
          fun _ => hreturns⟩

end Sys2Proof.Machine.Laws

/-! SUPPORT. The sound book (O7): what it reads of the state, and that the service of an event keeps it. -/

namespace Sys2Proof.Machine

/-- The booking suits the clock value (R138, R147, R148). -/
def timelyAt (now : Nat) (b : Booking) : Prop :=
  (b.state = .booked → now < b.start) ∧ (b.state = .due → b.start ≤ now)
    ∧ (b.state = .due ∨ b.state = .referred → now < b.start + b.late)

/-- What the sound book reads of the cells, the crane table and the clock is the same. -/
structure SameBook (s t : State) : Prop where
  book : t.book = s.book
  lift : ∀ c, (t.crane c).lift = (s.crane c).lift
  due : ∀ c, (t.crane c).due = (s.crane c).due
  covered : ∀ x, (t.cell x).covered = (s.cell x).covered
  list : ∀ x, ∀ e ∈ (t.cell x).list, isRequest e = true ∨ e ∈ (s.cell x).list

namespace Laws

section
variable {s t u : State} {now : Nat} {b : Booking}

/-! ### What the sound book reads -/

theorem bookTimely_iff : bookTimely s ↔ (s.phase = .running → ∀ b ∈ s.book.live, timelyAt s.clock.count b) := Iff.rfl

theorem timelyAt_moved {a : Booking} (h : timelyAt now a) (hm : b.MovedFrom a) : timelyAt now b := by
  obtain ⟨-, -, hstart, -, hlate, -⟩ := (frame_eq_iff _ _).mp hm.1
  unfold timelyAt at h ⊢
  rcases hm.2 with e | ⟨-, e⟩ | ⟨-, e⟩
  · rwa [e, hstart, hlate]
  · refine ⟨fun k => ?_, fun k => ?_, fun k => ?_⟩
    · rw [k] at e; cases e
    · rw [k] at e; cases e
    · rcases k with k | k <;> rw [k] at e <;> cases e
  · refine ⟨fun k => ?_, fun k => ?_, fun k => ?_⟩
    · rw [k] at e; cases e
    · rw [k] at e; cases e
    · rcases k with k | k <;> rw [k] at e <;> cases e

theorem SameBook_refl (s : State) : SameBook s s := ⟨rfl, fun _ => rfl, fun _ => rfl, fun _ => rfl, fun _ _ h => .inr h⟩

theorem SameBook_of (hb : t.book = s.book) (hk : t.cranes = s.cranes) (hc : t.cells = s.cells) : SameBook s t := by
  have hcell : ∀ x, t.cell x = s.cell x := fun x => by unfold State.cell; rw [hc]
  have hcrane : ∀ c, t.crane c = s.crane c := fun c => by unfold State.crane; rw [hk]
  exact ⟨hb, fun c => by rw [hcrane], fun c => by rw [hcrane], fun x => by rw [hcell], fun x e he => by
    rw [hcell] at he; exact .inr he⟩

theorem bookKept_same (h : SameBook s t) (hs : bookKept s) : bookKept t := by
  obtain ⟨hbounded, hlifts, hclaims⟩ := hs
  refine ⟨h.book ▸ hbounded, fun c => ?_, fun x => ?_⟩
  · rw [h.lift, h.due]
    exact ⟨fun n hn => by rw [booking_congr h.book]; exact (hlifts c).1 n hn, fun n hn => by
      rw [booking_congr h.book]; exact (hlifts c).2 n hn⟩
  · exact (recClaimsDue_congr h.book x _).mpr (recClaimsDue.mono (hclaims x) ⟨by
      rw [h.covered]; exact fun _ => id, h.list x⟩)

theorem bookSound_iff : bookSound s ↔ bookKept s ∧ bookTimely s := by
  unfold bookSound bookKept
  simp only [and_assoc]

/-- Where what the sound book reads is the same, and a part that runs ran at the same clock, the book stays sound. -/
theorem bookSound_same (h : SameBook s t) (hp : t.phase = .running → s.phase = .running ∧ t.clock.count = s.clock.count)
    (hs : bookSound s) : bookSound t := by
  obtain ⟨hkept, htimely⟩ := bookSound_iff.mp hs
  refine bookSound_iff.mpr ⟨bookKept_same h hkept, fun hrun b hb => ?_⟩
  obtain ⟨hphase, hcount⟩ := hp hrun
  rw [h.book] at hb
  rw [hcount]
  exact htimely hphase b hb

theorem clock_of_core (h : t.core = s.core) : t.clock = s.clock := by
  have hk : t.core.clock = s.core.clock := congrArg State.clock h
  exact hk

/-- What serves an event keeps a sound book. -/
theorem bookSound_serves (h : Serves s t) (hs : bookSound s) : bookSound t := by
  obtain ⟨hkept, htimely⟩ := bookSound_iff.mp hs
  obtain ⟨hk, hm⟩ := h.book hkept
  refine bookSound_iff.mpr ⟨hk, fun hrun b hb => ?_⟩
  obtain ⟨a, ha, hba⟩ := hm b hb
  rw [clock_of_core h.core]
  rw [phase_of_core h.core] at hrun
  exact timelyAt_moved (htimely hrun a ha) hba

theorem bookSound_talks (h : Talks s t) (hs : bookSound s) : bookSound t :=
  bookSound_same (SameBook_of (of_talks State.book h fun _ _ => rfl) (of_talks State.cranes h fun _ _ => rfl)
    (of_talks State.cells h fun _ _ => rfl))
    (fun hr => ⟨(of_talks State.phase h fun _ _ => rfl) ▸ hr, congrArg Clock.count (of_talks State.clock h fun _ _ => rfl)⟩) hs

theorem SameBook_updateSignals (s : State) : SameBook s (updateSignals s) :=
  SameBook_of (updateSignals_keeps State.book (fun _ _ _ => rfl) (fun _ _ => rfl) s)
    (updateSignals_keeps State.cranes (fun _ _ _ => rfl) (fun _ _ => rfl) s)
    (updateSignals_keeps State.cells (fun _ _ _ => rfl) (fun _ _ => rfl) s)

theorem bookSound_compose (s0 : State) (hs : bookSound s) : bookSound (compose s0 s) := by
  rw [compose_eq]
  refine bookSound_same (SameBook_updateSignals _) (fun hr => ⟨?_, ?_⟩) (bookSound_serves (serves_composeOuts s0 s) hs)
  · rwa [updateSignals_keeps State.phase (fun _ _ _ => rfl) fun _ _ => rfl] at hr
  · rw [updateSignals_keeps State.clock (fun _ _ _ => rfl) fun _ _ => rfl]

theorem bookSound_conclude (s0 : State) (hs : bookSound s) : bookSound (conclude s0 s) :=
  bookSound_compose s0 (bookSound_serves (serves_settle s0 s) hs)

theorem bookSound_responded {p : Port} {r : Response} (hs : bookSound s) : bookSound (s.respond p r) :=
  bookSound_talks (talks_respond _ _ _) hs

theorem bookSound_setWind (w : WindRec) (hs : bookSound s) : bookSound (s.setWind w) :=
  bookSound_same (SameBook_of rfl rfl rfl) (fun h => ⟨h, rfl⟩) hs

end

end Laws
end Sys2Proof.Machine

/-! SUPPORT. The sound book (O7): bookings that become DUE and return to BOOKED, and the rows of steps of a judgement. -/

namespace Sys2Proof.Machine

/-- The sound book, clock apart, of whose bookings `Q` holds. -/
def keptWith (Q : Booking → Prop) (s : State) : Prop := bookKept s ∧ ∀ b ∈ s.book.live, Q b

namespace Laws

section
variable {s t : State} {b d : Booking} {n m : Nat} {former : Option BookState}

/-! ### A booking that becomes DUE -/

theorem dueMarked_book (s : State) (b : Booking) : (dueMarked s b).book
    = (s.modBooking b.number fun k => { k with state := .due, note := none }).book := rfl

theorem dueMarked_crane (s : State) (b : Booking) (c : Crane) : (dueMarked s b).crane c
    = if c = b.crane then { s.crane b.crane with due := some b.number } else s.crane c := crane_modCrane _ _ _ _

theorem booking_dueMarked (h : s.booking b.number = some b) (n : Nat) :
    (dueMarked s b).booking n = if n = b.number then some (asDue b) else s.booking n := by
  have hmod := booking_modBooking s b.number n (fun k => { k with state := .due, note := none }) fun _ => rfl
  rw [h] at hmod
  exact (booking_congr (dueMarked_book s b) n).trans hmod

theorem mem_dueMarked (h : d ∈ (dueMarked s b).book.live) (hs : bookBounded s.book) (hb : s.booking b.number = some b) :
    d = asDue b ∨ (d ∈ s.book.live ∧ d.number ≠ b.number) := by
  obtain ⟨a, ha, rfl⟩ := List.mem_map.mp h
  by_cases hn : a.number = b.number
  · obtain rfl := eq_of_mem_of_number hs ha hb hn
    exact .inl (if_pos rfl)
  · rw [if_neg hn]
    exact .inr ⟨ha, hn⟩

/-- The record of a booking that is neither DUE nor under way may be changed but for its frame. -/
theorem bookKept_modBooking {f : Booking → Booking} (hf : ∀ a, (f a).frame = a.frame) (hs : bookKept s)
    (hb : s.booking b.number = some b) (hd : b.state ≠ .due) (hu : underWay b.state = false) :
    bookKept (s.modBooking b.number f) := by
  have hread : ∀ n, n ≠ b.number → (s.modBooking b.number f).booking n = s.booking n := fun n hn => by
    rw [booking_modBooking _ _ _ _ fun a => ((frame_eq_iff _ _).mp (hf a)).1, if_neg hn]
  have hother : ∀ {n a}, s.booking n = some a → a.state = .due ∨ underWay a.state = true → n ≠ b.number := by
    rintro n a ha hst rfl
    obtain rfl : b = a := Option.some.inj (hb.symm.trans ha)
    rcases hst with e | e
    · exact hd e
    · rw [hu] at e; cases e
  refine ⟨bookBounded_modBooking hs.1 _ _ hf, fun c => ⟨fun n hn => ?_, fun n hn => ?_⟩, fun x => ?_⟩
  · obtain ⟨a, ha, hac, hau⟩ := (hs.2.1 c).1 n hn
    exact ⟨a, (hread n (hother ha (.inr hau))).trans ha, hac, hau⟩
  · obtain ⟨a, ha, hac, had⟩ := (hs.2.1 c).2 n hn
    exact ⟨a, (hread n (hother ha (.inl had))).trans ha, hac, had⟩
  · refine recClaimsDue_of_others (hs.2.2 x) (lacksClaim_of_not_due hs hb hd x) fun a ha hne hdue => ⟨?_, ?_, hdue.2⟩
    · exact List.mem_map.mpr ⟨a, ha, if_neg hne⟩
    · rw [hread _ hne]
      exact hdue.1

/-- A booking of a sound book that is neither DUE nor under way may be marked DUE. -/
theorem bookKept_dueMarked (hs : bookKept s) (hb : s.booking b.number = some b) (hd : b.state ≠ .due)
    (hu : underWay b.state = false) : bookKept (dueMarked s b) := by
  obtain ⟨hbounded, hlifts, hclaims⟩ := bookKept_modBooking (f := fun k => { k with state := .due, note := none })
    (fun _ => rfl) hs hb hd hu
  refine ⟨hbounded, fun c => ⟨fun n hn => (hlifts c).1 n ?_, fun n hn => ?_⟩, hclaims⟩
  · rw [dueMarked_crane] at hn
    split at hn
    · rename_i e; rw [e]; exact hn
    · exact hn
  · rw [dueMarked_crane] at hn
    split at hn
    · rename_i e
      obtain rfl : b.number = n := Option.some.inj hn
      rw [booking_dueMarked hb, if_pos rfl]
      exact ⟨_, rfl, e.symm, rfl⟩
    · exact (hlifts c).2 n hn

theorem placeClaim_book (b : Booking) (s : State) (x : CellNo) : (placeClaim b s x).book = s.book :=
  book_of_sansCells (placeClaim_sansCells b s x)

/-- The claims of a DUE booking are placed in the cells that it lists. -/
theorem serves_placeClaims (hb : b ∈ s.book.live) (hk : s.booking b.number = some b) (hd : b.state = .due)
    (l : List CellNo) (hl : ∀ x ∈ l, x ∈ b.cells) : Serves s (l.foldl (placeClaim b) s) := by
  induction l generalizing s with
  | nil => exact Serves.refl s
  | cons x l ih =>
    have hbook := placeClaim_book b s x
    exact (serves_placeClaim hb ⟨hk, hd, hl x List.mem_cons_self⟩).trans (ih (hbook ▸ hb) (by
      rw [booking_congr hbook]; exact hk) fun y hy => hl y (List.mem_cons_of_mem x hy))

theorem placeClaim_asDue (b : Booking) (s : State) (x : CellNo) : placeClaim (asDue b) s x = placeClaim b s x := rfl

theorem serves_duePlaced (hb : s.booking b.number = some b) : Serves (dueMarked s b) (duePlaced s b) := by
  have hmem : asDue b ∈ (dueMarked s b).book.live :=
    booking_mem ((booking_dueMarked hb b.number).trans (if_pos rfl))
  exact serves_placeClaims (b := asDue b) hmem ((booking_dueMarked hb _).trans (if_pos rfl)) rfl _ fun _ => id

theorem serves_becomeDue (h : s.booking m = some b) : Serves (dueMarked s b) (becomeDue s m former) := by
  rw [becomeDue_eq h]
  obtain rfl := booking_number h
  exact (((serves_duePlaced h).trans ((serves_serveCells s _).trans (serves_notifyBooking _ _ _))).trans
    (serves_admissions s _)).trans (serves_drainRetest s _)

/-- A booking becomes DUE in a sound book: the others are as before or further on. -/
theorem becomeDue_kept {Q : Booking → Prop} (hQ : ∀ a d, Q a → d.MovedFrom a → Q d) (hs : bookKept s)
    (hothers : ∀ a ∈ s.book.live, a.number ≠ b.number → Q a) (h : s.booking m = some b) (hd : b.state ≠ .due)
    (hu : underWay b.state = false) (hb : Q (asDue b)) : keptWith Q (becomeDue s m former) := by
  have hself := booking_self h
  obtain ⟨hk, hm⟩ := (serves_becomeDue (former := former) h).book (bookKept_dueMarked hs hself hd hu)
  refine ⟨hk, fun d hdl => ?_⟩
  obtain ⟨a, ha, hda⟩ := hm d hdl
  rcases mem_dueMarked ha hs.1 hself with rfl | ⟨hal, hne⟩
  · exact hQ _ _ hb hda
  · exact hQ _ _ (hothers a hal hne) hda

/-! ### A booking that returns to BOOKED -/

/-- A DUE booking returns to BOOKED in a sound book. -/
theorem returnBooking_kept {Q : Booking → Prop} (hs : keptWith Q s) (h : s.booking m = some b)
    (hb : Q { b with state := .booked }) : keptWith Q (returnBooking s m) := by
  have hself := booking_self h
  have hk : bookKept (withdrawClaims s b) := ((serves_withdrawClaims s b).book hs.1).1
  have hcell : ∀ x, lacksClaim b.number ((withdrawClaims s b).cell x) := fun x => by
    rw [withdrawClaims_cell]; exact lacksClaim_claimlessCell _ _
  have hbook := withdrawClaims_book s b
  generalize hu : withdrawClaims s b = u at hk hcell hbook
  have hub : u.booking b.number = some b := (booking_congr hbook _).trans hself
  have heq : returnBooking s m = moveBooking (forgetBooking u b) b .booked := by rw [returnBooking_eq h, hu]
  obtain ⟨hcells, hcranes, -⟩ := moveBooking_rest (forgetBooking u b) b .booked
  have hread : ∀ n, (moveBooking (forgetBooking u b) b .booked).booking n
      = if n = b.number then some { b with state := .booked } else u.booking n := fun n => by
    have hsame : ∀ k, (forgetBooking u b).booking k = u.booking k := fun k => booking_congr (forgetBooking_book u b) k
    rw [booking_moveBooking, hsame, hsame, hub]
    rfl
  have hlive : (moveBooking (forgetBooking u b) b .booked).book
      = (u.modBooking b.number fun k => { k with state := .booked }).book := by
    have := of_sansNotices State.book (notifyBooking_sansNotices ((forgetBooking u b).modBooking b.number fun k => { k with state := .booked })
      b (.booking b.number b.crane (some b.state) (.state .booked) none none)) fun _ => rfl
    exact this
  rw [heq]
  refine ⟨⟨?_, fun c => ?_, fun x => ?_⟩, fun d hd => ?_⟩
  · rw [hlive]
    exact bookBounded_modBooking hk.1 _ _ fun _ => rfl
  · have hcrane : (moveBooking (forgetBooking u b) b .booked).crane c = (forgetBooking u b).crane c := by
      unfold State.crane; rw [hcranes]
    obtain ⟨hl, hd⟩ := named_forgetBooking hk.2.1 hub c
    rw [hcrane]
    refine ⟨fun n hn => ?_, fun n hn => ?_⟩
    · obtain ⟨hne, hn⟩ := hl n hn
      rw [hread, if_neg hne]
      exact (hk.2.1 c).1 n hn
    · obtain ⟨hne, hn⟩ := hd n hn
      rw [hread, if_neg hne]
      exact (hk.2.1 c).2 n hn
  · have hc : (moveBooking (forgetBooking u b) b .booked).cell x = u.cell x := by
      rw [cell_of_cells hcells, forgetBooking_cell]
    have := recClaimsDue_of_others (t := moveBooking (forgetBooking u b) b .booked) (hk.2.2 x) (hcell x)
      fun a ha hne hdue => ⟨?_, ?_, hdue.2⟩
    · unfold cellClaimsDue; rw [hc]; exact this
    · rw [hlive]
      exact List.mem_map.mpr ⟨a, ha, if_neg hne⟩
    · rw [hread, if_neg hne]
      exact hdue.1
  · rw [hlive] at hd
    obtain ⟨a, ha, rfl⟩ := List.mem_map.mp hd
    have ha' : a ∈ s.book.live := by rw [← hbook]; exact ha
    by_cases hn : a.number = b.number
    · rw [if_pos hn, eq_of_mem_of_number hs.1.1 ha' hself hn]
      exact hb
    · rw [if_neg hn]
      exact hs.2 a ha'

theorem serves_kept {Q : Booking → Prop} (hQ : ∀ a d, Q a → d.MovedFrom a → Q d) (h : Serves s t) (hs : keptWith Q s) :
    keptWith Q t := by
  obtain ⟨hk, hm⟩ := h.book hs.1
  refine ⟨hk, fun d hd => ?_⟩
  obtain ⟨a, ha, hda⟩ := hm d hd
  exact hQ _ _ (hs.2 a ha) hda

end

/-! ### Rows of steps -/

section
variable {test : Booking → Bool} {f : State → Nat → State} {Q : Booking → Prop} {s : State}

/-- A row of steps that each keep the sound book and take their booking from the test leaves none that satisfies it. -/
theorem takeAll_kept (hQ : ∀ s m b, keptWith Q s → s.booking m = some b → test b = true → keptWith Q (f s m))
    (hoff : ∀ s m b n, keptWith Q s → s.booking m = some b → test b = true → n ≠ m → (s.booking n).any test = false →
      ((f s m).booking n).any test = false)
    (hdone : ∀ s m b, keptWith Q s → s.booking m = some b → test b = true → ((f s m).booking m).any test = false)
    (hs : keptWith Q s) :
    keptWith (fun b => Q b ∧ test b = false) (takeAll test f s) := by
  have hat := fun n => takeAll_at (test := test) (f := f) (I := keptWith Q) (n := n)
    (Off := fun s t => (s.booking n).any test = false → (t.booking n).any test = false) (fun _ h => h)
    (fun _ _ _ h k hn => k (h hn)) (fun s m hi ht => by
      obtain ⟨b, hb, hbt⟩ := (Option.any_eq_true _ _).mp ht
      exact hQ s m b hi hb hbt) (fun s m hi hm ht hn => by
      obtain ⟨b, hb, hbt⟩ := (Option.any_eq_true _ _).mp ht
      exact hoff s m b n hi hb hbt hm.symm hn) (fun _ _ _ h hn => h hn) (fun s hi ht => by
      obtain ⟨b, hb, hbt⟩ := (Option.any_eq_true _ _).mp ht
      exact hdone s n b hi hb hbt) hs
  have hkept := (hat 0).1
  refine ⟨hkept.1, fun b hb => ⟨hkept.2 b hb, ?_⟩⟩
  have hnone : ((takeAll test f s).booking b.number).any test = false := by
    obtain ⟨-, hleft, htaken⟩ := hat b.number
    by_cases ht : (s.booking b.number).any test = true
    · obtain ⟨u, hu, -, hend⟩ := htaken ht
      refine hend ?_
      unfold takeIf
      split
      · rename_i htu
        obtain ⟨d, hd, hdt⟩ := (Option.any_eq_true _ _).mp htu
        exact hdone u _ d hu hd hdt
      · exact Bool.eq_false_iff.mpr ‹_›
    · exact hleft (Bool.eq_false_iff.mpr ht) (Bool.eq_false_iff.mpr ht)
  rw [booking_of_mem hkept.1.1.2.1 hb] at hnone
  exact hnone

end

end Laws
end Sys2Proof.Machine

/-! SUPPORT. The sound book (O7): the judgements of the book at a clock value (R145 to R147), and bookings that enter the
book (R131, R136). -/

namespace Sys2Proof.Machine

/-- What the clock says of a booking's start and late limit, by its state. -/
def judgedAs (p q r : Nat → Nat → Prop) (b : Booking) : Prop :=
  (b.state = .booked → p b.start (b.start + b.late)) ∧ (b.state = .due → q b.start (b.start + b.late))
    ∧ (b.state = .referred → r b.start (b.start + b.late))

namespace Laws

section
variable {p q r : Nat → Nat → Prop} {a b d : Booking} {now n m : Nat} {s t : State}

/-! ### What the service of an event keeps of a judgement -/

theorem moved_of_waiting (h : d.MovedFrom a) (hd : underWay d.state = false) :
    d.state = a.state ∧ d.start = a.start ∧ d.late = a.late := by
  obtain ⟨-, -, hstart, -, hlate, -⟩ := (frame_eq_iff _ _).mp h.1
  rcases h.2 with e | ⟨-, e⟩ | ⟨-, e⟩
  · exact ⟨e, hstart, hlate⟩
  · rw [hd] at e; cases e
  · rw [hd] at e; cases e

theorem judgedAs_moved (a d : Booking) (h : judgedAs p q r a) (hm : d.MovedFrom a) : judgedAs p q r d := by
  have hsame : ∀ {st : BookState}, underWay st = false → d.state = st → a.state = st ∧ d.start = a.start ∧ d.late = a.late :=
    fun hu e => by
      obtain ⟨h1, h2⟩ := moved_of_waiting hm (by rw [e]; exact hu)
      exact ⟨h1.symm.trans e, h2⟩
  obtain ⟨hp, hq, hr⟩ := h
  refine ⟨fun e => ?_, fun e => ?_, fun e => ?_⟩
  · obtain ⟨h1, h2, h3⟩ := hsame rfl e
    rw [h2, h3]; exact hp h1
  · obtain ⟨h1, h2, h3⟩ := hsame rfl e
    rw [h2, h3]; exact hq h1
  · obtain ⟨h1, h2, h3⟩ := hsame rfl e
    rw [h2, h3]; exact hr h1

theorem timelyAt_iff : timelyAt now b
    ↔ judgedAs (fun start _ => now < start) (fun start late => start ≤ now ∧ now < late) (fun _ late => now < late) b := by
  unfold timelyAt judgedAs
  tauto

theorem keptWith_mono {Q R : Booking → Prop} (h : ∀ b, Q b → R b) (hs : keptWith Q s) : keptWith R s :=
  ⟨hs.1, fun b hb => h b (hs.2 b hb)⟩

/-- A booking that no longer satisfies a test of BOOKED bookings, further on, does not. -/
theorem test_moved {test : Booking → Bool} (hdep : ∀ a d : Booking, d.state = a.state → d.start = a.start →
    d.late = a.late → test d = test a) (hu : ∀ d : Booking, underWay d.state = true → test d = false)
    (hm : d.MovedFrom a) (h : test a = false) : test d = false := by
  cases hd : underWay d.state with
  | true => exact hu d hd
  | false =>
    obtain ⟨h1, h2, h3⟩ := moved_of_waiting hm hd
    rw [hdep a d h1 h2 h3]; exact h

/-! ### The stages -/

/-- The bookings made DUE at a stage (R145, R147). -/
theorem dueStage_kept {test : Booking → Bool} (hbooked : ∀ b : Booking, test b = true → b.state = .booked)
    (hdep : ∀ a d : Booking, d.state = a.state → d.start = a.start → d.late = a.late → test d = test a)
    (hmade : ∀ b, judgedAs p q r b → test b = true → q b.start (b.start + b.late))
    (hs : keptWith (judgedAs p q r) s) :
    keptWith (fun b => judgedAs p q r b ∧ test b = false) (takeAll test (fun t n => becomeDue t n (some .booked)) s) := by
  have hundue : ∀ {b : Booking}, test b = true → b.state ≠ .due ∧ underWay b.state = false := fun ht => by
    rw [hbooked _ ht]; exact ⟨nofun, rfl⟩
  have hnot : ∀ d : Booking, d.state ≠ .booked → test d = false := fun d hd =>
    Bool.eq_false_iff.mpr fun k => hd (hbooked d k)
  have hmoved : ∀ {a d : Booking}, d.MovedFrom a → test a = false → test d = false := fun hm => test_moved hdep
    (fun d hd => hnot d (by intro e; rw [e] at hd; cases hd)) hm
  have hback : ∀ {s m b n d}, keptWith (judgedAs p q r) s → s.booking m = some b → test b = true →
      (becomeDue s m (some .booked)).booking n = some d → ∃ a, (dueMarked s b).booking n = some a ∧ d.MovedFrom a :=
    fun hs hb ht hd => booking_moved (serves_becomeDue hb) (bookKept_dueMarked hs.1 (booking_self hb) (hundue ht).1
      (hundue ht).2) hd
  refine takeAll_kept (fun s m b hs hb ht => ?_) (fun s m b n hs hb ht hn hf => ?_) (fun s m b hs hb ht => ?_) hs
  · refine becomeDue_kept judgedAs_moved hs.1 (fun a ha _ => hs.2 a ha) hb (hundue ht).1 (hundue ht).2 ⟨nofun, fun _ => ?_, nofun⟩
    exact hmade b (hs.2 b (booking_mem hb)) ht
  · refine Bool.eq_false_iff.mpr fun k => ?_
    obtain ⟨d, hd, hdt⟩ := (Option.any_eq_true _ _).mp k
    obtain ⟨a, ha, hda⟩ := hback hs hb ht hd
    rw [booking_dueMarked (booking_self hb), booking_number hb, if_neg hn] at ha
    rw [ha] at hf
    rw [hmoved hda hf] at hdt
    cases hdt
  · refine Bool.eq_false_iff.mpr fun k => ?_
    obtain ⟨d, hd, hdt⟩ := (Option.any_eq_true _ _).mp k
    obtain ⟨a, ha, hda⟩ := hback hs hb ht hd
    rw [booking_dueMarked (booking_self hb), booking_number hb, if_pos rfl] at ha
    rw [hmoved hda (by rw [← Option.some.inj ha]; exact hnot _ nofun)] at hdt
    cases hdt

/-- The lapses of a stage (R138, R145, R147). -/
theorem lapseStage_kept {test : Booking → Bool} (hs : keptWith (judgedAs p q r) s) :
    keptWith (fun b => judgedAs p q r b ∧ test b = false) (takeAll test lapseBooking s) := by
  refine takeAll_kept (fun s m b hs _ _ => serves_kept judgedAs_moved (serves_lapseBooking s m) hs)
    (fun s m b n _ hb _ hn hf => ?_) (fun s m b _ hb _ => ?_) hs
  · rw [lapseBooking_booking hb, if_neg hn]; exact hf
  · rw [lapseBooking_booking hb, if_pos rfl]; rfl

/-- The returns of a backward setting (R146). -/
theorem returnStage_kept (hs : keptWith (judgedAs p q r) s) (hback : ∀ b, judgedAs p q r b → returnedBackward now b = true →
    p b.start (b.start + b.late)) :
    keptWith (fun b => judgedAs p q r b ∧ returnedBackward now b = false) (takeAll (returnedBackward now) returnBooking s) := by
  refine takeAll_kept (fun s m b hs hb ht => ?_) (fun s m b n _ hb _ hn hf => ?_) (fun s m b _ hb _ => ?_) hs
  · exact returnBooking_kept hs hb ⟨fun _ => hback b (hs.2 b (booking_mem hb)) ht, nofun, nofun⟩
  · rw [returnBooking_booking hb, if_neg hn]; exact hf
  · rw [returnBooking_booking hb, if_pos rfl]
    exact Bool.eq_false_iff.mpr fun k => returnedBackward_ne _ k rfl

theorem serves_takeAll {test : Booking → Bool} {f : State → Nat → State} (hf : ∀ s n, Serves s (f s n)) (s : State) :
    Serves s (takeAll test f s) :=
  serves_foldl (f := takeIf test f) (fun s n => by
    unfold takeIf
    split
    · exact hf s n
    · exact Serves.refl s) _ s

/-! ### The judgements -/

theorem startedBooked_iff : startedBooked now b = true ↔ b.state = .booked ∧ b.start ≤ now := by
  simp [startedBooked]

theorem lapsedDue_iff : lapsedDue now b = true ↔ b.state = .due ∧ b.start + b.late ≤ now := by
  unfold lapsedDue lateEnd
  simp

theorem lapsedReferred_iff : lapsedReferred now b = true ↔ b.state = .referred ∧ b.start + b.late ≤ now := by
  unfold lapsedReferred lateEnd
  simp

theorem not_of_eq_false {x : Bool} {P : Prop} (h : x = true ↔ P) (hx : x = false) : ¬P := fun k => by
  rw [h.mpr k] at hx; cases hx

/-- The second checks leave a sound book whose bookings suit the new clock value (R147). -/
theorem secondChecks_kept (hs : bookKept s) (hdue : ∀ b ∈ s.book.live, b.state = .due → b.start ≤ now) :
    keptWith (timelyAt now) (secondChecks now s) := by
  have h0 : keptWith (judgedAs (fun _ _ => True) (fun start _ => start ≤ now) fun _ _ => True) s :=
    ⟨hs, fun b hb => ⟨fun _ => trivial, hdue b hb, fun _ => trivial⟩⟩
  have h1 := dueStage_kept (test := startedBooked now) (fun b h => (startedBooked_iff.mp h).1)
    (fun a d h1 h2 _ => by simp [startedBooked, h1, h2]) (fun b _ h => (startedBooked_iff.mp h).2) h0
  have h1 := keptWith_mono (R := judgedAs (fun start _ => now < start) (fun start _ => start ≤ now) fun _ _ => True)
    (fun b ⟨h, hf⟩ => ⟨fun e => not_le.mp fun k => not_of_eq_false startedBooked_iff hf ⟨e, k⟩, h.2.1, h.2.2⟩) h1
  unfold secondChecks takeAllThenSettle
  dsimp only
  generalize takeAll (startedBooked now) (fun t n => becomeDue t n (some .booked)) s = u at h1 ⊢
  have h2 := keptWith_mono (R := judgedAs (fun start _ => now < start) (fun start late => start ≤ now ∧ now < late)
      fun _ _ => True) (fun b ⟨h, hf⟩ => ⟨h.1, fun e => ⟨h.2.1 e, not_le.mp fun k => not_of_eq_false lapsedDue_iff hf ⟨e, k⟩⟩,
        h.2.2⟩) (lapseStage_kept (test := lapsedDue now) h1)
  have h3 := serves_kept judgedAs_moved (serves_settle u _) h2
  have h4 := keptWith_mono (R := judgedAs (fun start _ => now < start) (fun start late => start ≤ now ∧ now < late)
      fun _ late => now < late) (fun b ⟨h, hf⟩ => ⟨h.1, h.2.1,
        fun e => not_le.mp fun k => not_of_eq_false lapsedReferred_iff hf ⟨e, k⟩⟩) (lapseStage_kept (test := lapsedReferred now) h3)
  exact keptWith_mono (fun b h => timelyAt_iff.mpr h) (serves_kept judgedAs_moved (serves_takeAll serves_markOverrun _) h4)

theorem forwardSetting_kept (hs : bookKept s) (hdue : ∀ b ∈ s.book.live, b.state = .due → b.start ≤ now) :
    keptWith (timelyAt now) (afterForward now s) := by
  have h0 : keptWith (judgedAs (fun _ _ => True) (fun start _ => start ≤ now) fun _ _ => True) s :=
    ⟨hs, fun b hb => ⟨fun _ => trivial, hdue b hb, fun _ => trivial⟩⟩
  have h1 := keptWith_mono (R := judgedAs (fun _ late => now < late) (fun start late => start ≤ now ∧ now < late)
      fun _ late => now < late) (fun b ⟨h, hf⟩ => by
        have hlate : b.state = .referred ∨ b.state = .booked ∨ b.state = .due → now < b.start + b.late := fun e =>
          not_le.mp fun k => not_of_eq_false lapsedForward_iff hf ⟨e, k⟩
        exact ⟨fun e => hlate (.inr (.inl e)), fun e => ⟨h.2.1 e, hlate (.inr (.inr e))⟩, fun e => hlate (.inl e)⟩)
    (lapseStage_kept (test := lapsedForward now) h0)
  have h2 := serves_kept judgedAs_moved (serves_settle s _) h1
  have h3 := dueStage_kept (test := dueForward now) dueForward_booked
    (fun a d h1 h2 h3 => by unfold dueForward lateEnd; rw [h1, h2, h3]) (fun b _ h => (dueForward_iff.mp h).2) h2
  have h3 := keptWith_mono (R := judgedAs (fun start _ => now < start) (fun start late => start ≤ now ∧ now < late)
      fun _ late => now < late) (fun b ⟨h, hf⟩ => ⟨fun e => not_le.mp fun k => not_of_eq_false dueForward_iff hf ⟨e, k, h.1 e⟩,
        h.2.1, h.2.2⟩) h3
  exact keptWith_mono (fun b h => timelyAt_iff.mpr h) (serves_kept judgedAs_moved (serves_takeAll serves_markOverrun _) h3)

theorem backwardSetting_kept (hs : bookKept s) (htimely : ∀ b ∈ s.book.live, timelyAt m b) (hm : now < m) :
    keptWith (timelyAt now) (afterBackward now s) := by
  have h0 : keptWith (judgedAs (fun start _ => now < start) (fun _ late => now < late) fun _ late => now < late) s :=
    ⟨hs, fun b hb => by
      obtain ⟨hp, hq, hr⟩ := timelyAt_iff.mp (htimely b hb)
      exact ⟨fun e => hm.trans (hp e), fun e => hm.trans (hq e).2, fun e => hm.trans (hr e)⟩⟩
  have h1 := returnStage_kept (now := now) h0 fun b _ h => (returnedBackward_iff.mp h).2
  have h1 := keptWith_mono (R := judgedAs (fun start _ => now < start) (fun start late => start ≤ now ∧ now < late)
      fun _ late => now < late) (fun b ⟨h, hf⟩ => ⟨h.1,
        fun e => ⟨not_lt.mp fun k => not_of_eq_false returnedBackward_iff hf ⟨e, k⟩, h.2.1 e⟩, h.2.2⟩) h1
  exact keptWith_mono (fun b h => timelyAt_iff.mpr h) (serves_kept judgedAs_moved (serves_settle s _) h1)

theorem judgeBook_fst (now m : Nat) (s : State) : (judgeBook m now s).1
    = if m < now then afterForward now s else if now < m then afterBackward now s else s := by
  rw [← forwardSetting_fst, ← backwardSetting_fst]
  unfold judgeBook
  generalize forwardSetting now s = a
  generalize backwardSetting now s = b
  split
  · rfl
  · split <;> rfl

theorem judgeBook_kept (hs : bookKept s) (htimely : ∀ b ∈ s.book.live, timelyAt m b) :
    keptWith (timelyAt now) (judgeBook m now s).1 := by
  have hdue : m ≤ now → ∀ b ∈ s.book.live, b.state = .due → b.start ≤ now := fun hle b hb e =>
    ((htimely b hb).2.1 e).trans hle
  rw [judgeBook_fst]
  split
  · exact forwardSetting_kept hs (hdue (by omega))
  · split
    · exact backwardSetting_kept hs htimely ‹_›
    · rw [show now = m by omega]
      exact ⟨hs, htimely⟩

end

/-! ### A booking that enters the book -/

section
variable {b : Booking} {l : List Booking} {k : Book}

theorem insertBooking_perm (b : Booking) (l : List Booking) : (insertBooking b l).Perm (b :: l) := by
  induction l with
  | nil => exact List.Perm.refl _
  | cons a l ih =>
    unfold insertBooking
    split
    · exact List.Perm.refl _
    · exact (ih.cons a).trans (List.Perm.swap b a l)

theorem bookingBefore_iff {a b : Booking} :
    bookingBefore a b = true ↔ a.start < b.start ∨ (a.start = b.start ∧ a.number < b.number) := by
  simp [bookingBefore]

theorem insertBooking_ordered (h : l.Pairwise fun a b => bookingBefore a b = true) (hl : ∀ a ∈ l, a.number ≠ b.number) :
    (insertBooking b l).Pairwise fun a b => bookingBefore a b = true := by
  induction l with
  | nil => exact List.pairwise_singleton _ _
  | cons a l ih =>
    obtain ⟨ha, hrest⟩ := List.pairwise_cons.mp h
    unfold insertBooking
    split
    · rename_i hba
      refine List.pairwise_cons.mpr ⟨fun d hd => ?_, h⟩
      rcases List.mem_cons.mp hd with rfl | hd
      · exact hba
      · have had := bookingBefore_iff.mp (ha d hd)
        have hba := bookingBefore_iff.mp hba
        exact bookingBefore_iff.mpr (by omega)
    · rename_i hba
      refine List.pairwise_cons.mpr ⟨fun d hd => ?_, ih hrest fun d hd => hl d (List.mem_cons_of_mem a hd)⟩
      rcases mem_insertBooking.mp hd with rfl | hd
      · have hne := hl a List.mem_cons_self
        have hba := mt bookingBefore_iff.mpr hba
        exact bookingBefore_iff.mpr (by omega)
      · exact ha d hd

theorem conflicts_comm (a b : Booking) :
    conflicts a.crane a.cells a.start a.duration b = conflicts b.crane b.cells b.start b.duration a := by
  have hshare : shareCell a.cells b.cells = shareCell b.cells a.cells := by
    rw [Bool.eq_iff_iff]
    simp only [shareCell, List.any_eq_true, List.contains_iff_mem]
    exact ⟨fun ⟨x, h1, h2⟩ => ⟨x, h2, h1⟩, fun ⟨x, h1, h2⟩ => ⟨x, h2, h1⟩⟩
  unfold conflicts windowsMeet
  rw [hshare, Bool.and_comm (decide (a.start < _)), Bool.beq_comm]

/-- A booking with a fresh number that meets no other enters a book that is not full. -/
theorem bookBounded_bookWith (h : bookBounded k) (hlen : k.live.length < 96) (hfresh : ∀ a ∈ k.live, a.number ≠ b.number)
    (h1 : 1 ≤ b.number) (h2 : b.number ≤ 65535) (hlate : b.late < b.duration)
    (hconf : ∀ a ∈ k.live, conflicts b.crane b.cells b.start b.duration a = false) : bookBounded (bookWith k b) := by
  obtain ⟨-, hnodup, hrange, -, -, hord, hlates, hpair⟩ := h
  have hperm := insertBooking_perm b k.live
  have hnext : 1 ≤ numberAfter b.number ∧ numberAfter b.number ≤ 65535 := by
    unfold numberAfter
    split <;> omega
  refine ⟨?_, ?_, fun a ha => ?_, hnext.1, hnext.2, insertBooking_ordered hord hfresh, fun a ha => ?_, ?_⟩
  · exact hperm.length_eq.trans_le hlen
  · refine ((hperm.map (·.number)).nodup_iff).mpr (List.nodup_cons.mpr ⟨fun hm => ?_, hnodup⟩)
    obtain ⟨a, ha, hn⟩ := List.mem_map.mp hm
    exact hfresh a ha hn
  · rcases mem_insertBooking.mp ha with rfl | ha
    · exact ⟨h1, h2⟩
    · exact hrange a ha
  · rcases mem_insertBooking.mp ha with rfl | ha
    · exact hlate
    · exact hlates a ha
  · refine (hperm.pairwise_iff fun {a d} had => ?_).mpr (List.pairwise_cons.mpr ⟨hconf, hpair⟩)
    rw [← conflicts_comm]; exact had

theorem freeNumber_range {live : List Booking} {fuel n : Nat} (h1 : 1 ≤ n) (h2 : n ≤ 65535) :
    1 ≤ freeNumber live fuel n ∧ freeNumber live fuel n ≤ 65535 := by
  induction fuel generalizing n with
  | zero => exact ⟨h1, h2⟩
  | succ fuel ih =>
    rw [freeNumber_succ]
    split
    · refine ih ?_ ?_ <;> unfold numberAfter <;> split <;> omega
    · exact ⟨h1, h2⟩

end

/-! ### BOOK -/

section
variable {s : State} {p : Port} {c : Crane} {f : BookFields}

/-- What a BOOK that passes its checks is known to satisfy (R132 to R135). -/
theorem bookRefusal_none (h : bookRefusal s c f = none) : f.late < f.duration ∧ s.clock.count < f.start + f.late
    ∧ ∀ a ∈ s.book.live, conflicts c (bookCells f) f.start f.duration a = false := by
  unfold bookRefusal at h
  simp only [Option.orElse_eq_orElse, Option.orElse_eq_or, Option.or_eq_none_iff] at h
  obtain ⟨hfields, -, -, -, hlate, -, hover, -⟩ := h
  refine ⟨?_, ?_, fun a ha => ?_⟩
  · have hchecks := (bookFieldsFailing_spec f none).mpr (Option.map_eq_none_iff.mp hfields)
    obtain ⟨h1, hrest⟩ := hchecks
    by_contra hlt
    by_cases hdur : 60 ≤ f.duration ∧ f.duration ≤ 7200
    · cases (hrest hdur).1 hlt
    · cases h1 hdur
  · by_contra hlt
    unfold timeRefusal at hlate
    rw [if_pos (decide_eq_true (by omega))] at hlate
    cases hlate
  · have := List.find?_eq_none.mp (Option.map_eq_none_iff.mp hover) a ha
    exact Bool.eq_false_iff.mpr this

theorem bookKept_bookWith (hs : bookKept s) (h : bookRefusal s c f = none) :
    bookKept (s.setBook (bookWith s.book (bookingOf s p c f))) := by
  have hlen := length_of_bookRefusal h
  obtain ⟨hlate, -, hconf⟩ := bookRefusal_none h
  obtain ⟨h1, h2⟩ := freeNumber_range (live := s.book.live) (fuel := s.book.live.length + 1) hs.1.2.2.2.1 hs.1.2.2.2.2.1
  refine ⟨bookBounded_bookWith hs.1 hlen (numberGiven_free s.book hlen) h1 h2 hlate hconf, fun d => ⟨fun n hn => ?_, fun n hn => ?_⟩,
    fun x => cellClaimsDue_bookWith hlen (hs.2.2 x)⟩
  · obtain ⟨a, ha, hac, hau⟩ := (hs.2.1 d).1 n hn
    refine ⟨a, ?_, hac, hau⟩
    rw [Option.mem_def, booking_bookWith s p c f hlen, if_neg fun e => numberGiven_free s.book hlen a (booking_mem ha) ((booking_number ha).trans e)]
    exact ha
  · obtain ⟨a, ha, hac, hau⟩ := (hs.2.1 d).2 n hn
    refine ⟨a, ?_, hac, hau⟩
    rw [Option.mem_def, booking_bookWith s p c f hlen, if_neg fun e => numberGiven_free s.book hlen a (booking_mem ha) ((booking_number ha).trans e)]
    exact ha

end

end Laws
end Sys2Proof.Machine

/-! SUPPORT. The sound book (O7): every event keeps it. -/

namespace Sys2Proof.Machine.Laws

open Sys2Proof Sys2Proof.Machine

section
variable {s t u : State} {p : Port}

/-! ### Requests -/

theorem bookSound_of_kept (h : keptWith (timelyAt t.clock.count) t) : bookSound t :=
  bookSound_iff.mpr ⟨h.1, fun _ b hb => h.2 b hb⟩

theorem timely_of_sound (hs : bookSound s) (hr : s.phase = .running) : ∀ b ∈ s.book.live, timelyAt s.clock.count b :=
  (bookSound_iff.mp hs).2 hr

theorem kept_of_sound (hs : bookSound s) : bookKept s := (bookSound_iff.mp hs).1

/-- A change that leaves book, crane table, cells, clock and phase. -/
theorem bookSound_quiet (hb : t.book = s.book) (hk : t.cranes = s.cranes) (hc : t.cells = s.cells) (hp : t.phase = s.phase)
    (hclk : t.clock = s.clock) (hs : bookSound s) : bookSound t :=
  bookSound_same (SameBook_of hb hk hc) (fun h => ⟨hp ▸ h, congrArg Clock.count hclk⟩) hs

/-- A booking made DUE at its start leaves a sound book. -/
theorem bookSound_becomeDue {b : Booking} {former : Option BookState} (hs : bookKept s)
    (hothers : ∀ a ∈ s.book.live, a.number ≠ b.number → timelyAt s.clock.count a) (hb : s.booking b.number = some b)
    (hd : b.state ≠ .due) (hu : underWay b.state = false) (hstart : b.start ≤ s.clock.count)
    (hlate : s.clock.count < b.start + b.late) : bookSound (becomeDue s b.number former) := by
  have hk := becomeDue_kept (Q := timelyAt s.clock.count) (former := former) (fun a d h hm => timelyAt_moved h hm) hs hothers hb
    hd hu ⟨nofun, fun _ => hstart, fun _ => hlate⟩
  refine bookSound_of_kept ?_
  rw [clock_of_core (becomeDue_core s b.number former)]
  exact hk

/-- A BOOK past its checks leaves a sound book. -/
theorem bookSound_acceptBook {c : Crane} {f : BookFields} (hs : bookSound s) (hr : s.phase = .running)
    (h : bookRefusal s c f = none) : bookSound (acceptBook s p c f) := by
  have hlen := length_of_bookRefusal h
  have hkept := bookKept_bookWith (p := p) (kept_of_sound hs) h
  have htimely := timely_of_sound hs hr
  obtain ⟨-, hlate, -⟩ := bookRefusal_none h
  have hstate := bookingOf_state s p c f
  have hothers : ∀ a ∈ (s.setBook (bookWith s.book (bookingOf s p c f))).book.live,
      a.number ≠ (bookingOf s p c f).number → timelyAt s.clock.count a := fun a ha hn =>
    (mem_insertBooking.mp ha).elim (fun e => absurd (congrArg Booking.number e) hn) (htimely a)
  unfold acceptBook
  extract_lets b v st w
  refine bookSound_responded (show bookSound (if _ then _ else _) from ?_)
  split
  · rename_i hst
    have hdue : b.state = .booked ∧ b.start ≤ s.clock.count := by
      by_contra hnot
      have : st = b.state := if_neg hnot
      rw [this] at hst
      rcases hstate with e | e <;> rw [show b.state = _ from e] at hst <;> cases hst
    refine bookSound_compose s (bookSound_becomeDue hkept hothers ?_ ?_ ?_ hdue.2 hlate)
    · exact (booking_bookWith s p c f hlen _).trans (if_pos rfl)
    · rw [hdue.1]; nofun
    · rw [hdue.1]; rfl
  · rename_i hst
    refine bookSound_talks (talks_notifyBooking _ _ _) (bookSound_of_kept ⟨hkept, fun a ha => ?_⟩)
    rcases mem_insertBooking.mp ha with rfl | ha
    · refine ⟨fun e => ?_, fun e => ?_, fun _ => hlate⟩
      · by_contra hnot
        exact hst (if_pos ⟨e, not_lt.mp hnot⟩)
      · rcases hstate with k | k <;> rw [k] at e <;> cases e
    · exact htimely a ha

theorem bookSound_acceptRuling {b : Booking} (hs : bookSound s) (hr : s.phase = .running)
    (hb : s.booking b.number = some b) (hst : b.state = .referred) : bookSound (acceptRuling s b) := by
  have htimely := timely_of_sound hs hr
  have hne : b.state ≠ .due := by rw [hst]; nofun
  have hu : underWay b.state = false := by rw [hst]; rfl
  have hlate := (htimely b (booking_mem hb)).2.2 (.inr hst)
  unfold acceptRuling
  split
  · exact bookSound_compose s (bookSound_becomeDue (kept_of_sound hs) (fun a ha _ => htimely a ha) hb hne hu ‹_› hlate)
  · refine bookSound_talks (talks_notifyBooking _ _ _) (bookSound_of_kept ⟨bookKept_modBooking (fun _ => rfl)
      (kept_of_sound hs) hb hne hu, fun a ha => ?_⟩)
    obtain ⟨d, hd, rfl⟩ := List.mem_map.mp ha
    split
    · rename_i hn
      obtain rfl := eq_of_mem_of_number (kept_of_sound hs).1 hd hb hn
      exact ⟨fun _ => not_le.mp ‹_›, nofun, fun _ => hlate⟩
    · exact htimely d hd

theorem bookSound_acceptClock (hs : bookSound s) (hr : s.phase = .running) (v : Nat) : bookSound (acceptClock s p v) := by
  have hkept : bookKept (clockTakes s v) := bookKept_same (s := s) (SameBook_of rfl rfl rfl) (kept_of_sound hs)
  have htimely : ∀ b ∈ (clockTakes s v).book.live, timelyAt s.clock.count b := timely_of_sound hs hr
  have hjudged := judgeBook_kept (now := v) hkept htimely
  have hcore := judgeBook_core s.clock.count v (clockTakes s v)
  unfold acceptClock
  dsimp only
  generalize (judgeBook s.clock.count v (clockTakes s v)).1 = w at hjudged hcore ⊢
  refine bookSound_responded (bookSound_talks (talks_notifyClass _ _ _) (bookSound_compose s (bookSound_of_kept ?_)))
  rw [clock_of_core hcore]
  exact hjudged

theorem bookSound_acceptCancel {b : Booking} (hs : bookSound s) (hb : s.booking b.number = some b) :
    bookSound (acceptCancel s p b) := by
  unfold acceptCancel
  extract_lets v
  have hserves : Serves s (endBooking v b .cancelledRequest (some p)) := by
    by_cases hd : b.state = .due
    · rw [show v = withdrawClaims s b from if_pos hd]
      exact serves_withdraw_endBooking _ _ hb
    · rw [show v = s from if_neg hd]
      exact serves_endBooking_of_not_due _ _ hb hd
  exact bookSound_responded (bookSound_conclude s (bookSound_serves hserves hs))

/-- A booking under way ends with its release. -/
theorem serves_release {b : Booking} (hb : s.booking b.number = some b) (hu : underWay b.state = true) (o : BookOutcome)
    (q : Option Port) : Serves s (bookingRelease s b none o q) :=
  serves_bookingRelease none o q hb fun hs => lacksClaim_of_not_due hs hb fun e => by rw [e] at hu; cases hu

theorem bookSound_endLift {c : Crane} {b : Booking} (hs : bookSound s) (hb : liftOf s c = some b) :
    bookSound (endLift s p b) := by
  obtain ⟨hbind, hin⟩ := Option.filter_eq_some_iff.mp hb
  obtain ⟨n, -, hn⟩ := Option.bind_eq_some_iff.mp hbind
  have hself := booking_self hn
  have hu : underWay b.state = true := by
    cases hst : b.state <;> rw [hst] at hin <;> first | rfl | cases hin
  unfold endLift
  split
  · exact bookSound_responded (bookSound_conclude s (bookSound_serves (serves_moveBooking hself hu rfl) hs))
  · exact bookSound_responded (bookSound_conclude s (bookSound_serves (serves_release hself hu _ _) hs))

/-- Every effect of a request of a running part leaves a sound book. -/
theorem Performed.sound (h : Performed p s t) (hr : s.phase = .running) (hs : bookSound s) : bookSound t := by
  cases h with
  | ignored => exact hs
  | responded r => exact bookSound_responded hs
  | readStatus r => exact bookSound_responded (bookSound_quiet (s := s) rfl rfl rfl rfl rfl hs)
  | masked m r => exact bookSound_responded (bookSound_quiet (s := s) rfl rfl rfl rfl rfl hs)
  | reported c d r hp hd =>
    exact bookSound_conclude s (bookSound_serves ((((serves_storeReport s c d r).trans (serves_fullComputation _ _)).trans
      (serves_formTouch _ _)).trans (serves_touchService _ _ _ _)) hs)
  | entered c x h =>
    unfold acceptEnter
    split
    · rename_i hg
      exact bookSound_responded (bookSound_conclude s (bookSound_serves
        ((serves_grantFree (Bool.and_eq_true_iff.mp hg).2 .entry .enter).trans (serves_notify _ _ _)) hs))
    · exact bookSound_responded (bookSound_conclude s (bookSound_serves (serves_placeRequest s c x) hs))
  | left c x h =>
    exact bookSound_responded (bookSound_conclude s (bookSound_serves
      ((serves_releaseCell s x .leave).trans (serves_tellLeft _ _ _ _)) hs))
  | booked c f h => exact bookSound_acceptBook hs hr h
  | cancelled n b hb hu => exact bookSound_acceptCancel hs (booking_self hb)
  | ended c b hp hb => exact bookSound_endLift hs hb
  | dutyChanged k c d hd =>
    rw [changeDuty_eq]
    exact bookSound_responded (bookSound_talks (talks_notifyBoth _ _ _ _)
      (bookSound_compose s (bookSound_serves (serves_dutyServed s c d) hs)))
  | authorityGiven y m r =>
    exact bookSound_responded (bookSound_talks ((talks_notify _ _ _).trans (talks_notify _ _ _))
      (bookSound_quiet (s := s) (t := { s with holder := y }) rfl rfl rfl rfl rfl hs))
  | forced x g hg r =>
    exact bookSound_responded (bookSound_conclude s (bookSound_serves (serves_forceFree s x g) hs))
  | manualPlaced k c m =>
    unfold answerInhibit placeManual
    extract_lets old v
    refine bookSound_responded ?_
    have hv : bookSound v := bookSound_compose s (bookSound_serves (serves_modOut s c _) hs)
    split
    · exact hv
    · exact bookSound_talks (talks_notifyClass _ _ _) hv
  | signalSet l g r =>
    exact bookSound_responded (bookSound_talks (talks_notifyClass _ _ _) (bookSound_quiet (s := s) rfl rfl rfl rfl rfl hs))
  | edgesSelected c i e r =>
    refine bookSound_responded (bookSound_serves ?_ hs)
    cases i
    · exact serves_modCrane (f := fun k => { k with parkSel := e }) (fun _ => id) fun _ => id
    · exact serves_modCrane (f := fun k => { k with vaneSel := e }) (fun _ => id) fun _ => id
  | ruled n b a hb hst =>
    have hself := booking_self hb
    unfold giveRuling
    split
    · exact bookSound_responded (bookSound_acceptRuling hs hr hself hst)
    · exact bookSound_responded (bookSound_conclude s (bookSound_serves
        (serves_endBooking_of_not_due _ _ hself (by rw [hst]; nofun)) hs))
  | released n b o q r hb hu =>
    exact bookSound_responded (bookSound_conclude s (bookSound_serves (serves_release (booking_self hb) hu _ _) hs))
  | clockSet y v hp => exact bookSound_acceptClock hs hr v
  | siteStopped y hp r =>
    obtain ⟨w, hw⟩ := passes_siteStops s
    exact bookSound_responded (bookSound_conclude s (bookSound_serves hw (bookSound_setWind w hs)))
  | flagCleared r =>
    exact bookSound_responded (bookSound_talks (talks_announceWind _ _) (bookSound_setWind _ hs))
  | resumed y hp r hv =>
    exact bookSound_responded (bookSound_conclude s (bookSound_serves (serves_announceWind _ s.wind.state)
      (bookSound_setWind (windMoved s.wind .hold s.wind.cause none) hs)))
  | windSet k q r =>
    exact bookSound_responded (bookSound_talks (talks_notifyClass _ _ _) (bookSound_quiet (s := s) rfl rfl rfl rfl rfl hs))
  | calSet k q r =>
    exact bookSound_responded (bookSound_talks (talks_notifyClass _ _ _) (bookSound_quiet (s := s) rfl rfl rfl rfl rfl hs))
  | staged m v r => exact bookSound_responded (bookSound_quiet (s := s) rfl rfl rfl rfl rfl hs)
  | committed h =>
    unfold decideCommit
    extract_lets cells
    split
    · exact bookSound_responded (bookSound_compose s (bookSound_serves (serves_activate _ _) hs))
    · exact bookSound_responded (bookSound_talks (talks_notifyClass _ _ _) (bookSound_quiet (s := s) rfl rfl rfl rfl rfl hs))
  | commitCancelled r =>
    exact bookSound_responded (bookSound_conclude s (bookSound_serves
      ((serves_setMap s _).trans (serves_notifyClass _ _ _)) hs))

/-! ### The machine's own events -/

theorem startedState_keeps {γ : Type} (g : State → γ) (ha : ∀ u, g (applySignals u) = g u)
    (he : ∀ u c f, g (State.modEnv u c f) = g u) (ho : ∀ u c f, g (State.modOut u c f) = g u) (s : State) :
    g (startedState s) = g (loadState s) := by
  unfold startedState
  rw [ha, foldl_composeQuiet_keeps g ho, foldl_formTouch_keeps g he]

theorem startUp_cranes (s : State) : (startUp s).cranes = (startedState s).cranes := by
  rw [startUp_eq, transmit_cranes]
  rfl

theorem startUp_book (s : State) : (startUp s).book = (startedState s).book := by
  rw [startUp_eq, transmit_book]
  rfl

/-- A start-up leaves an empty book (R129, R143). -/
theorem bookSound_startUp (s : State) : bookSound (startUp s) := by
  have hbook : (startUp s).book = ⟨[], 1⟩ :=
    (startUp_book s).trans (startedState_keeps State.book (fun _ => rfl) (fun _ _ _ => rfl) (fun _ _ _ => rfl) s)
  have hcranes : (startUp s).cranes = (loadState s).cranes :=
    (startUp_cranes s).trans (startedState_keeps State.cranes (fun _ => rfl) (fun _ _ _ => rfl) (fun _ _ _ => rfl) s)
  have hcrane : ∀ c, ((startUp s).crane c).lift = none ∧ ((startUp s).crane c).due = none := fun c => by
    have : (startUp s).crane c = craneAt s.cause (mapAt s.cause s.map s.store).active c (s.crane c) := by
      unfold State.crane
      rw [hcranes]
      simp [loadState, State.crane]
    rw [this]
    exact ⟨rfl, rfl⟩
  have hcell : ∀ x, (startUp s).cell x = CellRec.reset := fun x => by
    unfold State.cell
    rw [(unmoved_started s).cells, startedState_cells]
    simp
  refine bookSound_iff.mpr ⟨⟨?_, fun c => ⟨fun n hn => ?_, fun n hn => ?_⟩, fun x => ⟨fun n hn => ?_, fun e he => ?_⟩⟩,
    fun _ b hb => ?_⟩
  · rw [hbook]
    exact ⟨by decide, List.nodup_nil, nofun, by decide, by decide, List.Pairwise.nil, nofun, List.Pairwise.nil⟩
  · rw [(hcrane c).1] at hn; cases hn
  · rw [(hcrane c).2] at hn; cases hn
  · rw [hcell] at hn; cases hn
  · rw [hcell] at he; cases he
  · rw [hbook] at hb; cases hb

theorem bookSound_second (hs : bookSound s) (hr : s.phase = .running) : bookSound (secondPasses s) := by
  unfold secondPasses
  split
  · have hkept : bookKept (s.setClock ⟨s.clock.count + 1, true, 1000⟩) :=
      bookKept_same (s := s) (SameBook_of rfl rfl rfl) (kept_of_sound hs)
    have hdue : ∀ b ∈ (s.setClock ⟨s.clock.count + 1, true, 1000⟩).book.live, b.state = .due → b.start ≤ s.clock.count + 1 :=
      fun b hb e => ((timely_of_sound hs hr b hb).2.1 e).trans (Nat.le_succ _)
    have hjudged := secondChecks_kept hkept hdue
    have hcore := secondChecks_core (s.clock.count + 1) (s.setClock ⟨s.clock.count + 1, true, 1000⟩)
    generalize secondChecks (s.clock.count + 1) (s.setClock ⟨s.clock.count + 1, true, 1000⟩) = w at hjudged hcore ⊢
    refine bookSound_compose s (bookSound_of_kept ?_)
    rw [clock_of_core hcore]
    exact hjudged
  · exact hs

theorem bookSound_sample (hs : bookSound s) : bookSound (takeSample s) := by
  rw [takeSample_eq]
  obtain ⟨w, hw⟩ := passes_applyStep (sampleTold s) (sampleStep s)
  have hkeeps := fun {γ : Type} (g : State → γ) => sampleTold_keeps s g
  refine bookSound_conclude s (bookSound_serves hw (bookSound_setWind w (bookSound_quiet (s := s) ?_ ?_ ?_ ?_ ?_ hs)))
  · exact hkeeps State.book (fun _ _ => rfl) (fun _ _ => rfl) fun _ _ => rfl
  · exact hkeeps State.cranes (fun _ _ => rfl) (fun _ _ => rfl) fun _ _ => rfl
  · exact hkeeps State.cells (fun _ _ => rfl) (fun _ _ => rfl) fun _ _ => rfl
  · exact hkeeps State.phase (fun _ _ => rfl) (fun _ _ => rfl) fun _ _ => rfl
  · exact hkeeps State.clock (fun _ _ => rfl) (fun _ _ => rfl) fun _ _ => rfl

theorem bookSound_parkTimer (hs : bookSound s) : bookSound (parkTimerEnds s) := by
  unfold parkTimerEnds
  split
  · exact bookSound_conclude s (bookSound_serves ((serves_announceWind _ _).trans (serves_foldl serves_tellNotParked _ _))
      (bookSound_setWind (windMoved s.wind .vane .timeout none) hs))
  · exact hs

theorem bookSound_written (hs : bookSound s) (good : Bool) : bookSound (writeEnds good s) := by
  unfold writeEnds
  split
  · exact hs
  · extract_lets k
    split
    · exact bookSound_quiet (s := s) rfl rfl rfl rfl rfl hs
    · split
      · exact bookSound_talks (talks_notifyClass _ _ _) (bookSound_quiet (s := s) rfl rfl rfl rfl rfl hs)
      · exact bookSound_quiet (s := s) rfl rfl rfl rfl rfl hs

theorem bookSound_dropLink (hs : bookSound s) (c : Crane) (l : LinkState) : bookSound (dropLink s c l) :=
  bookSound_conclude s (bookSound_serves ((((serves_setLink s c l).trans (serves_formTouch _ _)).trans
    (serves_touchService _ _ _ _)).trans (serves_withdrawRequests _ _ _)) hs)

/-- Ten milliseconds leave the book and the clock value (R161). -/
theorem bookSound_tick (hs : bookSound s) : bookSound (tick s) := by
  have hclock : ∀ k : Clock, (tickClock k).count = k.count := fun k => by
    unfold tickClock; split <;> rfl
  unfold tick
  split
  · rename_i hr
    refine bookSound_same (s := s) ⟨rfl, fun c => ?_, fun c => ?_, fun x => ?_, fun x e he => ?_⟩
      (fun _ => ⟨hr, hclock s.clock⟩) hs
    · rw [tickRunning_crane]; rfl
    · rw [tickRunning_crane]; rfl
    · rw [tickRunning_cell]; rfl
    · rw [tickRunning_cell] at he
      obtain ⟨a, ha, rfl⟩ := List.mem_map.mp he
      cases a with
      | claim => exact .inr ha
      | entry => exact .inl rfl
      | auto => exact .inl rfl
  · exact bookSound_same (s := s) (SameBook_of rfl rfl rfl) (fun h => ⟨h, hclock s.clock⟩) hs
  · exact hs

theorem Event.sound (h : Event s t) (hs : bookSound s) : bookSound t := by
  cases h with
  | queued l => exact bookSound_quiet (s := s) rfl rfl rfl rfl rfl hs
  | transmitted =>
    exact bookSound_quiet (transmit_book s) (transmit_cranes s) (transmit_cells s) (transmit_phase s) (transmit_clock s) hs
  | received p r => exact bookSound_quiet (s := s) rfl rfl rfl rfl rfl hs
  | buffered p f => exact bookSound_quiet (s := s) rfl rfl rfl rfl rfl hs
  | taken p f l => exact bookSound_quiet (s := s) rfl rfl rfl rfl rfl hs
  | performed _ p hr h => exact h.sound hr hs
  | responseSent p => exact bookSound_quiet (s := s) rfl rfl rfl rfl rfl hs
  | restartAwaited => exact bookSound_quiet (s := s) rfl rfl rfl rfl rfl hs
  | noticeSent p => exact bookSound_quiet (s := s) rfl rfl rfl rfl rfl hs
  | resetTaken k => exact bookSound_same (s := s) (SameBook_of rfl rfl rfl) nofun hs
  | supplyFailed b => exact bookSound_same (s := s) (SameBook_of rfl rfl rfl) nofun hs
  | startedUp => exact bookSound_startUp s
  | secondCounted h =>
    unfold countSecond
    split
    · refine bookSound_same (s := s) (SameBook_of rfl rfl rfl) (fun hr => ?_) hs
      rw [show s.phase = .running from hr] at h
      cases h
    · exact hs
  | written good => exact bookSound_written hs good
  | parkSw c b hr =>
    unfold parkSwTaken
    extract_lets k v
    split
    · exact hs
    · have hv : Serves s v := serves_modCrane (fun _ => id) fun _ => id
      exact bookSound_compose s (bookSound_serves ((hv.trans (serves_tellEdge _ _ _ _ _ _)).trans (serves_tellParkLost _ _ _)) hs)
  | vaneFb c b hr =>
    unfold vaneFbTaken
    extract_lets k v
    split
    · exact hs
    · have hv : Serves s v := serves_modCrane (fun _ => id) fun _ => id
      exact bookSound_compose s (bookSound_serves ((hv.trans (serves_tellEdge _ _ _ _ _ _)).trans (serves_feedbackEvent _ _ _)) hs)
  | takeKey k => exact bookSound_quiet (s := s) rfl rfl rfl rfl rfl hs
  | pulsed ch n => exact bookSound_quiet (s := s) rfl rfl rfl rfl rfl hs
  | sampled hr => exact bookSound_sample hs
  | parkTimer hr => exact bookSound_parkTimer hs
  | silence c hr =>
    unfold silenceEnds
    split
    · exact bookSound_dropLink hs c _
    · exact hs
  | lost c hr =>
    unfold lostEnds
    split
    · exact bookSound_dropLink hs c _
    · exact hs
  | waitTimer x c hr =>
    unfold waitEnds
    split
    · exact bookSound_conclude s (bookSound_serves ((serves_filterList s x _).trans (serves_notify _ _ _)) hs)
    · exact hs
  | recallTimer x hr =>
    unfold recallEnds
    split
    · exact bookSound_conclude s (bookSound_serves ((serves_modCell_list rfl (claimsWithin_of_sublist rfl fun _ => id)).trans
        (serves_tellOverdue _ x)) hs)
    · exact hs
  | second hr => exact bookSound_second hs hr
  | commitTimer hr =>
    unfold commitTimerEnds
    split
    · exact bookSound_conclude s (bookSound_serves ((serves_setMap s _).trans (serves_notifyClass _ _ _)) hs)
    · exact hs
  | feedbackTimer c hr =>
    unfold feedbackTimerEnds
    split
    · exact hs
    · extract_lets v
      have hv : Serves s v := (serves_modCrane (f := fun r => { r with vaneFault := true }) (fun _ => id) fun _ => id).trans
        (serves_modOut _ c _)
      exact bookSound_compose s (bookSound_serves (hv.trans (serves_notifyBoth _ _ _ _)) hs)
  | pulseStopped l => exact bookSound_quiet (s := s) rfl rfl rfl rfl rfl hs
  | flashTurned l => exact bookSound_quiet (s := s) rfl rfl rfl rfl rfl hs
  | ticked => exact bookSound_tick hs

end

/-- Settles O7: every event of a step keeps the book sound. -/
theorem bookStaysBounded : Obligations.BookStaysBounded := fun _ _ hs hst =>
  step_keeps (fun _ _ => Event.sound) hs hst

end Sys2Proof.Machine.Laws

/-! SUPPORT. An activation (R14) up to the touch sets: what the map, the book, the cranes and the envelopes are then. -/

namespace Sys2Proof.Machine

/-- Steps 1 and 2 of an activation, before the map changes. -/
def mapCleared (s : State) (cells : List CellNo) : State :=
  let t := cells.foldl (disposeCell s.map.active s.map.staged) s
  (bookingsWhere t (cancelledByMap s.map.active s.map.staged cells)).foldl cancelForMap t

/-- The staged map taken as the active one. -/
def mapTaken (s : State) (cells : List CellNo) : State :=
  let t := mapCleared s cells
  t.setMap { t.map with active := some s.map.staged, params := t.map.stagedParams }

/-- The removed cranes dropped, and the reports clamped to the new declarations. -/
def cranesTaken (s : State) (cells : List CellNo) : State :=
  allCranes.foldl reclamp (allCranes.foldl (dropCrane s.map.active) (mapTaken s cells))

/-- The times since last report compared with limits that have changed (R31). -/
def limitsTaken (s : State) (cells : List CellNo) : State :=
  let t := cranesTaken s cells
  if limitsChanged s.map.params t.map.params then allCranes.foldl compareLimits t else t

/-- The touch sets formed for the new map (R15). -/
def touchesTaken (s : State) (cells : List CellNo) : State :=
  allCranes.foldl formTouch (allCranes.foldl (adjustReport s.map.staged cells) (limitsTaken s cells))

/-- The touch sets handed to the cell table. -/
def touchesHanded (s : State) (cells : List CellNo) : State := allCranes.foldl (handTouch s) (touchesTaken s cells)

/-- The map unit after an activation. -/
def MapUnit.activated (m : MapUnit) : MapUnit :=
  { active := some m.staged, params := m.stagedParams, staged := m.staged, stagedParams := m.stagedParams,
    commit := .idle, draining := Vector.replicate 64 false }

/-- The number is that of a booking that the activation cancels. -/
def cancelsNumber (s : State) (cells : List CellNo) (n : Nat) : Prop :=
  ∃ d ∈ s.book.live, cancelledByMap s.map.active s.map.staged cells d = true ∧ d.number = n

/-- The map unit, the wind record and the store. -/
def plantOf (s : State) : MapUnit × WindRec × Store := (s.map, s.wind, s.store)

namespace Laws

/-! ### Crane by crane -/

/-- What the turn of one crane brings about, and the other turns neither need nor undo, holds after all of them. -/
theorem allCranes_at {f : State → Crane → State} {P Q : State → Prop} (c : Crane) {v : State}
    (hbefore : ∀ w d, d ≠ c → P w → P (f w d)) (hturn : ∀ w, P w → Q (f w c)) (hafter : ∀ w d, d ≠ c → Q w → Q (f w d))
    (hv : P v) : Q (allCranes.foldl f v) := by
  obtain ⟨l1, l2, hl⟩ := List.mem_iff_append.mp (mem_allCranes c)
  have hnd : (l1 ++ c :: l2).Nodup := hl ▸ List.nodup_finRange 8
  obtain ⟨-, h2, h12⟩ := List.nodup_append.mp hnd
  have hfold : ∀ (R : State → Prop), (∀ w d, d ≠ c → R w → R (f w d)) → ∀ l : List Crane, c ∉ l → ∀ w, R w →
      R (l.foldl f w) := fun R hR l hcl => by
    induction l with
    | nil => exact fun _ h => h
    | cons d l ih =>
      obtain ⟨hd, hcl⟩ := not_or.mp (mt List.mem_cons.mpr hcl)
      exact fun w hw => ih hcl _ (hR w d (Ne.symm hd) hw)
  rw [hl, List.foldl_append, List.foldl_cons]
  refine hfold Q hafter l2 (List.nodup_cons.mp h2).1 _ (hturn _ (hfold P hbefore l1 (fun h => ?_) v hv))
  exact h12 c h c List.mem_cons_self rfl

/-! ### The activation in stages -/

section
variable (s : State) (cells : List CellNo)

theorem activateMap_eq : activateMap s cells = abandonCommit (touchesHanded s cells) := by
  unfold activateMap
  extract_lets s0 old new a b k c d e f g h i
  have hc : c = mapTaken s cells := rfl
  have he : e = cranesTaken s cells := by rw [cranesTaken, ← hc]
  have hf : f = limitsTaken s cells := by rw [limitsTaken, ← he]
  have hh : h = touchesTaken s cells := by rw [touchesTaken, ← hf]
  have hi : i = touchesHanded s cells := by rw [touchesHanded, ← hh]
  rw [← hi]
  rfl

theorem activate_eq : activate s cells = allCranes.foldl composeVaneNow
    (parkingTest (announceMap (eventServed s (activateMap s cells)) cells.length
      (bookingsWhere s (cancelledByMap s.map.active s.map.staged cells)).length)) := by
  simp only [activate, eventServed]

theorem abandonCommit_map (t : State) :
    (abandonCommit t).map = { t.map with commit := .idle, draining := Vector.replicate 64 false } := rfl

theorem abandonCommit_book (t : State) : (abandonCommit t).book = t.book := rfl

theorem abandonCommit_wind (t : State) : (abandonCommit t).wind = t.wind := rfl

theorem abandonCommit_store (t : State) : (abandonCommit t).store = t.store := rfl

/-! ### Steps 1 and 2 -/

theorem disposeCell_sansCells (a : Option MapBody) (m : MapBody) (s : State) (x : CellNo) :
    (disposeCell a m s x).sansCells = s.sansCells := by
  unfold disposeCell
  split <;> rfl

theorem cancelForMap_sansBook (s : State) (n : Nat) : (cancelForMap s n).sansBook = s.sansBook := by
  unfold cancelForMap
  split <;> simp

theorem mapCleared_sansBook : (mapCleared s cells).sansBook = s.sansBook := by
  unfold mapCleared
  extract_lets t
  have ht : t.sansCells = s.sansCells := foldl_keeps State.sansCells _ (disposeCell_sansCells _ _) _ _
  exact (foldl_keeps State.sansBook _ cancelForMap_sansBook _ _).trans (sansBook_of ht)

theorem cancelForMap_live (s : State) (n : Nat) :
    (cancelForMap s n).book.live = s.book.live.filter fun b => !(b.number == n) := by
  unfold cancelForMap
  split
  · rename_i b hb
    rw [endBooking_live, withdrawClaims_book, booking_number hb]
    rfl
  · rename_i hb
    refine (List.filter_eq_self.mpr fun b hm => ?_).symm
    have := List.find?_eq_none.mp hb b hm
    simpa using this

theorem foldl_cancelForMap_live (l : List Nat) (s : State) :
    (l.foldl cancelForMap s).book.live = s.book.live.filter fun b => !l.contains b.number := by
  induction l generalizing s with
  | nil => simp
  | cons n l ih =>
    rw [List.foldl_cons, ih, cancelForMap_live, List.filter_filter]
    refine List.filter_congr fun b _ => ?_
    rw [List.contains_cons, Bool.not_or, Bool.and_comm]

theorem mem_cancelled (n : Nat) :
    n ∈ bookingsWhere s (cancelledByMap s.map.active s.map.staged cells) ↔ cancelsNumber s cells n := by
  unfold bookingsWhere cancelsNumber
  simp [List.mem_map, List.mem_filter, and_assoc]

/-- The bookings after step 2 are those whose numbers it does not cancel. -/
theorem mapCleared_live (b : Booking) : b ∈ (mapCleared s cells).book.live
    ↔ b ∈ s.book.live ∧ ¬cancelsNumber s cells b.number := by
  unfold mapCleared
  extract_lets t
  have ht : t.book = s.book := foldl_keeps State.book _ (disposeCell_book _ _) _ _
  have hw : bookingsWhere t (cancelledByMap s.map.active s.map.staged cells)
      = bookingsWhere s (cancelledByMap s.map.active s.map.staged cells) := by unfold bookingsWhere; rw [ht]
  rw [hw, foldl_cancelForMap_live, List.mem_filter, ht, ← mem_cancelled]
  simp

theorem mapCleared_cancelled {n : Nat} (h : cancelsNumber s cells n) : (mapCleared s cells).booking n = none := by
  refine List.find?_eq_none.mpr fun b hb hn => ?_
  exact ((mapCleared_live s cells b).mp hb).2 (by rwa [eq_of_beq hn])

theorem mapCleared_booking {n : Nat} (h : ¬cancelsNumber s cells n) : (mapCleared s cells).booking n = s.booking n := by
  unfold mapCleared
  extract_lets t
  have ht : t.book = s.book := foldl_keeps State.book _ (disposeCell_book _ _) _ _
  have hw : bookingsWhere t (cancelledByMap s.map.active s.map.staged cells)
      = bookingsWhere s (cancelledByMap s.map.active s.map.staged cells) := by unfold bookingsWhere; rw [ht]
  unfold State.booking
  rw [hw, foldl_cancelForMap_live, ht, List.find?_filter]
  congr 1
  funext b
  by_cases hb : b.number = n
  · subst hb
    have : ¬b.number ∈ bookingsWhere s (cancelledByMap s.map.active s.map.staged cells) :=
      fun k => h ((mem_cancelled s cells _).mp k)
    simp [this]
  · simp [hb]

theorem mapTaken_map : (mapTaken s cells).map = { s.map with active := some s.map.staged, params := s.map.stagedParams } := by
  have h := map_of_sansBook (mapCleared_sansBook s cells)
  show ({ (mapCleared s cells).map with active := some s.map.staged, params := (mapCleared s cells).map.stagedParams } : MapUnit) = _
  rw [h]

theorem mapTaken_wind : (mapTaken s cells).wind = s.wind := by
  unfold mapTaken
  exact (setMap_wind _ _).trans (wind_of_sansBook (mapCleared_sansBook s cells))

theorem mapTaken_store : (mapTaken s cells).store = s.store := by
  unfold mapTaken
  exact (setMap_store _ _).trans (store_of_sansBook (mapCleared_sansBook s cells))

end

/-! ### The map, the wind and the store through the stages -/

theorem plantOf_talks {s t : State} (h : s.sansNotices = t.sansNotices) : plantOf s = plantOf t :=
  of_sansNotices plantOf h fun _ => rfl

theorem plantOf_sansCells {s t : State} (h : s.sansCells = t.sansCells) : plantOf s = plantOf t :=
  of_sansCells plantOf h fun _ => rfl

theorem of_plantOf {s t : State} (h : plantOf s = plantOf t) : s.map = t.map ∧ s.wind = t.wind ∧ s.store = t.store := by
  simpa only [plantOf, Prod.mk.injEq] using h

theorem dropCrane_plant (a : Option MapBody) (s : State) (c : Crane) : plantOf (dropCrane a s c) = plantOf s := by
  unfold dropCrane
  extract_lets fault u v w
  split
  · split
    · exact (plantOf_talks (notifyBoth_sansNotices _ _ _ _)).trans rfl
    · rfl
  · rfl

theorem reclamp_plant (s : State) (c : Crane) : plantOf (reclamp s c) = plantOf s := by
  unfold reclamp
  split <;> rfl

theorem setLink_plant (s : State) (c : Crane) (l : LinkState) : plantOf (setLink s c l) = plantOf s :=
  (plantOf_talks (notifyClass_sansNotices _ _ _)).trans rfl

theorem compareLimits_plant (s : State) (c : Crane) : plantOf (compareLimits s c) = plantOf s := by
  unfold compareLimits
  extract_lets k
  split
  · rfl
  · split
    · exact (plantOf_sansCells (withdrawRequests_sansCells _ _ _)).trans (setLink_plant _ _ _)
    · split
      · exact setLink_plant _ _ _
      · rfl

theorem adjustReport_plant (m : MapBody) (l : List CellNo) (s : State) (c : Crane) :
    plantOf (adjustReport m l s c) = plantOf s := by
  unfold adjustReport
  extract_lets k
  split <;> rfl

theorem formTouch_plant (s : State) (c : Crane) : plantOf (formTouch s c) = plantOf s := rfl

section
variable (s : State) (cells : List CellNo)

theorem droppedCranes_plant : plantOf (allCranes.foldl (dropCrane s.map.active) (mapTaken s cells)) = plantOf (mapTaken s cells) :=
  foldl_keeps plantOf _ (dropCrane_plant _) _ _

theorem cranesTaken_plant : plantOf (cranesTaken s cells) = plantOf (mapTaken s cells) :=
  (foldl_keeps plantOf _ reclamp_plant _ _).trans (droppedCranes_plant s cells)

theorem limitsTaken_plant : plantOf (limitsTaken s cells) = plantOf (mapTaken s cells) := by
  unfold limitsTaken
  extract_lets t
  split
  · exact (foldl_keeps plantOf _ compareLimits_plant _ _).trans (cranesTaken_plant s cells)
  · exact cranesTaken_plant s cells

theorem touchesTaken_plant : plantOf (touchesTaken s cells) = plantOf (mapTaken s cells) :=
  ((foldl_keeps plantOf _ formTouch_plant _ _).trans (foldl_keeps plantOf _ (adjustReport_plant _ _) _ _)).trans
    (limitsTaken_plant s cells)

theorem touchesHanded_sansCells : (touchesHanded s cells).sansCells = (touchesTaken s cells).sansCells :=
  foldl_keeps State.sansCells _ (fun w c => touchService_sansCells w c _ false) _ _

theorem touchesTaken_book : (touchesTaken s cells).book = (mapCleared s cells).book := by
  have hlimits : (limitsTaken s cells).book = (mapTaken s cells).book := by
    have hcranes : (cranesTaken s cells).book = (mapTaken s cells).book :=
      (foldl_keeps State.book _ reclamp_book _ _).trans (foldl_keeps State.book _ (dropCrane_book _) _ _)
    unfold limitsTaken
    extract_lets t
    split
    · exact (foldl_keeps State.book _ compareLimits_book _ _).trans hcranes
    · exact hcranes
  exact ((foldl_keeps State.book _ formTouch_book _ _).trans (foldl_keeps State.book _ (adjustReport_book _ _) _ _)).trans
    hlimits

/-- The map, the wind and the store that an activation leaves (R14). -/
theorem activateMap_plant : (activateMap s cells).map = s.map.activated ∧ (activateMap s cells).wind = s.wind
    ∧ (activateMap s cells).store = s.store := by
  have h : plantOf (touchesHanded s cells) = plantOf (mapTaken s cells) :=
    (plantOf_sansCells (touchesHanded_sansCells s cells)).trans (touchesTaken_plant s cells)
  obtain ⟨hmap, hwind, hstore⟩ := of_plantOf h
  rw [activateMap_eq, abandonCommit_map, abandonCommit_wind, abandonCommit_store, hmap, hwind, hstore, mapTaken_map]
  exact ⟨rfl, mapTaken_wind s cells, mapTaken_store s cells⟩

theorem activateMap_book : (activateMap s cells).book = (mapCleared s cells).book :=
  (congrArg State.book (activateMap_eq s cells)).trans ((abandonCommit_book _).trans
    ((book_of_sansCells (touchesHanded_sansCells s cells)).trans (touchesTaken_book s cells)))

end

end Laws
end Sys2Proof.Machine

/-! SUPPORT. The cranes and their touch sets at an activation (R14 step 3, R15, R31). -/

namespace Sys2Proof.Machine

/-- No link is LIVE that was not before. -/
def linksFallen (s t : State) : Prop := ∀ c, (t.crane c).link = .live → (s.crane c).link = .live

/-- The report set that an activation leaves a crane with the link (R15, R53). -/
def reportKept (s : State) (cells : List CellNo) (c : Crane) (l : LinkState) : Option (List CellNo) :=
  (s.env c).reportSet.map (adjustedSet s.map.staged cells c l)

namespace Laws

/-! ### One crane's turn -/

section
variable {s : State} {c d : Crane}

theorem declared_of_map {s t : State} (h : t.map = s.map) (c : Crane) : t.declared c = s.declared c := by
  unfold State.declared; rw [decl_of_map h]

theorem map_of_plantOf {s t : State} (h : plantOf s = plantOf t) : s.map = t.map := (of_plantOf h).1

/-- The crane's declaration is removed (R14). -/
def isRemoved (a : Option MapBody) (s : State) (c : Crane) : Prop := (declIn a c).isSome = true ∧ s.declared c = false

theorem dropCrane_kept {a : Option MapBody} (h : ¬isRemoved a s c) : dropCrane a s c = s := if_neg h

theorem dropCrane_removed {a : Option MapBody} (h : isRemoved a s c) :
    (dropCrane a s c).crane c = CraneRec.reset ∧ (dropCrane a s c).env c = EnvRec.reset := by
  unfold isRemoved at h
  unfold dropCrane
  rw [if_pos h]
  extract_lets fault u v w
  have hw : w.crane c = CraneRec.reset ∧ w.env c = EnvRec.reset := by
    show (u.modEnv c fun _ => EnvRec.reset).crane c = _ ∧ (u.modEnv c fun _ => EnvRec.reset).env c = _
    rw [env_modEnv_same]
    exact ⟨(crane_modEnv _ _ _ _).trans (crane_modCrane_same s c _), rfl⟩
  split
  · rwa [notifyBoth_crane, notifyBoth_env]
  · exact hw

theorem dropCrane_other (a : Option MapBody) (h : c ≠ d) :
    (dropCrane a s d).crane c = s.crane c ∧ (dropCrane a s d).env c = s.env c := by
  unfold dropCrane
  extract_lets fault u v w
  have hw : w.crane c = s.crane c ∧ w.env c = s.env c := by
    show (u.modEnv d fun _ => EnvRec.reset).crane c = _ ∧ (u.modEnv d fun _ => EnvRec.reset).env c = _
    rw [env_modEnv_other _ h]
    exact ⟨(crane_modEnv _ _ _ _).trans (crane_modCrane_other s h _), rfl⟩
  split
  · split
    · rwa [notifyBoth_crane, notifyBoth_env]
    · exact hw
  · exact ⟨rfl, rfl⟩

theorem reclamp_env (s : State) (d c : Crane) : (reclamp s d).env c = s.env c := by
  unfold reclamp
  split <;> rfl

theorem reclamp_undeclared (h : s.decl c = none) : reclamp s c = s := by
  unfold reclamp; rw [h]

theorem reclamp_crane (s : State) (d c : Crane) : ((reclamp s d).crane c).link = (s.crane c).link
    ∧ (c ≠ d → (reclamp s d).crane c = s.crane c) := by
  unfold reclamp
  split
  · exact ⟨rfl, fun _ => rfl⟩
  · rw [crane_modCrane]
    split
    · rename_i e; exact ⟨by rw [e], fun h => absurd e h⟩
    · exact ⟨rfl, fun _ => rfl⟩

theorem silenceFall_ne (p : SiteParams) : silenceFall p ≠ .live := by
  unfold silenceFall
  split <;> nofun

theorem compareLimits_undeclared (h : s.declared c = false) : compareLimits s c = s := by
  unfold compareLimits
  simp [h]

theorem compareLimits_env (s : State) (d c : Crane) : (compareLimits s d).env c = s.env c := by
  unfold compareLimits
  extract_lets k
  split
  · rfl
  · split
    · exact (env_of_envs (envs_of_sansBook (sansBook_of (withdrawRequests_sansCells _ _ _))) c).trans (setLink_env _ _ _ _)
    · split
      · exact setLink_env _ _ _ _
      · rfl

theorem setLink_crane_other (h : c ≠ d) (l : LinkState) : (setLink s d l).crane c = s.crane c := by
  unfold setLink
  rw [notifyClass_crane, crane_modCrane_other _ h]

theorem compareLimits_crane_other (h : c ≠ d) : (compareLimits s d).crane c = s.crane c := by
  unfold compareLimits
  extract_lets k
  split
  · rfl
  · split
    · exact (crane_of_sansCells (withdrawRequests_sansCells _ _ _) c).trans (setLink_crane_other h _)
    · split
      · exact setLink_crane_other h _
      · rfl

/-- What the comparison makes of the compared crane's link and of the cells: a LIVE link falls with its requests, and
no other request leaves (R29, R30). -/
theorem compareLimits_cases (s : State) (c : Crane) :
    ((s.crane c).link = .live ∧ ((compareLimits s c).crane c).link ≠ .live
        ∧ ∀ x, (compareLimits s c).cell x = withdrawnRec c (s.cell x))
      ∨ ((((compareLimits s c).crane c).link = .live → (s.crane c).link = .live)
        ∧ ∀ x, (compareLimits s c).cell x = s.cell x) := by
  unfold compareLimits
  extract_lets k
  split
  · exact .inr ⟨id, fun _ => rfl⟩
  · split
    · rename_i h
      refine .inl ⟨h.1, ?_, fun x => ?_⟩
      · rw [crane_of_sansCells (withdrawRequests_sansCells _ _ _), setLink_crane]
        exact silenceFall_ne _
      · rw [withdrawRequests_cell, cell_of_cells (setLink_cells _ _ _)]
    · split
      · refine .inr ⟨fun h => ?_, fun x => cell_of_cells (setLink_cells _ _ _) x⟩
        rw [setLink_crane] at h
        cases h
      · exact .inr ⟨id, fun _ => rfl⟩

theorem adjustReport_crane (m : MapBody) (l : List CellNo) (s : State) (d c : Crane) :
    (adjustReport m l s d).crane c = s.crane c := by
  unfold adjustReport
  extract_lets k
  split <;> rfl

theorem adjustReport_other (m : MapBody) (l : List CellNo) (h : c ≠ d) : (adjustReport m l s d).env c = s.env c := by
  unfold adjustReport
  extract_lets k
  split
  · exact env_modEnv_other _ h _
  · rfl

theorem adjustReport_set (m : MapBody) (l : List CellNo) (hd : s.declared c = true)
    (hl : (s.crane c).link = .live ∨ (s.crane c).link = .stale) : ((adjustReport m l s c).env c).reportSet
      = (s.env c).reportSet.map (adjustedSet m l c (s.crane c).link) := by
  unfold adjustReport
  extract_lets k
  rw [if_pos ⟨hd, hl⟩, env_modEnv_same]

theorem formTouch_keptSet (s : State) (d c : Crane) : ((formTouch s d).env c).reportSet = (s.env c).reportSet := by
  unfold formTouch
  rw [env_modEnv]
  split
  · rename_i e; rw [e]
  · rfl

theorem touchSetOf_congr {s t : State} (hm : t.map = s.map) (hc : t.crane c = s.crane c)
    (hr : (t.env c).reportSet = (s.env c).reportSet) : touchSetOf t c = touchSetOf s c := by
  unfold touchSetOf touchLine
  rw [declared_of_map hm, hc, hm, hr]

theorem formTouch_formed (s : State) (c : Crane) : touchCells ((formTouch s c).env c) = touchSetOf s c := by
  unfold formTouch touchCells
  rw [env_modEnv_same, List.map_map]
  exact List.map_id _

end

/-! ### The cranes through the stages -/

section
variable (s : State) (cells : List CellNo)

theorem touchesTaken_cranes (c : Crane) : (touchesTaken s cells).crane c = (limitsTaken s cells).crane c :=
  (foldl_keeps (fun w : State => w.crane c) formTouch (fun _ _ => rfl) _ _).trans
    (foldl_keeps (fun w : State => w.crane c) (adjustReport s.map.staged cells)
      (fun w d => adjustReport_crane s.map.staged cells w d c) _ _)

theorem mapTaken_env (c : Crane) : (mapTaken s cells).env c = s.env c :=
  (env_setMap _ _ c).trans (env_of_envs (envs_of_sansBook (mapCleared_sansBook s cells)) c)

theorem sansLift_of_sansBook {s t : State} (h : t.sansBook = s.sansBook) (c : Crane) :
    (t.crane c).sansLift = (s.crane c).sansLift := by
  have hk := of_sansBook (fun v : State => (v.crane c).sansLift) h
  exact hk fun v => by
    show ((v.cranes.map CraneRec.sansLift)[c] : CraneRec).sansLift = _
    rw [Fin.getElem_fin, Vector.getElem_map]
    rfl

theorem mapTaken_link (c : Crane) : ((mapTaken s cells).crane c).link = (s.crane c).link := by
  have h := sansLift_of_sansBook (mapCleared_sansBook s cells) c
  exact (congrArg CraneRec.link h :)

theorem mapTaken_decl (c : Crane) : (mapTaken s cells).decl c = s.map.staged.decls[c] := by
  unfold State.decl
  rw [mapTaken_map]
  rfl

theorem linksFallen_cranesTaken : linksFallen s (cranesTaken s cells) := by
  have hdrop : linksFallen s (allCranes.foldl (dropCrane s.map.active) (mapTaken s cells)) := by
    refine foldl_holds (linksFallen s) _ (fun w d h c hc => ?_) _ _ fun c hc => (mapTaken_link s cells c) ▸ hc
    by_cases e : c = d
    · subst e
      by_cases hr : isRemoved s.map.active w c
      · rw [(dropCrane_removed hr).1] at hc
        cases hc
      · rw [dropCrane_kept hr] at hc
        exact h c hc
    · rw [(dropCrane_other _ e).1] at hc
      exact h c hc
  exact foldl_holds (linksFallen s) _ (fun w d h c hc => h c ((reclamp_crane w d c).1 ▸ hc)) _ _ hdrop

/-- The record of a removed crane returns to its reset values (R14). -/
theorem touchesTaken_removed {c : Crane} (hd : s.declared c = true) (hn : s.map.staged.decls[c] = none) :
    (touchesTaken s cells).crane c = CraneRec.reset := by
  have hdecl : ∀ w : State, plantOf w = plantOf (mapTaken s cells) → w.decl c = none := fun w hw =>
    (decl_of_map (map_of_plantOf hw) c).trans ((mapTaken_decl s cells c).trans hn)
  have hundecl : ∀ w : State, plantOf w = plantOf (mapTaken s cells) → w.declared c = false := fun w hw => by
    unfold State.declared
    rw [hdecl w hw]
    rfl
  have hdrop : (allCranes.foldl (dropCrane s.map.active) (mapTaken s cells)).crane c = CraneRec.reset := by
    refine allCranes_at c (P := fun w => plantOf w = plantOf (mapTaken s cells)) (Q := fun w => w.crane c = CraneRec.reset)
      (fun w d _ h => (dropCrane_plant _ w d).trans h) (fun w h => ?_)
      (fun w d hne h => (dropCrane_other _ (Ne.symm hne)).1.trans h) rfl
    exact (dropCrane_removed ⟨hd, hundecl w h⟩).1
  let P := fun w : State => plantOf w = plantOf (mapTaken s cells) ∧ w.crane c = CraneRec.reset
  have hcranes : P (cranesTaken s cells) := by
    refine foldl_holds P _ (fun w d ⟨h1, h2⟩ => ⟨(reclamp_plant w d).trans h1, ?_⟩) _ _ ⟨droppedCranes_plant s cells, hdrop⟩
    by_cases e : c = d
    · subst e
      rwa [reclamp_undeclared (hdecl w h1)]
    · exact ((reclamp_crane w d c).2 e).trans h2
  rw [touchesTaken_cranes]
  unfold limitsTaken
  extract_lets t
  split
  · refine (foldl_holds P _ (fun w d ⟨h1, h2⟩ => ⟨(compareLimits_plant w d).trans h1, ?_⟩) _ _ hcranes).2
    by_cases e : c = d
    · subst e
      rwa [compareLimits_undeclared (hundecl w h1)]
    · exact (compareLimits_crane_other e).trans h2
  · exact hcranes.2

/-- The envelope record of a crane of the new map is its own until the touch sets are formed. -/
theorem limitsTaken_env {c : Crane} (hn : (s.map.staged.decls[c]).isSome = true) :
    (limitsTaken s cells).env c = s.env c := by
  have hdrop : (allCranes.foldl (dropCrane s.map.active) (mapTaken s cells)).env c = s.env c := by
    let P := fun w : State => plantOf w = plantOf (mapTaken s cells) ∧ w.env c = s.env c
    refine (foldl_holds P _ (fun w d ⟨h1, h2⟩ => ⟨(dropCrane_plant _ w d).trans h1, ?_⟩) _ _
      ⟨rfl, mapTaken_env s cells c⟩).2
    by_cases e : c = d
    · subst e
      rwa [dropCrane_kept]
      rintro ⟨-, h⟩
      unfold State.declared at h
      rw [decl_of_map (map_of_plantOf h1), mapTaken_decl, hn] at h
      cases h
    · exact (dropCrane_other _ e).2.trans h2
  have hcranes : (cranesTaken s cells).env c = s.env c :=
    (foldl_keeps (fun w : State => w.env c) reclamp (fun w d => reclamp_env w d c) _ _).trans hdrop
  unfold limitsTaken
  extract_lets t
  split
  · exact (foldl_keeps (fun w : State => w.env c) compareLimits (fun w d => compareLimits_env w d c) _ _).trans hcranes
  · exact hcranes

theorem touchesTaken_map : (touchesTaken s cells).map = (mapTaken s cells).map := map_of_plantOf (touchesTaken_plant s cells)

theorem touchesTaken_decl (c : Crane) : (touchesTaken s cells).decl c = s.map.staged.decls[c] :=
  (decl_of_map (touchesTaken_map s cells) c).trans (mapTaken_decl s cells c)

/-- The report set of a crane of the new map with a LIVE or STALE link (R15, R53). -/
theorem touchesTaken_reportSet {c : Crane} (hn : (s.map.staged.decls[c]).isSome = true)
    (hl : ((touchesTaken s cells).crane c).link = .live ∨ ((touchesTaken s cells).crane c).link = .stale) :
    ((touchesTaken s cells).env c).reportSet = reportKept s cells c ((touchesTaken s cells).crane c).link := by
  rw [touchesTaken_cranes] at hl ⊢
  have hform : ((touchesTaken s cells).env c).reportSet
      = ((allCranes.foldl (adjustReport s.map.staged cells) (limitsTaken s cells)).env c).reportSet :=
    foldl_keeps (fun w : State => (w.env c).reportSet) formTouch (fun w d => formTouch_keptSet w d c) _ _
  rw [hform]
  refine allCranes_at c
    (P := fun w => plantOf w = plantOf (limitsTaken s cells) ∧ w.crane c = (limitsTaken s cells).crane c
      ∧ w.env c = (limitsTaken s cells).env c)
    (Q := fun w => (w.env c).reportSet = reportKept s cells c ((limitsTaken s cells).crane c).link)
    (fun w d hne ⟨h1, h2, h3⟩ => ⟨(adjustReport_plant _ _ w d).trans h1, (adjustReport_crane _ _ w d c).trans h2,
      (adjustReport_other _ _ (Ne.symm hne)).trans h3⟩)
    (fun w ⟨h1, h2, h3⟩ => ?_)
    (fun w d hne h => (congrArg EnvRec.reportSet (adjustReport_other _ _ (Ne.symm hne))).trans h) ⟨rfl, rfl, rfl⟩
  have hd : w.declared c = true := by
    unfold State.declared
    rw [decl_of_map ((map_of_plantOf (h1.trans (limitsTaken_plant s cells)))), mapTaken_decl]
    exact hn
  rw [adjustReport_set _ _ hd (h2 ▸ hl), h2, h3, limitsTaken_env s cells hn]
  rfl

/-- Every touch set is the one of R51 for the new map. -/
theorem touchesTaken_touch (c : Crane) : touchCells ((touchesTaken s cells).env c) = touchSetOf (touchesTaken s cells) c := by
  refine allCranes_at c (P := fun _ => True) (Q := fun w => touchCells (w.env c) = touchSetOf w c) (fun _ _ _ _ => trivial)
    (fun w _ => ?_) (fun w d hne h => ?_) trivial
  · rw [formTouch_formed]
    exact (touchSetOf_congr (s := w) (t := formTouch w c) rfl rfl (formTouch_keptSet w c c)).symm
  · rw [touchSetOf_congr (s := w) (t := formTouch w d) rfl rfl (formTouch_keptSet w d c), ← h]
    unfold formTouch
    rw [env_modEnv_other _ (Ne.symm hne)]

end

end Laws
end Sys2Proof.Machine

/-! SUPPORT. The cells at an activation (R14, R15, R68): what leaves their lists, and what their grants come to. -/

namespace Sys2Proof.Machine

/-- The record is the former one with entries gone from its list, each for the reason given. -/
def culled (why : Entry → Prop) (k k' : CellRec) : Prop :=
  k'.grant = k.grant ∧ ∃ p : Entry → Bool, k'.list = k.list.filter p ∧ ∀ e ∈ k.list, p e = false → why e

/-- Step 1 of an activation in the record of a differing cell (R14). -/
def disposedRec (old : Option MapBody) (new : MapBody) (x : CellNo) (k : CellRec) : CellRec :=
  match cellIn old x, new.cells[x] with
  | some _, none => CellRec.reset
  | some _, some d =>
    { k with list := k.list.filter fun e => !(isAutoEntry e && (d.guarded || (membership d (entryCrane e)).isNone)) }
  | none, _ => k

/-- No AUTO request of the crane stays in the differing cell (R14). -/
def autoBarred (s : State) (cells : List CellNo) (x : CellNo) (c : Crane) : Prop :=
  x ∈ cells ∧ (cellIn s.map.active x).isSome = true
    ∧ ∀ d, s.map.staged.cells[x] = some d → d.guarded = true ∨ membership d c = none

/-- The entry leaves the list before the touch sets are handed on: step 1 removes it, its booking is cancelled, or its
crane's link falls. -/
def leavesAtMap (s : State) (cells : List CellNo) (x : CellNo) (e : Entry) : Prop :=
  (isAutoEntry e = true ∧ autoBarred s cells x (entryCrane e))
    ∨ (∃ n, cancelsNumber s cells n ∧ isClaimOf n e = true)
    ∨ (isRequest e = true ∧ (s.crane (entryCrane e)).link = .live
        ∧ ((touchesTaken s cells).crane (entryCrane e)).link ≠ .live)

/-- The cell is removed by the new map. -/
def cellRemoved (s : State) (cells : List CellNo) (x : CellNo) : Prop :=
  x ∈ cells ∧ (cellIn s.map.active x).isSome = true ∧ s.map.staged.cells[x] = none

namespace Laws

/-! ### Entries that leave -/

section
variable {why why' : Entry → Prop} {k k' k'' : CellRec}

theorem culled_refl (why : Entry → Prop) (k : CellRec) : culled why k k :=
  ⟨rfl, fun _ => true, by simp, fun _ _ h => nomatch h⟩

theorem culled_trans (h : culled why k k') (h' : culled why k' k'') : culled why k k'' := by
  obtain ⟨hg, p, hp, hw⟩ := h
  obtain ⟨hg', q, hq, hw'⟩ := h'
  refine ⟨hg'.trans hg, fun e => q e && p e, by rw [hq, hp, List.filter_filter], fun e he hpq => ?_⟩
  cases hpe : p e with
  | false => exact hw e he hpe
  | true =>
    exact hw' e (hp ▸ List.mem_filter.mpr ⟨he, hpe⟩) (by simpa [hpe] using hpq)

theorem culled_mono (h : culled why k k') (hw : ∀ e, why e → why' e) : culled why' k k' := by
  obtain ⟨hg, p, hp, hr⟩ := h
  exact ⟨hg, p, hp, fun e he hpe => hw e (hr e he hpe)⟩

theorem culled_filter {p : Entry → Bool} (hg : k'.grant = k.grant) (hl : k'.list = k.list.filter p)
    (hw : ∀ e ∈ k.list, p e = false → why e) : culled why k k' := ⟨hg, p, hl, hw⟩

theorem culled_mem (h : culled why k k') {e : Entry} (he : e ∈ k'.list) : e ∈ k.list := by
  obtain ⟨-, p, hp, -⟩ := h
  exact (List.mem_filter.mp (hp ▸ he)).1

theorem culled_stays (h : culled why k k') {e : Entry} (he : e ∈ k.list) (hw : ¬why e) : e ∈ k'.list := by
  obtain ⟨-, p, hp, hr⟩ := h
  cases hpe : p e with
  | true => exact hp ▸ List.mem_filter.mpr ⟨he, hpe⟩
  | false => exact absurd (hr e he hpe) hw

/-- Entries with no reason to leave stay in their order. -/
theorem culled_sublist (h : culled why k k') {q : Entry → Bool} (hq : ∀ e ∈ k.list, q e = true → ¬why e) :
    (k.list.filter q).Sublist k'.list := by
  obtain ⟨-, p, hp, hr⟩ := h
  have hqp : k.list.filter q = (k.list.filter p).filter q := by
    rw [List.filter_filter]
    refine List.filter_congr fun e he => ?_
    cases hpe : p e with
    | true => simp
    | false =>
      cases hqe : q e with
      | false => rfl
      | true => exact absurd (hr e he hpe) (hq e he hqe)
  rw [hqp, ← hp]
  exact List.filter_sublist

end

/-! ### Step 1 -/

section
variable {s : State} {cells : List CellNo} {x : CellNo}

theorem disposeCell_cell (old : Option MapBody) (new : MapBody) (s : State) (y z : CellNo) :
    (disposeCell old new s y).cell z = if z = y then disposedRec old new y (s.cell y) else s.cell z := by
  have hself : ∀ k, k = s.cell y → s.cell z = if z = y then k else s.cell z := fun k hk => by
    split
    · rename_i e; rw [hk, e]
    · rfl
  unfold disposeCell disposedRec
  cases cellIn old y with
  | none => exact hself _ rfl
  | some c =>
    cases new.cells[y] with
    | none => exact cell_modCell _ _ _ _
    | some d => exact cell_modCell _ _ _ _

theorem disposedRec_idem (old : Option MapBody) (new : MapBody) (x : CellNo) (k : CellRec) :
    disposedRec old new x (disposedRec old new x k) = disposedRec old new x k := by
  unfold disposedRec
  split
  · rfl
  · simp only [List.filter_filter, Bool.and_self]
  · rfl

theorem disposed_cell (s : State) (cells : List CellNo) (x : CellNo) :
    (cells.foldl (disposeCell s.map.active s.map.staged) s).cell x
      = if x ∈ cells then disposedRec s.map.active s.map.staged x (s.cell x) else s.cell x :=
  foldl_cellwise (g := State.sansCells) (F := disposedRec s.map.active s.map.staged) (v := s)
    (fun w y => disposeCell_sansCells _ _ w y) (fun w y z _ => disposeCell_cell _ _ w y z)
    (disposedRec_idem _ _) cells rfl x

theorem disposed_removed (h : cellRemoved s cells x) :
    (cells.foldl (disposeCell s.map.active s.map.staged) s).cell x = CellRec.reset := by
  obtain ⟨hx, hold, hnew⟩ := h
  obtain ⟨d, hd⟩ := Option.isSome_iff_exists.mp hold
  rw [disposed_cell, if_pos hx]
  unfold disposedRec
  rw [hd, hnew]

/-- A differing cell that is emptied of all but AUTO requests loses those that the new map bars. -/
theorem disposed_culled (hd : drained s cells = true) :
    culled (fun e => isAutoEntry e = true ∧ autoBarred s cells x (entryCrane e)) (s.cell x)
      ((cells.foldl (disposeCell s.map.active s.map.staged) s).cell x) := by
  rw [disposed_cell]
  split
  · rename_i hx
    have hempty : cellEmpty s x = true := List.all_eq_true.mp hd x hx
    unfold cellEmpty at hempty
    simp only [Bool.and_eq_true, Option.isNone_iff_eq_none, List.all_eq_true] at hempty
    obtain ⟨⟨hgrant, hauto⟩, -⟩ := hempty
    unfold disposedRec
    split
    · rename_i _ hold hnew
      refine culled_filter (p := fun _ => false) hgrant.symm (by simp [CellRec.reset]) fun e he _ =>
        ⟨hauto e he, hx, by rw [hold]; rfl, fun d h => ?_⟩
      rw [hnew] at h
      cases h
    · rename_i _ d hold hnew
      refine culled_filter rfl rfl fun e he hp => ?_
      simp only [Bool.not_eq_false', Bool.and_eq_true, Bool.or_eq_true, Option.isNone_iff_eq_none] at hp
      exact ⟨hp.1, hx, by rw [hold]; rfl, fun d' h => by rw [hnew] at h; exact Option.some.inj h ▸ hp.2⟩
    · exact culled_refl _ _
  · exact culled_refl _ _

/-- No AUTO request that the new map bars is left by step 1. -/
theorem disposed_barred {c : Crane} (h : autoBarred s cells x c) :
    Entry.auto c ∉ ((cells.foldl (disposeCell s.map.active s.map.staged) s).cell x).list := by
  obtain ⟨hx, hold, hnew⟩ := h
  obtain ⟨d, hd⟩ := Option.isSome_iff_exists.mp hold
  rw [disposed_cell, if_pos hx]
  unfold disposedRec
  rw [hd]
  cases hn : s.map.staged.cells[x] with
  | none => exact List.not_mem_nil
  | some e =>
    intro hm
    have hkept := (List.mem_filter.mp hm).2
    rcases hnew e hn with hg | hg <;> simp [isAutoEntry, entryKind, entryCrane, hg] at hkept

/-! ### Step 2 -/

theorem cancelForMap_cell (s : State) (n : Nat) (x : CellNo) :
    (cancelForMap s n).cell x = s.cell x ∨ (cancelForMap s n).cell x = claimlessCell n (s.cell x) := by
  unfold cancelForMap
  split
  · rename_i b hb
    rw [endBooking_cell, withdrawClaims_cell, booking_number hb]
    exact .inr rfl
  · exact .inl rfl

theorem claimlessCell_reset (n : Nat) : claimlessCell n CellRec.reset = CellRec.reset := rfl

theorem claimlessCell_culled {why : Entry → Prop} (n : Nat) (k : CellRec) (h : ∀ e, isClaimOf n e = true → why e) :
    culled why k (claimlessCell n k) :=
  culled_filter rfl rfl fun e _ hp => h e (by simpa using hp)

theorem foldl_cancelForMap_culled (l : List Nat) (s : State) (x : CellNo) :
    culled (fun e => ∃ n ∈ l, isClaimOf n e = true) (s.cell x) ((l.foldl cancelForMap s).cell x)
      ∧ (s.cell x = CellRec.reset → (l.foldl cancelForMap s).cell x = CellRec.reset) := by
  induction l generalizing s with
  | nil => exact ⟨culled_refl _ _, id⟩
  | cons n l ih =>
    obtain ⟨h1, h2⟩ := ih (cancelForMap s n)
    have hlater := culled_mono (why' := fun e => ∃ m ∈ n :: l, isClaimOf m e = true) h1
      fun e ⟨m, hm, he⟩ => ⟨m, List.mem_cons_of_mem n hm, he⟩
    rcases cancelForMap_cell s n x with h | h
    · exact ⟨h ▸ hlater, fun hr => h2 (h.trans hr)⟩
    · rw [h] at hlater
      exact ⟨culled_trans (claimlessCell_culled n _ fun e he => ⟨n, List.mem_cons_self, he⟩) hlater,
        fun hr => h2 (by rw [h, hr, claimlessCell_reset])⟩

/-! ### The comparison of the limits -/

/-- The cells after crane by crane comparisons (R29 to R31). -/
def limitsCompared (v w : State) : Prop :=
  linksFallen v w ∧ ∀ x, culled (fun e => isRequest e = true ∧ (v.crane (entryCrane e)).link = .live
      ∧ (w.crane (entryCrane e)).link ≠ .live) (v.cell x) (w.cell x)
    ∧ (v.cell x = CellRec.reset → w.cell x = CellRec.reset)

theorem limitsCompared_refl (v : State) : limitsCompared v v := ⟨fun _ => id, fun _ => ⟨culled_refl _ _, id⟩⟩

theorem limitsCompared_step {v w : State} (h : limitsCompared v w) (c : Crane) : limitsCompared v (compareLimits w c) := by
  obtain ⟨hlinks, hcells⟩ := h
  have hdown : linksFallen w (compareLimits w c) := fun d hd => by
    by_cases e : d = c
    · subst e
      rcases compareLimits_cases w d with ⟨h1, -, -⟩ | ⟨h1, -⟩
      · exact h1
      · exact h1 hd
    · rwa [compareLimits_crane_other e] at hd
  refine ⟨fun d hd => hlinks d (hdown d hd), fun x => ?_⟩
  obtain ⟨hculled, hreset⟩ := hcells x
  have hbefore := culled_mono (why' := fun e => isRequest e = true ∧ (v.crane (entryCrane e)).link = .live
    ∧ ((compareLimits w c).crane (entryCrane e)).link ≠ .live) hculled
    fun e ⟨h1, h2, h3⟩ => ⟨h1, h2, fun h => h3 (hdown _ h)⟩
  rcases compareLimits_cases w c with ⟨h1, h2, h3⟩ | ⟨-, h3⟩
  · refine ⟨culled_trans hbefore ?_, fun hr => by rw [h3, hreset hr]; rfl⟩
    rw [h3]
    refine culled_filter rfl rfl fun e _ hp => ?_
    simp only [Bool.not_eq_false', Bool.and_eq_true, beq_iff_eq] at hp
    obtain ⟨hp, rfl⟩ := hp
    exact ⟨hp, hlinks _ h1, h2⟩
  · rw [h3]
    exact ⟨hbefore, hreset⟩

theorem limitsCompared_limitsTaken (s : State) (cells : List CellNo) :
    limitsCompared (cranesTaken s cells) (limitsTaken s cells) := by
  unfold limitsTaken
  extract_lets t
  split
  · exact foldl_holds (limitsCompared (cranesTaken s cells)) _ (fun w c h => limitsCompared_step h c) _ _
      (limitsCompared_refl _)
  · exact limitsCompared_refl _

/-! ### Up to the touch sets -/

theorem dropCrane_cell (a : Option MapBody) (s : State) (c : Crane) (x : CellNo) : (dropCrane a s c).cell x = s.cell x := by
  unfold dropCrane
  extract_lets fault u v w
  split
  · split
    · exact notifyBoth_cell _ _ _ _ _
    · rfl
  · rfl

theorem reclamp_cell (s : State) (c : Crane) (x : CellNo) : (reclamp s c).cell x = s.cell x := by
  unfold reclamp
  split <;> rfl

theorem adjustReport_cell (m : MapBody) (l : List CellNo) (s : State) (c : Crane) (x : CellNo) :
    (adjustReport m l s c).cell x = s.cell x := by
  unfold adjustReport
  extract_lets k
  split <;> rfl

theorem cranesTaken_cell (s : State) (cells : List CellNo) (x : CellNo) :
    (cranesTaken s cells).cell x = (mapCleared s cells).cell x :=
  ((foldl_keeps (fun w : State => w.cell x) reclamp (fun w c => reclamp_cell w c x) _ _).trans
    (foldl_keeps (fun w : State => w.cell x) (dropCrane s.map.active) (fun w c => dropCrane_cell _ w c x) _ _)).trans
    (cell_setMap _ _ x)

theorem touchesTaken_cell (s : State) (cells : List CellNo) (x : CellNo) :
    (touchesTaken s cells).cell x = (limitsTaken s cells).cell x :=
  (foldl_keeps (fun w : State => w.cell x) formTouch (fun _ _ => rfl) _ _).trans
    (foldl_keeps (fun w : State => w.cell x) (adjustReport s.map.staged cells)
      (fun w c => adjustReport_cell s.map.staged cells w c x) _ _)

theorem mapCleared_from (s : State) (cells : List CellNo) (x : CellNo) :
    culled (fun e => ∃ n, cancelsNumber s cells n ∧ isClaimOf n e = true)
        ((cells.foldl (disposeCell s.map.active s.map.staged) s).cell x) ((mapCleared s cells).cell x)
      ∧ ((cells.foldl (disposeCell s.map.active s.map.staged) s).cell x = CellRec.reset →
          (mapCleared s cells).cell x = CellRec.reset) := by
  unfold mapCleared
  extract_lets t
  have ht : t.book = s.book := foldl_keeps State.book _ (disposeCell_book _ _) _ _
  have hw : bookingsWhere t (cancelledByMap s.map.active s.map.staged cells)
      = bookingsWhere s (cancelledByMap s.map.active s.map.staged cells) := by unfold bookingsWhere; rw [ht]
  rw [hw]
  obtain ⟨h1, h2⟩ := foldl_cancelForMap_culled (bookingsWhere s (cancelledByMap s.map.active s.map.staged cells)) t x
  exact ⟨culled_mono h1 fun e ⟨n, hn, he⟩ => ⟨n, (mem_cancelled s cells n).mp hn, he⟩, h2⟩

/-- From step 1 to the touch sets, entries leave for their reasons. -/
theorem touchesTaken_from (s : State) (cells : List CellNo) (x : CellNo) :
    culled (leavesAtMap s cells x) ((cells.foldl (disposeCell s.map.active s.map.staged) s).cell x)
        ((touchesTaken s cells).cell x)
      ∧ ((cells.foldl (disposeCell s.map.active s.map.staged) s).cell x = CellRec.reset →
          (touchesTaken s cells).cell x = CellRec.reset) := by
  obtain ⟨h1, h2⟩ := mapCleared_from s cells x
  obtain ⟨-, hlimits⟩ := limitsCompared_limitsTaken s cells
  obtain ⟨h3, h4⟩ := hlimits x
  rw [cranesTaken_cell] at h3 h4
  rw [touchesTaken_cell]
  refine ⟨culled_trans (culled_mono h1 fun e he => .inr (.inl he)) (culled_mono h3 fun e ⟨he, hl, hn⟩ => ?_),
    fun hr => h4 (h2 hr)⟩
  exact .inr (.inr ⟨he, linksFallen_cranesTaken s cells _ hl, by rwa [touchesTaken_cranes]⟩)

theorem touchesTaken_culled (hd : drained s cells = true) (x : CellNo) :
    culled (leavesAtMap s cells x) (s.cell x) ((touchesTaken s cells).cell x) :=
  culled_trans (culled_mono (disposed_culled hd) fun _ he => .inl he) (touchesTaken_from s cells x).1

theorem touchesTaken_barred {c : Crane} (h : autoBarred s cells x c) :
    Entry.auto c ∉ ((touchesTaken s cells).cell x).list :=
  fun hm => disposed_barred h (culled_mem (touchesTaken_from s cells x).1 hm)

theorem touchesTaken_emptied (h : cellRemoved s cells x) : (touchesTaken s cells).cell x = CellRec.reset :=
  (touchesTaken_from s cells x).2 (disposed_removed h)

end

end Laws
end Sys2Proof.Machine

/-! SUPPORT. The cells after an activation's touch sets are handed on (R15, R70 to R72) and its event is served (R68, R150). -/

namespace Sys2Proof.Machine

/-- The cell leaves the crane's touch set at the activation. -/
def losesTouch (s : State) (cells : List CellNo) (c : Crane) (x : CellNo) : Prop := leftTouch s (touchesTaken s cells) c x

/-- The record that an activation leaves of a cell before its event is served (R14, R15). -/
def handedRec (s : State) (cells : List CellNo) (x : CellNo) : CellRec := (activateMap s cells).cell x

namespace Laws

section
variable {s : State} {cells : List CellNo} {x : CellNo}

theorem abandonCommit_cell (t : State) (x : CellNo) : (abandonCommit t).cell x = t.cell x := rfl

/-- What the loss of touch and auto-take keep of a record holds of the cell after every crane's turn. -/
theorem handedRec_of {P : CellRec → Prop} (h : P ((touchesTaken s cells).cell x))
    (hended : ∀ c k, losesTouch s cells c x → P k → P (endedRec (touchesTaken s cells) c k))
    (htaken : ∀ c k, autoTakes (touchesTaken s cells) c x k = true → P k → P (takenRec (touchesTaken s cells) c x k)) :
    P (handedRec s cells x) := by
  have hall : (touchesHanded s cells).sansCells = (touchesTaken s cells).sansCells
      ∧ P ((touchesHanded s cells).cell x) := by
    refine foldl_holds (fun w : State => w.sansCells = (touchesTaken s cells).sansCells ∧ P (w.cell x)) (handTouch s)
      (fun w c ⟨hw, hP⟩ => ⟨(touchService_sansCells w c _ false).trans hw, ?_⟩) _ _ ⟨rfl, h⟩
    have henv : w.env c = (touchesTaken s cells).env c := env_of_envs (envs_of_sansBook (sansBook_of hw)) c
    unfold handTouch
    rw [touchService_cell, henv, endedRec_congr hw, takenRec_congr hw]
    split
    · rename_i hx; exact hended c _ hx hP
    · split
      · cases ht : autoTakes (touchesTaken s cells) c x (w.cell x) with
        | true => exact htaken c _ ht hP
        | false =>
          rw [show takenRec (touchesTaken s cells) c x (w.cell x) = w.cell x from if_neg (by simp [ht])]
          exact hP
      · exact hP
  unfold handedRec
  rw [activateMap_eq, abandonCommit_cell]
  exact hall.2

/-! ### One record -/

theorem insertEntry_sublist (e : Entry) (l : List Entry) : l.Sublist (insertEntry e l) := by
  induction l with
  | nil => exact List.nil_sublist _
  | cons f l ih =>
    unfold insertEntry
    split
    · exact List.sublist_cons_self _ _
    · exact ih.cons_cons f

theorem placeEntry_sublist (e : Entry) (l : List Entry) : l.Sublist (placeEntry e l) := by
  cases l with
  | nil => exact List.nil_sublist _
  | cons f l => exact (insertEntry_sublist e l).cons_cons f

theorem freedOf_sublist (v : State) (k : CellRec) : k.list.Sublist (freedOf v k) := by
  unfold freedOf
  split
  · exact placeEntry_sublist _ _
  · exact List.Sublist.refl _

theorem auto_freedOf {v : State} {k : CellRec} {c : Crane} (h : Entry.auto c ∈ freedOf v k) : Entry.auto c ∈ k.list := by
  unfold freedOf at h
  split at h
  · rename_i e he
    rcases mem_placeEntry h with rfl | hm
    · obtain ⟨n, -, hb⟩ := Option.bind_eq_some_iff.mp he
      obtain ⟨b, -, hb⟩ := Option.map_eq_some_iff.mp hb
      cases hb
    · exact hm
  · exact h

theorem endedRec_list (v : State) (c : Crane) (k : CellRec) :
    (endedRec v c k).list = withoutAuto c k.list ∨ (endedRec v c k).list = withoutAuto c (freedOf v k) := by
  unfold endedRec
  split
  · exact .inr rfl
  · exact .inl rfl

theorem endedRec_sublist (v : State) {c : Crane} {k : CellRec} {l : List Entry} (h : l.Sublist k.list)
    (hl : ∀ e ∈ l, ¬(isAutoEntry e = true ∧ entryCrane e = c)) : l.Sublist (endedRec v c k).list := by
  have hself : withoutAuto c l = l := List.filter_eq_self.mpr fun e he => by
    have := hl e he
    rw [Bool.not_eq_true', Bool.and_eq_false_iff]
    by_cases ha : isAutoEntry e = true
    · exact .inr (beq_eq_false_iff_ne.mpr fun hc => this ⟨ha, hc⟩)
    · exact .inl (Bool.eq_false_iff.mpr ha)
  rcases endedRec_list v c k with e | e
  · rw [e, ← hself]
    exact h.filter _
  · rw [e, ← hself]
    exact (h.trans (freedOf_sublist v k)).filter _

theorem endedRec_auto {v : State} {c d : Crane} {k : CellRec} (h : Entry.auto d ∈ (endedRec v c k).list) :
    Entry.auto d ∈ k.list := by
  rcases endedRec_list v c k with e | e <;> rw [e] at h
  · exact (List.mem_filter.mp h).1
  · exact auto_freedOf (List.mem_filter.mp h).1

theorem takenRec_cases {v : State} {c : Crane} {k : CellRec} (h : autoTakes v c x k = true) :
    (k.grant = none ∧ k.list = [] ∧ takenRec v c x k = { k with grant := some ⟨c, .auto⟩ })
      ∨ takenRec v c x k = { k with list := k.list ++ [.auto c] } := by
  unfold takenRec
  rw [if_pos h]
  split
  · rename_i hg
    simp only [autoGrants, Bool.and_eq_true, Option.isNone_iff_eq_none, List.isEmpty_iff] at hg
    exact .inl ⟨hg.1.1.1, hg.2, rfl⟩
  · exact .inr rfl

theorem takenRec_sublist {v : State} {c : Crane} {k : CellRec} (h : autoTakes v c x k = true) :
    k.list.Sublist (takenRec v c x k).list := by
  rcases takenRec_cases h with ⟨-, -, e⟩ | e
  · rw [e]
  · rw [e]
    exact List.sublist_append_left _ _

theorem takenRec_auto {v : State} {c d : Crane} {k : CellRec} (h : autoTakes v c x k = true)
    (hm : Entry.auto d ∈ (takenRec v c x k).list) : Entry.auto d ∈ k.list ∨ d = c := by
  rcases takenRec_cases h with ⟨-, -, e⟩ | e <;> rw [e] at hm
  · exact .inl hm
  · rcases List.mem_append.mp hm with hm | hm
    · exact .inl hm
    · exact .inr (Entry.auto.inj (List.mem_singleton.mp hm))

theorem takenRec_grant {v : State} {c : Crane} {k : CellRec} {g : Grant} (h : autoTakes v c x k = true)
    (hg : k.grant = some g) : (takenRec v c x k).grant = some g := by
  rcases takenRec_cases h with ⟨hn, -, -⟩ | e
  · rw [hn] at hg; cases hg
  · rw [e]; exact hg

theorem endedRec_grant {v : State} {c : Crane} {k : CellRec} {g : Grant} (hg : k.grant = some g)
    (hn : ¬(g.kind = .auto ∧ g.holder = c)) : (endedRec v c k).grant = some g := by
  unfold endedRec
  rw [if_neg]
  · exact hg
  · intro h
    rw [hg] at h
    obtain rfl := Option.some.inj h
    exact hn ⟨rfl, rfl⟩

/-! ### The touch sets of the new map -/

theorem touchesTaken_active (s : State) (cells : List CellNo) : (touchesTaken s cells).map.active = some s.map.staged := by
  rw [touchesTaken_map, mapTaken_map]

theorem touchesTaken_cellDecl (s : State) (cells : List CellNo) (x : CellNo) :
    (touchesTaken s cells).cellDecl x = s.map.staged.cells[x] := by
  unfold State.cellDecl
  rw [touchesTaken_active]
  rfl

theorem mem_oosSet {m : Option MapBody} {c : Crane} (h : x ∈ oosSet m c) : (memberIn m x c).isSome = true := by
  unfold oosSet at h
  split at h
  · cases h
  · obtain ⟨k, hk, -⟩ := (Option.any_eq_true _ _).mp (List.mem_filter.mp h).2
    rw [hk]
    rfl

/-- A touch set holds cells of which the crane is a member, or those of its report set (R51). -/
theorem mem_touchSetOf {v : State} {c : Crane} (h : x ∈ touchSetOf v c) : v.declared c = true
    ∧ ((memberIn v.map.active x c).isSome = true ∨ x ∈ (v.env c).reportSet.getD []) := by
  unfold touchSetOf at h
  have hd : v.declared c = true := by
    by_contra hn
    rw [show touchLine v c = .undeclared from if_pos (by simp [hn])] at h
    cases h
  refine ⟨hd, ?_⟩
  split at h
  · cases h
  · exact .inl (mem_oosSet h)
  · exact .inl (List.mem_filter.mp h).2
  · exact .inl (List.mem_filter.mp h).2
  · exact .inr h
  · exact .inr h

theorem mem_reportKept {c : Crane} {l : LinkState} (h : x ∈ (reportKept s cells c l).getD []) :
    (memberIn (some s.map.staged) x c).isSome = true := by
  unfold reportKept at h
  cases hr : (s.env c).reportSet with
  | none => rw [hr] at h; cases h
  | some old =>
    rw [hr] at h
    exact ((Bool.and_eq_true _ _).mp (List.mem_filter.mp h).2).1

/-- A crane of the new map touches only cells of which it is a member there. -/
theorem touchesTaken_member {c : Crane} (hl : ((touchesTaken s cells).crane c).link = .live)
    (h : x ∈ touchCells ((touchesTaken s cells).env c)) : (memberIn (some s.map.staged) x c).isSome = true := by
  rw [touchesTaken_touch] at h
  obtain ⟨hd, hm | hr⟩ := mem_touchSetOf h
  · rwa [touchesTaken_active] at hm
  · unfold State.declared at hd
    rw [touchesTaken_decl] at hd
    rw [touchesTaken_reportSet s cells hd (.inl hl)] at hr
    exact mem_reportKept hr

theorem autoTakes_iff {v : State} {c : Crane} {k : CellRec} (h : autoTakes v c x k = true) :
    (v.cellDecl x).any (fun d => !d.guarded) = true ∧ (v.crane c).link = .live ∧ x ∈ touchCells (v.env c) := by
  unfold autoTakes at h
  simp only [Bool.and_eq_true, beq_iff_eq] at h
  obtain ⟨⟨⟨⟨⟨h1, h2⟩, -⟩, h4⟩, -⟩, -⟩ := h
  exact ⟨h1, h2, (touches_iff v c x).mp h4⟩

/-! ### The record handed on -/

theorem handedRec_grant {g : Grant} (hd : drained s cells = true) (hg : (s.cell x).grant = some g)
    (hn : ¬(g.kind = .auto ∧ losesTouch s cells g.holder x)) : (handedRec s cells x).grant = some g :=
  handedRec_of (P := fun k => k.grant = some g) ((touchesTaken_culled hd x).1.trans hg)
    (fun _ _ hx hk => endedRec_grant hk fun ⟨h1, h2⟩ => hn ⟨h1, h2 ▸ hx⟩) fun _ _ ht hk => takenRec_grant ht hk

/-- Entries that stay to the touch sets and are no AUTO requests of cranes that lose their touch stay in their order. -/
theorem handedRec_sublist {l : List Entry} (hl : l.Sublist ((touchesTaken s cells).cell x).list)
    (hn : ∀ e ∈ l, isAutoEntry e = true → ¬losesTouch s cells (entryCrane e) x) : l.Sublist (handedRec s cells x).list :=
  handedRec_of (P := fun k => l.Sublist k.list) hl
    (fun _ _ hx hk => endedRec_sublist _ hk fun e he ⟨h1, h2⟩ => hn e he h1 (h2 ▸ hx))
    fun _ _ ht hk => hk.trans (takenRec_sublist ht)

theorem handedRec_barred {c : Crane} (h : autoBarred s cells x c) : Entry.auto c ∉ (handedRec s cells x).list := by
  refine handedRec_of (P := fun k => Entry.auto c ∉ k.list) (touchesTaken_barred h)
    (fun _ _ _ hk hm => hk (endedRec_auto hm)) fun d k ht hk hm => ?_
  rcases takenRec_auto ht hm with hm | rfl
  · exact hk hm
  · obtain ⟨hopen, hlive, htouch⟩ := autoTakes_iff ht
    rw [touchesTaken_cellDecl] at hopen
    obtain ⟨d, hd, hg⟩ := (Option.any_eq_true _ _).mp hopen
    have hmember := touchesTaken_member hlive htouch
    rcases h.2.2 d hd with hb | hb
    · rw [hb] at hg; cases hg
    · unfold memberIn at hmember
      rw [show cellIn (some s.map.staged) x = some d from hd, Option.bind_some, hb] at hmember
      cases hmember

theorem handedRec_emptied (h : cellRemoved s cells x) : handedRec s cells x = CellRec.reset := by
  refine handedRec_of (P := fun k => k = CellRec.reset) (touchesTaken_emptied h) (fun c k _ hk => ?_) fun c k ht _ => ?_
  · rw [hk]; rfl
  · obtain ⟨hopen, -, -⟩ := autoTakes_iff ht
    rw [touchesTaken_cellDecl, h.2.2] at hopen
    cases hopen

/-! ### The event served -/

section
variable {s0 u : State} {l : List Entry}

/-- An admission keeps the holder of a HELD cell. -/
theorem Admits_holder {v : State} (h : Admits u v) {g : Grant} (hg : (u.cell x).grant = some g) :
    ∃ kind, (v.cell x).grant = some ⟨g.holder, kind⟩ := by
  rcases h.cell x with e | ⟨b, hb, hx⟩
  · exact ⟨g.kind, by rw [e, hg]⟩
  · refine ⟨.booked, ?_⟩
    rw [hb.cells x hx]
    rcases (hb.ready.2 x hx).2.1 with hh | ⟨hn, -⟩
    · have hholder : g.holder = b.crane := by simpa [State.holds, hg] using hh
      rw [hholder]
      rfl
    · rw [hg] at hn; cases hn

/-- The admissions of an event leave a list but for the claims admitted. -/
theorem Admits_list {v : State} (h : Admits u v) (x : CellNo) :
    (v.cell x).list = (u.cell x).list
      ∨ ∃ n, bookStateOf v n = some .admitted ∧ (v.cell x).list = withoutClaim n (u.cell x).list := by
  rcases h.cell x with e | ⟨b, hb, hx⟩
  · exact .inl (by rw [e])
  · refine .inr ⟨b.number, ?_, by rw [hb.cells x hx]; rfl⟩
    unfold bookStateOf
    rw [hb.booked]
    rfl

theorem withoutClaim_sublist {n : Nat} {l m : List Entry} (h : l.Sublist m) (hl : ∀ e ∈ l, isRequest e = true) :
    l.Sublist (withoutClaim n m) := by
  have hself : withoutClaim n l = l := List.filter_eq_self.mpr fun e he => by
    have := hl e he
    cases e with
    | claim => cases this
    | entry => rfl
    | auto => rfl
  rw [← hself]
  exact h.filter _

theorem Admits_sublist {v : State} (h : Admits u v) (hl : ∀ e ∈ l, isRequest e = true)
    (hs : l.Sublist (u.cell x).list) : l.Sublist (v.cell x).list := by
  rcases Admits_list h x with e | ⟨n, -, e⟩ <;> rw [e]
  · exact hs
  · exact withoutClaim_sublist hs hl

/-- Requests stay when an event is served, but for a first one that is granted (R62, R68). -/
theorem served_requests (hl : ∀ e ∈ l, isRequest e = true) (hs : l.Sublist (u.cell x).list) :
    requestsStay (eventServed s0 u) x l := by
  have ha := admits_served s0 u
  rcases serveCells_cases s0 u x with ⟨r, hr⟩ | ⟨e, rest, r, hlist, -, -, hr⟩
  · exact .inl (Admits_sublist ha hl (by rw [hr]; exact hs))
  · have hrest : ∀ l' : List Entry, (∀ e ∈ l', isRequest e = true) → l'.Sublist rest →
        l'.Sublist ((eventServed s0 u).cell x).list := fun l' hl' h => Admits_sublist ha hl' (by rw [hr]; exact h)
    rw [hlist] at hs
    cases hs with
    | cons _ h => exact .inl (hrest l hl h)
    | cons_cons _ h =>
      obtain ⟨kind, hk⟩ := Admits_holder (x := x) (g := ⟨entryCrane e, requestKind e⟩) ha (by rw [hr])
      refine .inr ⟨e, _, rfl, ?_, hrest _ (fun f hf => hl f (List.mem_cons_of_mem _ hf)) h⟩
      simp [State.holds, hk]

/-- A claim stays when an event is served until its booking is admitted. -/
theorem served_claim {n : Nat} {c : Crane} {t : Nat} (h : Entry.claim n c t ∈ (u.cell x).list) :
    Entry.claim n c t ∈ ((eventServed s0 u).cell x).list ∨ bookStateOf (eventServed s0 u) n = some .admitted := by
  have hserved : Entry.claim n c t ∈ ((serveCells s0 u).cell x).list := by
    rcases serveCells_cases s0 u x with ⟨r, hr⟩ | ⟨e, rest, r, hlist, he, -, hr⟩
    · rw [hr]; exact h
    · rw [hr]
      rw [hlist] at h
      rcases List.mem_cons.mp h with rfl | h
      · cases he
      · exact h
  rcases Admits_list (admits_served s0 u) x with e | ⟨m, hm, e⟩
  · exact .inl (e ▸ hserved)
  · by_cases hnm : n = m
    · exact .inr (hnm ▸ hm)
    · refine .inl (e ▸ List.mem_filter.mpr ⟨hserved, ?_⟩)
      simpa [isClaimOf] using hnm

/-- An event that is served adds no entry to a list. -/
theorem served_mem {e : Entry} (h : e ∈ ((eventServed s0 u).cell x).list) : e ∈ (u.cell x).list := by
  have hadmits : e ∈ ((serveCells s0 u).cell x).list := by
    rcases Admits_list (admits_served s0 u) x with k | ⟨m, -, k⟩ <;> rw [k] at h
    · exact h
    · exact (List.mem_filter.mp h).1
  rcases serveCells_cases s0 u x with ⟨r, hr⟩ | ⟨f, rest, r, hlist, -, -, hr⟩ <;> rw [hr] at hadmits
  · exact hadmits
  · exact hlist ▸ List.mem_cons_of_mem f hadmits

/-- A cell at its reset record that no DUE booking names is left by the service of an event. -/
theorem served_reset (h : u.cell x = CellRec.reset) (hd : ¬dueForCell u x) :
    (eventServed s0 u).cell x = CellRec.reset := by
  rw [served_cell hd, serveCells_refused (by rw [h]; rfl) (fun e rest hl => ?_), h]
  rw [h] at hl
  cases hl

end

end

end Laws
end Sys2Proof.Machine

/-! SUPPORT. COMMIT with every differing cell empty: the staged map made active (O24, R13 to R15, R19). -/

namespace Sys2Proof.Machine

/-- `t` is what an activation leaves, as far as its event changes it. -/
structure Activated (s : State) (cells : List CellNo) (t : State) : Prop where
  cell : ∀ x, t.cell x = (eventServed s (activateMap s cells)).cell x
  book : t.book = (eventServed s (activateMap s cells)).book
  env : ∀ c, t.env c = (touchesTaken s cells).env c
  link : ∀ c, (t.crane c).link = ((touchesTaken s cells).crane c).link
  duty : ∀ c, (t.crane c).duty = ((touchesTaken s cells).crane c).duty
  map : t.map = s.map.activated
  store : t.store = beginWrite (beginWrite s.store (.map s.map.staged)) (.options s.map.stagedParams)
  removed : ∀ c, s.declared c = true → s.map.staged.decls[c] = none → t.crane c = CraneRec.reset

namespace Laws

/-! ### The outputs and a crane at its reset record -/

section
variable {s s0 : State} {c : Crane}

theorem composeVaneNow_reset (h : s.crane c = CraneRec.reset) (d : Crane) :
    (composeVaneNow s d).crane c = CraneRec.reset := by
  rw [composeVaneNow_eq]
  split
  · rw [releaseSet_crane, h]
  · rw [feedbackEvent_crane]
    split
    · rename_i e
      rw [← e.1, notifyBoth_crane, releaseSet_crane, h]
      rfl
    · rw [notifyBoth_crane, releaseSet_crane, h]

theorem composeLines_crane (s : State) (d c : Crane) : (composeLines s d).crane c = s.crane c := by
  unfold composeLines
  dsimp only
  split
  · rfl
  · rw [notify_crane]; rfl

theorem updateSignals_crane (s : State) (c : Crane) : (updateSignals s).crane c = s.crane c :=
  updateSignals_keeps (fun u : State => u.crane c) (fun _ _ _ => rfl) (fun _ _ => rfl) s

theorem compose_reset (h : s.crane c = CraneRec.reset) : (compose s0 s).crane c = CraneRec.reset := by
  rw [compose_eq, updateSignals_crane]
  refine foldl_holds (fun w : State => w.crane c = CraneRec.reset) (composeVane s0) (fun w d hw => ?_) _ _ ?_
  · unfold composeVane
    split
    · exact composeVaneNow_reset hw d
    · exact hw
  · exact (foldl_keeps (fun w : State => w.crane c) composeLines (fun w d => composeLines_crane w d c) _ _).trans h

theorem parkingTest_crane (s : State) (c : Crane) : (parkingTest s).crane c = s.crane c :=
  of_sansWind (fun w : State => w.crane c) (parkingTest_sansWind s) fun _ => rfl

theorem announceMap_crane (s : State) (a b : Nat) (c : Crane) : (announceMap s a b).crane c = s.crane c :=
  notifyClass_crane _ _ _ _

end

/-! ### The rest of an activation -/

/-- What the announcement, the parking test and the composition of the outputs leave of the state served. -/
theorem announced_keeps {u t : State} {a b : Nat} (h : t.sansOutputs = (parkingTest (announceMap u a b)).sansOutputs) :
    t.cells = u.cells ∧ t.book = u.book ∧ t.envs = u.envs ∧ t.map = u.map
      ∧ t.store = beginWrite (beginWrite u.store (.map u.map.staged)) (.options u.map.params)
      ∧ ∀ c, (t.crane c).sansFault = (u.crane c).sansFault := by
  have htest := parkingTest_sansWind (announceMap u a b)
  have hnote : (announceMap u a b).sansNotices
      = (startWrite (startWrite u (.map u.map.staged)) (.options u.map.params)).sansNotices := notifyClass_sansNotices _ _ _
  refine ⟨?_, ?_, ?_, ?_, ?_, fun c => ?_⟩
  · exact (of_sansOutputs State.cells h fun _ => rfl).trans ((of_sansWind State.cells htest fun _ => rfl).trans
      ((of_sansNotices State.cells hnote fun _ => rfl).trans rfl))
  · exact (of_sansOutputs State.book h fun _ => rfl).trans ((parkingTest_book _).trans (announceMap_book u a b))
  · exact (of_sansOutputs State.envs h fun _ => rfl).trans ((of_sansWind State.envs htest fun _ => rfl).trans
      ((of_sansNotices State.envs hnote fun _ => rfl).trans rfl))
  · exact (of_sansOutputs State.map h fun _ => rfl).trans ((of_sansWind State.map htest fun _ => rfl).trans
      ((of_sansNotices State.map hnote fun _ => rfl).trans rfl))
  · exact (of_sansOutputs State.store h fun _ => rfl).trans ((of_sansWind State.store htest fun _ => rfl).trans
      ((of_sansNotices State.store hnote fun _ => rfl).trans rfl))
  · rw [sansFault_of_sansOutputs h c, parkingTest_crane, announceMap_crane]

section
variable (s : State) (cells : List CellNo)

theorem abandonCommit_envs (t : State) : (abandonCommit t).envs = t.envs := rfl

theorem activateMap_env (c : Crane) : (activateMap s cells).env c = (touchesTaken s cells).env c := by
  rw [activateMap_eq, env_of_envs (abandonCommit_envs _)]
  exact env_of_envs (envs_of_sansBook (sansBook_of (touchesHanded_sansCells s cells))) c

theorem abandonCommit_crane (t : State) (c : Crane) : (abandonCommit t).crane c = t.crane c := rfl

theorem activateMap_crane (c : Crane) : (activateMap s cells).crane c = (touchesTaken s cells).crane c := by
  rw [activateMap_eq, abandonCommit_crane]
  exact crane_of_sansCells (touchesHanded_sansCells s cells) c

/-- A live booking after the cancellations is one that the activation does not cancel. -/
theorem activateMap_uncancelled {b : Booking} (h : b ∈ (activateMap s cells).book.live) :
    cancelledByMap s.map.active s.map.staged cells b = false := by
  rw [activateMap_book, mapCleared_live] at h
  exact Bool.eq_false_iff.mpr fun hc => h.2 ⟨b, h.1, hc, rfl⟩

theorem activateMap_crane_undue {c : Crane} (hn : s.map.staged.decls[c] = none) : ¬dueForCrane (activateMap s cells) c := by
  rintro ⟨b, hb, -, rfl⟩
  have h := activateMap_uncancelled s cells hb
  unfold cancelledByMap at h
  rw [hn] at h
  simp at h

theorem activateMap_cell_undue {x : CellNo} (hr : cellRemoved s cells x) : ¬dueForCell (activateMap s cells) x := by
  rintro ⟨b, hb, -, hx⟩
  obtain ⟨hin, hold, hnew⟩ := hr
  have h := activateMap_uncancelled s cells hb
  unfold cancelledByMap at h
  rw [Bool.or_eq_false_iff, List.any_eq_false] at h
  refine h.2 x hx ?_
  have hmember : memberIn (some s.map.staged) x b.crane = none := by
    unfold memberIn
    rw [show cellIn (some s.map.staged) x = none from hnew]
    rfl
  rw [hold, hmember, List.contains_iff_mem.mpr hin]
  rfl

theorem of_sansLift {j k : CraneRec} (h : j.sansLift = k.sansLift) : j.link = k.link ∧ j.duty = k.duty :=
  ⟨(congrArg CraneRec.link h :), (congrArg CraneRec.duty h :)⟩

theorem activated_composed : Activated s cells (compose s (activate s cells)) := by
  have hvane : (compose s (activate s cells)).sansOutputs = (parkingTest (announceMap (eventServed s (activateMap s cells))
      cells.length (bookingsWhere s (cancelledByMap s.map.active s.map.staged cells)).length)).sansOutputs := by
    rw [compose_sansOutputs, activate_eq]
    exact foldl_keeps State.sansOutputs composeVaneNow composeVaneNow_sansOutputs _ _
  obtain ⟨hcells, hbook, henvs, hmap, hstore, hcrane⟩ := announced_keeps hvane
  have hserved := served_sansBook s (activateMap s cells)
  obtain ⟨hmapA, -, hstoreA⟩ := activateMap_plant s cells
  have hmapE : (eventServed s (activateMap s cells)).map = s.map.activated := (map_of_sansBook hserved).trans hmapA
  have hrec : ∀ c, ((compose s (activate s cells)).crane c).link = ((touchesTaken s cells).crane c).link
      ∧ ((compose s (activate s cells)).crane c).duty = ((touchesTaken s cells).crane c).duty := fun c => by
    obtain ⟨hlink, hduty, -, -⟩ := eq_of_sansFault (hcrane c)
    obtain ⟨hlink', hduty'⟩ := of_sansLift (served_sansLift s (activateMap s cells) c)
    rw [hlink, hduty, hlink', hduty', activateMap_crane]
    exact ⟨rfl, rfl⟩
  refine ⟨fun x => cell_of_cells hcells x, hbook, fun c => ?_, fun c => (hrec c).1, fun c => (hrec c).2, hmap.trans hmapE, ?_, fun c hd hn => ?_⟩
  · rw [env_of_envs henvs, env_of_envs (envs_of_sansBook hserved), activateMap_env]
  · rw [hstore, (store_of_sansBook hserved).trans hstoreA, hmapE]
    rfl
  · refine compose_reset ?_
    rw [activate_eq]
    refine foldl_holds (fun w : State => w.crane c = CraneRec.reset) composeVaneNow (fun w d hw => composeVaneNow_reset hw d)
      _ _ ?_
    rw [parkingTest_crane, announceMap_crane, served_crane (activateMap_crane_undue s cells hn), activateMap_crane,
      touchesTaken_removed s cells hd hn]

end

theorem Activated_answer {s t : State} {cells : List CellNo} (h : Activated s cells t) (p : Port) (k : ReqKind) (r : Result) :
    Activated s cells (t.answer p k r).transmit := by
  have hf := Follows_answer t p k r
  have hcrane : ∀ c, ((t.answer p k r).transmit).crane c = t.crane c := fun c => transmit_crane _ c
  exact ⟨fun x => (Follows_cell hf x).trans (h.cell x), hf.book.trans h.book, fun c => (Follows_env hf c).trans (h.env c),
    fun c => (congrArg CraneRec.link (hcrane c)).trans (h.link c),
    fun c => (congrArg CraneRec.duty (hcrane c)).trans (h.duty c), hf.map.trans h.map, hf.store.trans h.store,
    fun c hd hn => (hcrane c).trans (h.removed c hd hn)⟩

/-! ### What the activation leaves -/

section
variable {s t : State} {cells : List CellNo} (h : Activated s cells t)
include h

theorem activated_active : t.map.active = some s.map.staged := by rw [h.map]; rfl

theorem activated_declared (c : Crane) : t.declared c = (s.map.staged.decls[c]).isSome := by
  unfold State.declared State.decl
  rw [activated_active h]
  rfl

theorem activated_undeclared {c : Crane} (hn : t.declared c = false) : touchCells (t.env c) = [] := by
  rw [h.env, touchesTaken_touch]
  have hd : (touchesTaken s cells).declared c = false := by
    rw [activated_declared h, ← touchesTaken_decl s cells] at hn
    exact hn
  unfold touchSetOf
  rw [show touchLine (touchesTaken s cells) c = .undeclared from if_pos (by simp [hd])]

theorem activated_touch_left (c : Crane) (x : CellNo) : leftTouch s t c x ↔ losesTouch s cells c x := by
  unfold losesTouch leftTouch
  rw [h.env]

theorem activated_holder (hd : drained s cells = true) {x : CellNo} {g : Grant} (hg : (s.cell x).grant = some g)
    (hn : ¬(g.kind = .auto ∧ leftTouch s t g.holder x)) : stillHeld t x g := by
  rw [activated_touch_left h] at hn
  have := served_holders (s0 := s) (u := activateMap s cells) (handedRec_grant hd hg hn)
  unfold stillHeld at this ⊢
  rwa [h.cell]

theorem activated_booking (n : Nat) : t.booking n = (eventServed s (activateMap s cells)).booking n := booking_congr h.book n

theorem activated_cancelled {n : Nat} (hc : cancelsNumber s cells n) : t.booking n = none := by
  have hu : (activateMap s cells).booking n = none :=
    (booking_congr (activateMap_book s cells) n).trans (mapCleared_cancelled s cells hc)
  rw [activated_booking h]
  rcases served_booking_cases s (activateMap s cells) n with e | ⟨b, hb, -⟩
  · exact e.trans hu
  · rw [hu] at hb; cases hb

theorem activated_kept {n : Nat} {b : Booking} (hb : s.booking n = some b) (hd : b.state ≠ .due)
    (hc : ¬cancelsNumber s cells n) : t.booking n = some b := by
  rw [activated_booking h]
  refine served_booking ?_ hd
  rw [booking_congr (activateMap_book s cells), mapCleared_booking s cells hc, hb]

theorem activated_claim (hd : drained s cells = true) {x : CellNo} {n : Nat} {c : Crane} {u : Nat}
    (hm : Entry.claim n c u ∈ (s.cell x).list) (hc : ¬cancelsNumber s cells n) :
    Entry.claim n c u ∈ (t.cell x).list ∨ bookStateOf t n = some .admitted := by
  have hstays : Entry.claim n c u ∈ ((touchesTaken s cells).cell x).list := by
    refine culled_stays (touchesTaken_culled hd x) hm ?_
    rintro (⟨ha, -⟩ | ⟨m, hm, hn⟩ | ⟨hr, -⟩)
    · cases ha
    · obtain rfl : n = m := by simpa [isClaimOf] using hn
      exact hc hm
    · cases hr
  have hhanded : Entry.claim n c u ∈ (handedRec s cells x).list := by
    refine (handedRec_sublist (l := [.claim n c u]) (List.singleton_sublist.mpr hstays) fun e he ha => ?_).subset
      List.mem_cons_self
    rw [List.mem_singleton.mp he] at ha
    cases ha
  unfold bookStateOf
  rw [h.cell, activated_booking h]
  exact served_claim hhanded

theorem activated_barred {x : CellNo} {c : Crane} (hb : autoBarred s cells x c) : Entry.auto c ∉ (t.cell x).list := by
  rw [h.cell]
  exact fun hm => handedRec_barred hb (served_mem hm)

theorem activated_emptied {x : CellNo} (hr : cellRemoved s cells x) : t.cell x = CellRec.reset := by
  rw [h.cell]
  exact served_reset (handedRec_emptied hr) (activateMap_cell_undue s cells hr)

/-- A request that survives has no reason to leave. -/
theorem activated_survives (hcells : cells = differing s.map) {x : CellNo} {e : Entry} (he : survivesActivation s t x e = true) :
    isRequest e = true ∧ ¬leavesAtMap s cells x e ∧ (isAutoEntry e = true → ¬losesTouch s cells (entryCrane e) x) := by
  unfold survivesActivation at he
  simp only [Bool.and_eq_true, Bool.or_eq_true, Bool.not_eq_true', bne_iff_ne, beq_iff_eq] at he
  obtain ⟨⟨hreq, hlink⟩, hauto⟩ := he
  refine ⟨hreq, ?_, fun ha hlost => ?_⟩
  · rintro (⟨ha, hin, -, hbar⟩ | ⟨n, -, hn⟩ | ⟨-, hlive, hfell⟩)
    · rw [ha] at hauto
      obtain ⟨hopen, -⟩ := hauto.resolve_left nofun
      rcases hopen with hopen | hopen
      · rw [← hcells, List.contains_iff_mem.mpr hin] at hopen
        cases hopen
      · obtain ⟨d, hd, hfree⟩ := (Option.any_eq_true _ _).mp hopen
        unfold State.cellDecl at hd
        rw [activated_active h] at hd
        simp only [Bool.and_eq_true, Bool.not_eq_true'] at hfree
        rcases hbar d hd with hg | hg
        · rw [hg] at hfree; cases hfree.1
        · rw [hg] at hfree; cases hfree.2
    · cases e with
      | claim => cases hreq
      | entry => cases hn
      | auto => cases hn
    · rcases hlink with hlink | hlink
      · exact hlink hlive
      · exact hfell ((h.link _).symm.trans hlink)
  · rw [ha] at hauto
    obtain ⟨-, htouch⟩ := hauto.resolve_left nofun
    obtain ⟨h1, h2⟩ := (activated_touch_left h _ x).mpr hlost
    rw [(touches_iff s _ x).mpr h1, Bool.eq_false_iff.mpr fun k => h2 ((touches_iff t _ x).mp k)] at htouch
    cases htouch

theorem activated_requests (hd : drained s cells = true) (hcells : cells = differing s.map) (x : CellNo) :
    requestsStay t x ((s.cell x).list.filter (survivesActivation s t x)) := by
  have hsurvives : ∀ e ∈ (s.cell x).list.filter (survivesActivation s t x), survivesActivation s t x e = true :=
    fun e he => (List.mem_filter.mp he).2
  have hstay := culled_sublist (touchesTaken_culled hd x) (q := survivesActivation s t x)
    fun e _ he => (activated_survives h hcells he).2.1
  have hhanded := handedRec_sublist hstay fun e he => (activated_survives h hcells (hsurvives e he)).2.2
  have hserved := served_requests (s0 := s) (u := activateMap s cells) (x := x)
    (fun e he => (activated_survives h hcells (hsurvives e he)).1) hhanded
  unfold requestsStay State.holds at hserved ⊢
  rwa [h.cell]

end

end Laws
end Sys2Proof.Machine

/-! SUPPORT. The touch sets after an activation (R15, R51), and COMMIT with every differing cell empty (O24). -/

namespace Sys2Proof.Machine.Laws

open Sys2Proof Sys2Proof.Machine

section
variable {s t : State} {cells : List CellNo}

/-- The lines of R51's table for a declared crane. -/
theorem touchSetOf_declared {v : State} {c : Crane} (hd : v.declared c = true) :
    ((v.crane c).duty = .outOfService → touchSetOf v c = oosSet v.map.active c)
      ∧ ((v.crane c).duty ≠ .outOfService → (v.crane c).link = .live ∨ (v.crane c).link = .stale →
          touchSetOf v c = (v.env c).reportSet.getD [])
      ∧ ((v.crane c).duty ≠ .outOfService → ¬((v.crane c).link = .live ∨ (v.crane c).link = .stale) →
          touchSetOf v c = memberCells v.map.active c) := by
  unfold touchSetOf touchLine
  rw [if_neg (by simp [hd])]
  refine ⟨fun h => by rw [if_pos h], fun h hl => ?_, fun h hl => ?_⟩
  · rw [if_neg h]
    rcases hl with hl | hl <;> rw [hl]
  · rw [if_neg h]
    cases hk : (v.crane c).link with
    | live => exact absurd (.inl hk) hl
    | stale => exact absurd (.inr hk) hl
    | none => rfl
    | lost => rfl

/-- The touch set of a crane of the new map. -/
theorem activated_touch (h : Activated s cells t) {c : Crane} (hd : t.declared c = true) :
    if (t.crane c).duty = .outOfService then touchCells (t.env c) = oosSet (some s.map.staged) c
    else if (t.crane c).link = .live ∨ (t.crane c).link = .stale then
      (t.env c).reportSet = reportKept s cells c (t.crane c).link
        ∧ touchCells (t.env c) = (reportKept s cells c (t.crane c).link).getD []
    else touchCells (t.env c) = memberCells (some s.map.staged) c := by
  rw [activated_declared h] at hd
  have hdecl : (touchesTaken s cells).declared c = true := by
    unfold State.declared
    rwa [touchesTaken_decl]
  obtain ⟨hoos, hreport, hmember⟩ := touchSetOf_declared hdecl
  rw [← h.duty, touchesTaken_active] at hoos
  rw [← h.duty, ← h.link] at hreport
  rw [← h.duty, ← h.link, touchesTaken_active] at hmember
  rw [h.env, touchesTaken_touch]
  split
  · rename_i hk; exact hoos hk
  · rename_i hk
    split
    · rename_i hl
      have hset := touchesTaken_reportSet s cells hd (by rwa [← h.link])
      rw [← h.link] at hset
      exact ⟨hset, (hreport hk hl).trans (by rw [hset])⟩
    · rename_i hl; exact hmember hk hl

/-- The activation cancels a booking by its number. -/
theorem cancelledByMap_iff (b : Booking) : cancelledByMap s.map.active s.map.staged cells b = true
    ↔ (s.map.staged.decls[b.crane]).isNone ∨ ∃ k ∈ b.cells, k ∈ cells ∧ (cellIn s.map.active k).isSome
        ∧ memberIn (some s.map.staged) k b.crane = none := by
  unfold cancelledByMap
  simp [and_assoc]

/-- A COMMIT of a map that passes, every differing cell being empty (R13). -/
theorem doCommit_activates {x : Sup} (hx : x = s.holder) (hi : s.map.commit = .idle) (hv : mapValid s.map.staged)
    (hd : drained s (differing s.map) = true) : perform (.s x) .commit s
      = (compose s (activate s (differing s.map))).answer (.s x) .commit (.committed (differing s.map).length) := by
  rw [show perform (.s x) .commit s = doCommit x s from rfl, doCommit, firstRefusal_stageChecks_idle hx hi,
    (validate_spec _).2.2 hv]
  exact if_pos hd

theorem mem_differing {k : CellNo} (hold : (cellIn s.map.active k).isSome = true) (hnew : (s.map.staged.cells[k]).isNone = true) :
    k ∈ differing s.map := by
  obtain ⟨d, hd⟩ := Option.isSome_iff_exists.mp hold
  refine List.mem_filter.mpr ⟨mem_allCells k, ?_⟩
  rw [hd, Option.isNone_iff_eq_none.mp hnew]
  rfl

end

/-- Settles O24: the staged map made active stage by stage, then its event served. -/
theorem commitActivatesTheStagedMap : Obligations.CommitActivatesTheStagedMap := by
  intro x s hat hx hi hv hd
  have row := (exec_attended hat .commit).trans (by rw [doCommit_activates hx hi hv hd])
  have hkept := kept_answered (s := s) (t := compose s (activate s (differing s.map)))
    ((compose_core s _).trans (activate_core s _)) (compose_grows s (activate_grows (Grows.refl s) _)) (.s x)
    ⟨respKind .commit, .ok, none, .committed (differing s.map).length⟩
  have hact := Activated_answer (activated_composed s (differing s.map)) (.s x) .commit (.committed (differing s.map).length)
  refine ⟨_, row, responds_transmit (answer_slot _ _ _ _), ?_⟩
  change keepsSite s ((compose s (activate s (differing s.map))).answer (.s x) .commit
    (.committed (differing s.map).length)).transmit ∧ keepsPorts (some (.s x)) s ((compose s (activate s
      (differing s.map))).answer (.s x) .commit (.committed (differing s.map).length)).transmit at hkept
  generalize ((compose s (activate s (differing s.map))).answer (.s x) .commit
    (.committed (differing s.map).length)).transmit = t at hkept hact ⊢
  have hcancels : ∀ n, (∀ d ∈ s.book.live, d.number = n → ¬((s.map.staged.decls[d.crane]).isNone
      ∨ ∃ k ∈ d.cells, k ∈ differing s.map ∧ (cellIn s.map.active k).isSome
        ∧ memberIn (some s.map.staged) k d.crane = none)) → ¬cancelsNumber s (differing s.map) n := by
    rintro n hn ⟨d, hm, hc, he⟩
    exact hn d hm he ((cancelledByMap_iff d).mp hc)
  refine ⟨hact.map, hact.store, fun k hold hnew => ?_, fun c hdecl hnew => ?_, ⟨fun n b hb hc => ?_, ?_, ?_⟩, ?_, ?_, ?_, ?_, ?_,
    hkept⟩
  · exact activated_emptied hact ⟨mem_differing hold hnew, hold, Option.isNone_iff_eq_none.mp hnew⟩
  · exact hact.removed c hdecl (Option.isNone_iff_eq_none.mp hnew)
  · exact activated_cancelled hact ⟨b, booking_mem hb, (cancelledByMap_iff b).mpr hc, booking_number hb⟩
  · exact fun k n c u hm hn => activated_claim hact hd hm (hcancels n hn)
  · exact fun n b hb hs hn => activated_kept hact hb hs (hcancels n hn)
  · exact fun c hn => activated_undeclared hact hn
  · exact fun c hdecl => activated_touch hact hdecl
  · exact fun k g hg hn => activated_holder hact hd hg hn
  · intro k d c hk hold hnew hbar
    refine activated_barred hact ⟨hk, hold, fun d' hd' => ?_⟩
    rw [hnew] at hd'
    exact Option.some.inj hd' ▸ hbar
  · exact fun k => activated_requests hact hd rfl k

end Sys2Proof.Machine.Laws
